-- ==== Sys2Proof/Word.lean ====
section
/-! DEFINITION. The byte and the limits of the quantities of 00_scope.md, "Quantities and units". -/

namespace Sys2Proof

/-- A byte of a message (R175, R200). -/
abbrev Byte := BitVec 8

/-- The greatest value of a 32-bit quantity: station time, observation number, archive index. -/
abbrev max32 : Nat := 4294967295

/-- The greatest value of a 16-bit count. -/
abbrev max16 : Nat := 65535

/-- Q_MAX, the greatest discharge in litres per second (00_scope.md, R44). -/
abbrev qMax : Nat := 40000000

/-- The least stage in millimetres (00_scope.md). -/
abbrev stageMin : Int := -2000

/-- The greatest stage in millimetres (00_scope.md). -/
abbrev stageMax : Int := 20000

/-- Whether a stage lies in the range the part holds (00_scope.md). -/
def stageOk (h : Int) : Bool := decide (stageMin ≤ h) && decide (h ≤ stageMax)

end Sys2Proof
end

