-- ==== Sys2Proof/Syntax.lean ====
section
/-! DEFINITION. The commands of the part: one constructor of Instr for each row of opcode_table.json, with the
operands the row's rule names. A request carries its port, its tag and its fields; `none` for the fields stands
for a payload whose size is not the one the fields take (R177 step 3, R46 check 1, R113 check 2). -/

namespace Sys2Proof

/-- The three ports (00_scope.md, R175). -/
inductive Port where
  | L | T | F
deriving DecidableEq, Repr

/-- The two asynchronous ports (R183). -/
inductive AsyncPort where
  | T | F
deriving DecidableEq, Repr

/-- The level channels (R1). -/
inductive Channel where
  | LA | LB | LC
deriving DecidableEq, Repr

/-- The warning levels, from least to most severe (R85). -/
inductive Level where
  | clear | watch | warn | alarm
deriving DecidableEq, Repr

/-- The severity of a threshold record (R79). -/
inductive Severity where
  | watch | warn | alarm
deriving DecidableEq, Repr

/-- The quantity a threshold record compares (R79). -/
inductive Quantity where
  | stage | rise | flow
deriving DecidableEq, Repr

/-- The method of a plan vertical (R113). -/
inductive Method where
  | edge | onePoint | twoPoint
deriving DecidableEq, Repr

/-- The nine kinds of archive record (R158). -/
inductive RecordKind where
  | obs | gauging | level | rating | shift | hold | time | datum | gap
deriving DecidableEq, Repr

/-- A section of READ_SETTINGS (R198). -/
inductive SettingsSection where
  | acquisition | warning | cableway | rating | shifts | datum
deriving DecidableEq, Repr

/-- The 21 items of the settings store (R193). -/
inductive ItemId where
  | channel (c : Channel)
  | acquisition
  | holdLimit
  | threshold (n : Fin 8)
  | warning
  | cableway
  | slot (n : Fin 4)
  | shifts
  | datum
deriving DecidableEq, Repr

/-- The fields of SET_CHANNEL (R2): a name or an enabled code that names nothing is `none`. -/
structure ChannelFields where
  channel : Option Channel
  enabled : Option Bool
  preference : Nat
  offset : Int
  gain : Nat
deriving DecidableEq, Repr

/-- The acquisition settings record (R3), and the fields of SET_ACQUISITION. -/
structure AcqSettings where
  warmUp : Nat
  burst : Nat
  window : Nat
  tolerance : Nat
  clear : Nat
  watch : Nat
  warn : Nat
  alarm : Nat
deriving DecidableEq, Repr

/-- The fields of SET_THRESHOLD (R80). -/
structure ThresholdFields where
  number : Nat
  enabled : Option Bool
  quantity : Option Quantity
  level : Int
  margin : Int
  persistence : Nat
  severity : Option Severity
deriving DecidableEq, Repr

/-- The two timer settings of the warning unit (R100), and the fields of SET_WARNING_TIMERS. -/
structure WarningTimers where
  deadline : Nat
  silence : Nat
deriving DecidableEq, Repr

/-- The cableway settings (R103), and the fields of SET_CABLEWAY. -/
structure CablewaySettings where
  span : Nat
  attendedLimit : Int
  unattendedLimit : Int
  weightOffset : Nat
  twoPointMinimum : Nat
  deadMan : Nat
  pauseLimit : Nat
  traverseTimeout : Nat
  reelTimeout : Nat
deriving DecidableEq, Repr

/-- A point of a rating: stage in mm, discharge in L/s (R44). -/
structure RatingPoint where
  stage : Int
  discharge : Nat
deriving DecidableEq, Repr

/-- The fields of COMMIT_RATING (R46). -/
structure RatingFields where
  effective : Nat
  points : List RatingPoint
deriving DecidableEq, Repr

/-- The fields of SET_SHIFT (R61). -/
structure ShiftFields where
  time : Nat
  shift : Int
deriving DecidableEq, Repr

/-- One vertical of LOAD_PLAN (R113) as the payload carries it. -/
structure VerticalFields where
  distance : Nat
  method : Option Method
  exposure : Nat
  edgeDepth : Nat
deriving DecidableEq, Repr

/-- The fields of LOAD_PLAN (R113). -/
structure PlanFields where
  a : Nat
  b : Nat
  verticals : List VerticalFields
deriving DecidableEq, Repr

/-- The kind filter of READ_ARCHIVE (R168): absent, a kind, or a code that names no kind. -/
inductive KindFilter where
  | absent
  | kind (k : RecordKind)
  | unknown
deriving DecidableEq, Repr

/-- The fields of READ_ARCHIVE (R168). -/
structure ReadArchiveFields where
  start : Nat
  count : Nat
  filter : KindFilter
deriving DecidableEq, Repr

/-- The fields of READ_SETTINGS (R198). -/
structure ReadSettingsFields where
  part : Option SettingsSection
  slot : Option Nat
deriving DecidableEq, Repr

/-- The fields of VERIFY_ARCHIVE (R170). -/
structure VerifyFields where
  start : Nat
  count : Nat
deriving DecidableEq, Repr

/-- A request as its message carries it (R175, R177): the kind and the fields. For a kind without fields the
Bool says whether the payload is empty, as its fixed size asks. -/
inductive Request where
  | abortRun (sized : Bool)
  | acceptShift (id : Option Nat)
  | ackLevel (level : Option (Option Level))
  | acquireNow (sized : Bool)
  | claimCableway (sized : Bool)
  | clearFault (sized : Bool)
  | commitRating (f : Option RatingFields)
  | deleteRating (id : Option Nat)
  | deleteShift (time : Option Nat)
  | enterHold (sized : Bool)
  | fixDatum (sized : Bool)
  | forceClaim (sized : Bool)
  | freezeRating (sized : Bool)
  | holdAlive (sized : Bool)
  | leaveHold (sized : Bool)
  | loadPlan (f : Option PlanFields)
  | manualReading (stage : Option Int)
  | readArchive (f : Option ReadArchiveFields)
  | readDescriptor (sized : Bool)
  | readGauging (id : Option Nat)
  | readObs (count : Option Nat)
  | readSettings (f : Option ReadSettingsFields)
  | rejectShift (id : Option Nat)
  | releaseCableway (sized : Bool)
  | resume (sized : Bool)
  | setAcquisition (f : Option AcqSettings)
  | setCableway (f : Option CablewaySettings)
  | setChannel (f : Option ChannelFields)
  | setHoldLimit (limit : Option Nat)
  | setShift (f : Option ShiftFields)
  | setThreshold (f : Option ThresholdFields)
  | setTime (time : Option Nat)
  | setWarningTimers (f : Option WarningTimers)
  | startRun (sized : Bool)
  | status (sized : Bool)
  | verifyArchive (f : Option VerifyFields)
  | writeDatum (elevation : Option Int)
deriving DecidableEq, Repr

/-- The carriage position and the reel depth as the encoders read (R105), in mm. A command that may read them
carries their values at its moment (log entry 5). -/
structure Encoders where
  carriage : Int
  reel : Int
deriving DecidableEq, Repr

/-- The readings that the three sensors deliver at one instant (R5); a sensor that delivers nothing is `none`. -/
structure Readings where
  la : Option (BitVec 16)
  lb : Option (BitVec 16)
  lc : Option (BitVec 16)
deriving DecidableEq, Repr

/-- A byte as Port T or F receives it between its start bit and its stop bit: the data bits and the parity bit (R183). -/
structure Character where
  data : Byte
  parity : Bool
deriving DecidableEq, Repr

/-- The characters that Port T or F hears, and the encoder lines at that moment (R183; log entries 5 and 36). -/
structure LineInput where
  port : AsyncPort
  characters : List Character
  lines : Encoders
deriving DecidableEq, Repr

/-- What a memory operation that was cut off or that failed leaves at its place: the former content, the new
content, or a content that fails its check (R58, R174, R194; log entry 7). -/
inductive Remnant where
  | former | done | bad
deriving DecidableEq, Repr

/-- What POWER_ON and PIN_RESET find outside the part's volatile state: the hold-at-start line (R39), what the
operations in flight left behind (R174, R194), and storage damaged since it was written (R193, R169). -/
structure ResetInputs where
  holdLine : Bool
  archiveOp : Remnant
  settingsWrite : Remnant
  damagedItems : List ItemId
  damagedHeaders : List Nat
  damagedRecords : List Nat
deriving DecidableEq, Repr

/-- The commands of the part, one constructor for each row of opcode_table.json. -/
inductive Instr where
  | abortRun (p : Port) (tag : Byte) (sized : Bool) (x : Encoders)
  | acceptShift (p : Port) (tag : Byte) (id : Option Nat)
  | ackLevel (p : Port) (tag : Byte) (level : Option (Option Level))
  | acquireNow (p : Port) (tag : Byte) (sized : Bool) (x : Encoders)
  | claimCableway (p : Port) (tag : Byte) (sized : Bool)
  | clearFault (p : Port) (tag : Byte) (sized : Bool)
  | commitRating (p : Port) (tag : Byte) (f : Option RatingFields)
  | deleteRating (p : Port) (tag : Byte) (id : Option Nat)
  | deleteShift (p : Port) (tag : Byte) (time : Option Nat)
  | enterHold (p : Port) (tag : Byte) (sized : Bool)
  | fixDatum (p : Port) (tag : Byte) (sized : Bool)
  | forceClaim (p : Port) (tag : Byte) (sized : Bool) (x : Encoders)
  | freezeRating (p : Port) (tag : Byte) (sized : Bool)
  | holdAlive (p : Port) (tag : Byte) (sized : Bool)
  | leaveHold (p : Port) (tag : Byte) (sized : Bool)
  | loadPlan (p : Port) (tag : Byte) (f : Option PlanFields)
  | manualReading (p : Port) (tag : Byte) (stage : Option Int) (x : Encoders)
  | readArchive (p : Port) (tag : Byte) (f : Option ReadArchiveFields)
  | readDescriptor (p : Port) (tag : Byte) (sized : Bool)
  | readGauging (p : Port) (tag : Byte) (id : Option Nat)
  | readObs (p : Port) (tag : Byte) (count : Option Nat)
  | readSettings (p : Port) (tag : Byte) (f : Option ReadSettingsFields)
  | rejectShift (p : Port) (tag : Byte) (id : Option Nat)
  | releaseCableway (p : Port) (tag : Byte) (sized : Bool) (x : Encoders)
  | resume (p : Port) (tag : Byte) (sized : Bool) (x : Encoders)
  | setAcquisition (p : Port) (tag : Byte) (f : Option AcqSettings) (x : Encoders)
  | setCableway (p : Port) (tag : Byte) (f : Option CablewaySettings)
  | setChannel (p : Port) (tag : Byte) (f : Option ChannelFields)
  | setHoldLimit (p : Port) (tag : Byte) (limit : Option Nat)
  | setShift (p : Port) (tag : Byte) (f : Option ShiftFields)
  | setThreshold (p : Port) (tag : Byte) (f : Option ThresholdFields) (x : Encoders)
  | setTime (p : Port) (tag : Byte) (time : Option Nat) (x : Encoders)
  | setWarningTimers (p : Port) (tag : Byte) (f : Option WarningTimers)
  | startRun (p : Port) (tag : Byte) (sized : Bool) (x : Encoders)
  | status (p : Port) (tag : Byte) (sized : Bool)
  | verifyArchive (p : Port) (tag : Byte) (f : Option VerifyFields)
  | writeDatum (p : Port) (tag : Byte) (elevation : Option Int)
  | codeNamesNoRequest (p : Port) (code : Byte) (tag : Byte)
  | powerOn (r : ResetInputs)
  | pinReset (r : ResetInputs)
  | duePointReached (x : Encoders)
  | warmUpExpiry (r : Readings) (x : Encoders)
  | burstReading (r : Readings) (x : Encoders)
  | stationSecond (x : Encoders)
  | holdTimerExpiry
  | deadlineExpiry
  | silenceTimerExpiry
  | traverseArrival (x : Encoders)
  | reelArrival (x : Encoders)
  | surfaceContact (x : Encoders)
  | bottomContact (x : Encoders)
  | reelDepthReaches25000 (x : Encoders)
  | meterPulse
  | exposureTimerExpiry (x : Encoders)
  | motionTimerExpiry (x : Encoders)
  | overload (x : Encoders)
  | deadManWindowExpiry (x : Encoders)
  | pauseTimerExpiry (x : Encoders)
  | recordProgrammed
  | eraseComplete
  | programFailure (left : Remnant)
  | eraseFailure (left : Remnant)
  | verificationEnd (p : Port)
  | settingsWriteComplete
  | readBackFailed
  | frameBegin
  | frameEnd (inbound : List Byte) (x : Encoders)
  | lineBreak (p : AsyncPort)
  | longGap (p : AsyncPort)
  | frameError (l : LineInput)
  | busy (p : AsyncPort) (code : Byte) (tag : Byte)
  | responseSent (p : AsyncPort)
  | noticePacketComplete
  | startUpSequenceEnd
  | pageHeaderProgrammed
  | verifyRecordChecked (p : Port)
deriving DecidableEq, Repr

/-- The asynchronous port as a port. -/
def AsyncPort.port : AsyncPort → Port
  | .T => .T
  | .F => .F

end Sys2Proof
end

