-- ==== Sys2Proof/Decode.lean ====
section
/-! DEFINITION. The words of opcode_table.json: no row of the table gives bits, so no word spells a command. The bytes of
requests are read in Machine/Operands.lean. -/

namespace Sys2Proof

/-- The command that a word spells by the table's bits. -/
def decodeTableWord (_nbits _w : Nat) : Option Instr := none

end Sys2Proof
end

