-- ==== Sys2Proof/Config.lean ====
section
/-! DEFINITION. What an implementation of the part fixes and the spec does not state: the free values. -/

namespace Sys2Proof

/-- FREE VALUE. The silicon revision that READ_DESCRIPTOR reports (R199 names it and gives no value; log entry 22). -/
opaque Config.siliconRevision : Nat

/-- FREE VALUE. The bytes that carry a name in the answer to READ_DESCRIPTOR, for the family FOLVARA and for the part
FV-632 (R199 and R200 give names no layout; log entry 22). -/
opaque Config.nameBytes : String → List Byte

/-- FREE VALUE. What the damaged index of R169 is formed from when no passing record lies before the damaged one: the rule
counts from "the record before it". The argument is the start index of the read or verification (log entry 20). -/
opaque Config.firstDamagedIndex : Nat → Nat

/-- FREE VALUE. The check byte of a page header that fails its check, by its sequence number and elevation: the rules say
that it fails and not what it is (R172, R202; log entry 16). -/
opaque Config.failedCheck : Nat → Int → Byte

/-- FREE VALUE. What the bytes of a record that fails its check are formed from, by the sequence number of its page and the offset
(R169, R174; log entry 16). -/
opaque Config.damagedByte : Nat → Nat → Byte

/-- FREE VALUE. The depth of a vertical whose bed contact comes at a reel depth above its surface contact: R116 gives the
difference of the two, and no depth below 0. The arguments are the two reel depths (log entry 25). -/
opaque Config.depthAboveSurface : Int → Int → Nat

end Sys2Proof
end

