-- ==== Sys2Proof/Machine/State.lean ====
section
/-! DEFINITION. The state of the FV-632: every item the spec names, block by block, as plain data, and its value
right after power-on of a factory-new part. -/

namespace Sys2Proof.Machine

/-! ### Small banks -/

/-- One value for each level channel. -/
structure PerChannel (α : Type) where
  la : α
  lb : α
  lc : α
deriving DecidableEq, Repr

/-- One value for each of the four rating slots (R45). -/
structure Four (α : Type) where
  s1 : α
  s2 : α
  s3 : α
  s4 : α
deriving DecidableEq, Repr

/-- One value for each of the threshold records T1 to T8 (R79). -/
structure Eight (α : Type) where
  t1 : α
  t2 : α
  t3 : α
  t4 : α
  t5 : α
  t6 : α
  t7 : α
  t8 : α
deriving DecidableEq, Repr

/-- One value for each port. -/
structure PerPort (α : Type) where
  l : α
  t : α
  f : α
deriving DecidableEq, Repr

/-! ### Station clock (02_station_time_and_service_hold.md) -/

/-- Time quality (R26). -/
inductive Quality where
  | set | uncertain
deriving DecidableEq, Repr

/-- The station clock (R25, R26, R28). `phase` is the elapsed value, in hundredths, at which the present station
second began; a pin reset keeps the phase while the elapsed base restarts, so it can lie below zero (R31). -/
structure Clock where
  time : Nat
  quality : Quality
  floor : Nat
  phase : Int
deriving DecidableEq, Repr

/-! ### Observations (R16) -/

/-- The discharge flags (R16). -/
structure DischargeFlags where
  belowRating : Bool
  aboveRating : Bool
  saturated : Bool
  noRating : Bool
  stageClamped : Bool
deriving DecidableEq, Repr

/-- The source of a stage (R16). -/
inductive Source where
  | channel (c : Channel)
  | manual
deriving DecidableEq, Repr

/-- An observation record (R16). The rating version id and the shift applied are present together. -/
structure Observation where
  number : Nat
  time : Nat
  quality : Quality
  stage : Option Int
  source : Option Source
  range : Bool
  disagree : Bool
  manual : Bool
  rate : Option Int
  discharge : Option Nat
  flags : DischargeFlags
  ratingId : Option Nat
  shift : Option Int
deriving DecidableEq, Repr

/-! ### Level acquisition unit (01_stage_acquisition.md, section 2.4) -/

/-- A channel's settings record (R1). -/
structure ChannelSettings where
  enabled : Bool
  preference : Nat
  offset : Int
  gain : Nat
deriving DecidableEq, Repr

/-- A channel's status and its two run counts (R9). -/
structure ChannelStatus where
  fault : Bool
  invalidRun : Nat
  validRun : Nat
deriving DecidableEq, Repr

/-- The state of the acquisition in flight (section 1.2); NONE is the absent acquisition. -/
inductive AcqPhase where
  | warming | burst | completing
deriving DecidableEq, Repr

/-- What an acquisition holds of one captured channel: its settings at the start (R4), its readings, oldest first,
and whether it has stayed enabled since the start (R9). -/
structure Captured where
  settings : ChannelSettings
  readings : List Nat
  stayed : Bool
deriving DecidableEq, Repr

/-- The acquisition in flight (section 1.2). `taken` counts the instants at which readings were taken. -/
structure Acquisition where
  phase : AcqPhase
  capture : PerChannel (Option Captured)
  warmUp : Nat
  burst : Nat
  start : Nat
  taken : Nat
deriving DecidableEq, Repr

/-- The service hold state (R32). -/
inductive HoldState where
  | none | pending | held
deriving DecidableEq, Repr

/-- The service hold (R32). The timer is the elapsed value of its expiry. -/
structure Hold where
  state : HoldState
  timer : Option Nat
  manual : Option Int
  count : Nat
  limit : Nat
deriving DecidableEq, Repr

/-- The DISAGREE condition and its counts (R11). -/
structure Disagree where
  isSet : Bool
  disagreements : Nat
  agreements : Nat
deriving DecidableEq, Repr

/-- The level acquisition unit. -/
structure Lau where
  channels : PerChannel ChannelSettings
  status : PerChannel (Option ChannelStatus)
  excitation : PerChannel Bool
  settings : AcqSettings
  acq : Option Acquisition
  startOwed : Bool
  lastStart : Option Nat
  disagree : Disagree
  nextObs : Nat
  series : List Observation
  hold : Hold
deriving DecidableEq, Repr

/-! ### Rating store and shift table (03_datum_and_rating_versions.md, 04_shifts_and_discharge_computation.md) -/

/-- A rating version (R44). -/
structure RatingVersion where
  id : Nat
  effective : Nat
  points : List RatingPoint
deriving DecidableEq, Repr

/-- A rating slot item (R53): the slot's content, the last assigned id after the request, and the write number. -/
structure SlotItem where
  version : Option RatingVersion
  lastId : Nat
  writeNumber : Nat
deriving DecidableEq, Repr

/-- The origin of a shift entry (R59). -/
inductive Origin where
  | manual
  | gauging (id : Nat)
deriving DecidableEq, Repr

/-- A shift entry (R59). -/
structure ShiftEntry where
  time : Nat
  shift : Int
  origin : Origin
deriving DecidableEq, Repr

/-- The rating store with the datum record and the shift table (R40, R45, R59). -/
structure RatingStore where
  elevation : Int
  fixed : Bool
  slots : Four SlotItem
  lastId : Nat
  frozen : Bool
  shifts : List ShiftEntry
deriving DecidableEq, Repr

/-! ### Warning unit (05_flood_warning.md) -/

/-- The settings of a threshold record (R79). -/
structure ThresholdSettings where
  enabled : Bool
  quantity : Quantity
  level : Int
  margin : Int
  persistence : Nat
  severity : Severity
deriving DecidableEq, Repr

/-- The live state of a threshold record (R82). -/
structure ThresholdLive where
  active : Bool
  count : Nat
deriving DecidableEq, Repr

/-- The deadline state (R92); RUNNING holds the elapsed value of its expiry. -/
inductive Deadline where
  | stopped
  | running (expiry : Nat)
  | expired
deriving DecidableEq, Repr

/-- The warning unit. -/
structure Warning where
  settings : Eight ThresholdSettings
  live : Eight ThresholdLive
  level : Level
  owed : Bool
  firstTime : Option Nat
  deadline : Deadline
  silent : Bool
  silenceTimer : Option Nat
  relay : Bool
  timers : WarningTimers
deriving DecidableEq, Repr

/-! ### Cableway controller (06_the_cableway.md) -/

/-- The run states (R107). -/
inductive RunState where
  | idle | claimed | traversing | sounding | positioning | counting | raising | paused | faulted | retrieving | stuck
deriving DecidableEq, Repr

/-- The hold kinds (R91, R107). -/
inductive HoldKind where
  | unattended | attended
deriving DecidableEq, Repr

/-- The end causes of a run (R119). -/
inductive EndCause where
  | complete | aborted | released | takenOver | floodLimit | pauseLimit | overload | motionTimeout
deriving DecidableEq, Repr

/-- What a plan vertical asks (R113). -/
inductive VerticalKind where
  | edge (depth : Nat)
  | onePoint (exposure : Nat)
  | twoPoint (exposure : Nat)
deriving DecidableEq, Repr

/-- A vertical of the loaded plan (R113). -/
structure PlanVertical where
  distance : Nat
  kind : VerticalKind
deriving DecidableEq, Repr

/-- The loaded plan (R113). -/
structure Plan where
  a : Nat
  b : Nat
  verticals : List PlanVertical
deriving DecidableEq, Repr

/-- What the sounding of the present vertical has found (R116). -/
inductive Sounded where
  | searching | dry | skipped | measured (depth : Nat)
deriving DecidableEq, Repr

/-- The run in progress (R107). `vertical` is the place of the present vertical in the plan list, counted from 0;
`points` are the sample depths formed for it (R117); `homing` is set while the first RAISING of R114 lasts. -/
structure Run where
  kind : HoldKind
  startTime : Nat
  vertical : Nat
  sample : Nat
  zs : Option Int
  zb : Option Int
  sounded : Sounded
  points : List Nat
  methodChanged : Bool
  depthLimited : Bool
  homing : Bool
deriving DecidableEq, Repr

/-- A motion target (R105). -/
inductive Target where
  | carriage (position : Int)
  | reel (depth : Int)
deriving DecidableEq, Repr

/-- The motion output driven (R105). The controller drives at most one, and brake release is energised while one
is driven. -/
inductive Drive where
  | off | traverseOut | traverseIn | reelDown | reelUp
deriving DecidableEq, Repr

/-- The state left on entering PAUSED, with its target (R121). -/
structure Remembered where
  state : RunState
  target : Option Target
deriving DecidableEq, Repr

/-- The cableway controller (R103, R105, R106, R107). Timers hold the elapsed value of their expiry, and `window`
the dead-man reference instant in tenths of a second (R120). -/
structure Cableway where
  settings : CablewaySettings
  state : RunState
  holder : Option Port
  plan : Option Plan
  run : Option Run
  endCause : Option EndCause
  latestHold : Option Port
  remembered : Option Remembered
  window : Option Nat
  motionTimer : Option Nat
  exposureTimer : Option Nat
  pauseTimer : Option Nat
  available : Bool
  drive : Drive
  target : Option Target
  lines : Encoders
deriving DecidableEq, Repr

/-! ### Gauging unit (07_gauging_computation_and_results.md) -/

/-- A count of meter pulses with its saturation mark (R132). -/
structure PulseCount where
  n : Nat
  saturated : Bool
deriving DecidableEq, Repr

/-- The flags of a vertical (R145). -/
structure VerticalFlags where
  dry : Bool
  skipped : Bool
  methodChanged : Bool
  depthLimited : Bool
  countSaturated : Bool
  velocityClamped : Bool
deriving DecidableEq, Repr

/-- A vertical result (R134). `index` is the place in the plan, counted from 1. -/
structure VerticalResult where
  index : Nat
  distance : Nat
  method : Method
  depth : Option Nat
  velocity : Option Nat
  exposure : Nat
  counts : List PulseCount
  flags : VerticalFlags
deriving DecidableEq, Repr

/-- The run record (R131). -/
structure RunRecord where
  holdPort : Port
  startTime : Nat
  startElapsed : Nat
  startObs : Option Nat
  plan : Plan
  results : List VerticalResult
  lastCompletion : Option Nat
deriving DecidableEq, Repr

/-- The result state (R130). -/
inductive ResultState where
  | none | computing | ready
deriving DecidableEq, Repr

/-- The disposition of a gauging record (R145). -/
inductive Disposition where
  | pending | accepted | rejected | none
deriving DecidableEq, Repr

/-- The flags of a gauging record (R145). -/
structure GaugingFlags where
  incompleteSection : Bool
  skippedVerticals : Bool
  qSaturated : Bool
  manualHeight : Bool
  seriesShort : Bool
  timeChanged : Bool
  pctClamped : Bool
  shiftClamped : Bool
  notArchived : Bool
deriving DecidableEq, Repr

/-- A gauging record (R145). -/
structure GaugingRecord where
  id : Nat
  holdPort : Port
  startTime : Nat
  endTime : Nat
  midTime : Nat
  cause : EndCause
  elevation : Int
  a : Nat
  b : Nat
  results : List VerticalResult
  qMeas : Option Nat
  height : Option Int
  qRated : Option Nat
  ratedFlags : DischargeFlags
  ratingId : Option Nat
  shift : Option Int
  percent : Option Int
  candidate : Option Int
  disposition : Disposition
  flags : GaugingFlags
deriving DecidableEq, Repr

/-- An entry of the gauging list: the record and the archive index it took (R151). -/
structure GaugingEntry where
  record : GaugingRecord
  index : Option Nat
deriving DecidableEq, Repr

/-- The gauging unit (R130). -/
structure Gauging where
  run : Option RunRecord
  exposure : Option PulseCount
  kept : List PulseCount
  result : ResultState
  computing : Option GaugingRecord
  list : List GaugingEntry
  nextId : Nat
deriving DecidableEq, Repr

/-! ### Bodies of records and notices -/

/-- The causes of a HOLD event (R36). -/
inductive HoldCause where
  | request | startLine | timeout
deriving DecidableEq, Repr

/-- The body that a HOLD notice and a HOLD record share (R36). -/
structure HoldBody where
  entered : Bool
  cause : HoldCause
  limit : Option Nat
  count : Option Nat
  last : Option Int
deriving DecidableEq, Repr

/-- The cause of a level change (R90). -/
inductive LevelCause where
  | observation (number : Nat)
  | setThreshold (record : Nat) (p : Port)
deriving DecidableEq, Repr

/-- The event of a LEVEL record with the fields that event adds (R90). -/
inductive LevelEvent where
  | changed (previous : Level) (cause : LevelCause)
  | acknowledged (p : Port) (named : Level)
  | deadlineExpired
  | linkSilent
  | linkLive
deriving DecidableEq, Repr

/-- The deadline state without its expiry, as records and answers carry it (R90, R92). -/
inductive DeadlineState where
  | stopped | running | expired
deriving DecidableEq, Repr

/-- The body of a LEVEL record (R90). -/
structure LevelBody where
  event : LevelEvent
  level : Level
  active : Eight Bool
  owed : Bool
  firstTime : Option Nat
  deadline : DeadlineState
  silent : Bool
  relay : Bool
deriving DecidableEq, Repr

/-- The body of a RATING record (R56). -/
inductive RatingBody where
  | committed (p : Port) (id effective : Nat) (points : List RatingPoint) (removed : Option RatingVersion)
  | deleted (p : Port) (id effective : Nat)
  | frozen (p : Port)
deriving DecidableEq, Repr

/-- The event of a SHIFT record (R66). -/
inductive ShiftEvent where
  | set | deleted | accepted
deriving DecidableEq, Repr

/-- The body of a SHIFT record (R66). -/
structure ShiftBody where
  event : ShiftEvent
  port : Port
  entry : ShiftEntry
  replaced : Option ShiftEntry
  removed : Option ShiftEntry
  countAfter : Nat
deriving DecidableEq, Repr

/-- The body of a TIME record (R29). -/
structure TimeBody where
  before : Nat
  quality : Quality
  after : Nat
  port : Port
deriving DecidableEq, Repr

/-- The body of a DATUM record (R55). -/
structure DatumBody where
  fixed : Bool
  before : Int
  after : Int
  port : Port
deriving DecidableEq, Repr

/-- The body of a GAP record (R166). -/
structure GapBody where
  obsCount : Nat
  first : Nat
  last : Nat
  others : Nat
deriving DecidableEq, Repr

/-- An archive record's body, by kind (R158). -/
inductive Record where
  | obs (o : Observation)
  | gauging (g : GaugingRecord)
  | level (l : LevelBody)
  | rating (r : RatingBody)
  | shift (x : ShiftBody)
  | hold (h : HoldBody)
  | time (t : TimeBody)
  | datum (d : DatumBody)
  | gap (g : GapBody)
deriving DecidableEq, Repr

/-- The event of a SENSOR notice (R12). -/
inductive SensorEvent where
  | channelFault | channelOk | disagreeSet | disagreeClear
deriving DecidableEq, Repr

/-- The event of a CABLEWAY notice (R128). -/
inductive CablewayEvent where
  | runEnded | faulted | stuck
deriving DecidableEq, Repr

/-- Why the archive is FAILED (R164). -/
inductive FailCause where
  | pages | indexEnd
deriving DecidableEq, Repr

/-- The archive state (R164). -/
inductive ArchiveState where
  | normal | degraded
  | failed (cause : FailCause)
deriving DecidableEq, Repr

/-- The body of a notice, by kind (R188). -/
inductive NoticeBody where
  | level (new previous peak : Level)
  | cableway (event : CablewayEvent) (cause : EndCause) (hold : Option Port) (vertical : Option Nat) (lines : Encoders)
  | sensor (event : SensorEvent) (channel : Channel) (difference : Option Nat) (number : Nat)
  | gauging (id : Nat) (cause : EndCause) (qMeas : Option Nat) (candidate : Option Int) (notArchived : Bool)
  | hold (h : HoldBody)
  | archive (state : ArchiveState) (retired healthy : Nat)
deriving DecidableEq, Repr

/-! ### Notice queue (09_ports_requests_and_notices.md, section 9.6) -/

/-- A notice held in the queue (R188). -/
structure Notice where
  time : Nat
  body : NoticeBody
  inTransmission : Bool
deriving DecidableEq, Repr

/-- The notice queue (R188), oldest notice first. -/
structure NoticeQueue where
  held : List Notice
  overflowed : Bool
deriving DecidableEq, Repr

/-! ### Archive (08_the_archive.md) -/

/-- The page states (R157). -/
inductive PageStatus where
  | erased | opened | full | retired
deriving DecidableEq, Repr

/-- A page header (R157, R202); `checkOk` says whether it passes its check. -/
structure PageHeader where
  sequence : Nat
  elevation : Int
  checkOk : Bool
  closed : Bool
  retiredMark : Bool
deriving DecidableEq, Repr

/-- A record on a page (R158); `intact` says whether it passes its check. -/
structure StoredRecord where
  record : Record
  time : Nat
  index : Nat
  intact : Bool
deriving DecidableEq, Repr

/-- A page: its state, its header (absent when wholly erased) and its records in the order they lie (R157). -/
structure Page where
  status : PageStatus
  header : Option PageHeader
  records : List StoredRecord
deriving DecidableEq, Repr

/-- Who waits for the archive's report on a record (R160, R167): nobody, the gauging unit, or the request owed on
a port. A record that somebody waits for is owed; every other record is free. -/
inductive Owner where
  | nobody
  | gauging
  | request (p : Port) (id : Nat)
deriving DecidableEq, Repr

/-- A record in the write queue or the waiting line, with the index it took at an earlier attempt (R159). -/
structure QueuedRecord where
  record : Record
  time : Nat
  owner : Owner
  index : Option Nat
deriving DecidableEq, Repr

/-- The archive's operation in flight, with the page it works on, and for a header the datum elevation it programs
(R161, R162, R163). -/
inductive ArchiveOp where
  | idle
  | record (page : Nat)
  | header (page : Nat) (elevation : Int)
  | closedMark (page : Nat)
  | retiredMark (page : Nat)
  | erase (page : Nat)
deriving DecidableEq, Repr

/-- The first operation after start-up, as the scan orders it (R172). -/
inductive FirstOp where
  | nothing
  | takeNext (page : Nat)
  | close (page : Nat)
  | openFirst (page : Nat)
  | eraseAgain (page : Nat)
deriving DecidableEq, Repr

/-- A record of a verification's range: where it stands, by its page, that page's sequence number and its place among the
page's records; and its index, as R169 computes it when the range is fixed. -/
structure RangeItem where
  page : Nat
  sequence : Nat
  place : Nat
  index : Nat
deriving DecidableEq, Repr

/-- A verification in flight (R170, R171): the records of its range still to be read, oldest first. -/
structure Verification where
  remaining : List RangeItem
  checked : Nat
  passed : Nat
  earlierGone : Bool
deriving DecidableEq, Repr

/-- The archive. `pages` lists the pages that are not erased, in strictly rising page number; a page not listed is
ERASED. -/
structure Archive where
  pages : List (Nat × Page)
  state : ArchiveState
  nextIndex : Nat
  indexEnd : Bool
  queue : List QueuedRecord
  waiting : List QueuedRecord
  op : ArchiveOp
  firstOp : FirstOp
  lastSequence : Nat
  obsDropped : Nat
  firstDropped : Nat
  lastDropped : Nat
  othersDropped : Nat
  verifications : PerPort (Option Verification)
deriving DecidableEq, Repr

/-! ### Settings store (10_settings_store_and_start_up.md) -/

/-- An item of the store: its contents, and whether it passes its check (R193). -/
structure Item (α : Type) where
  value : α
  ok : Bool
deriving DecidableEq, Repr

/-- The non-volatile storage: the 21 items (R193) and the write-once cell, absent while unprogrammed (R40). -/
structure Medium where
  channels : PerChannel (Item ChannelSettings)
  acquisition : Item AcqSettings
  holdLimit : Item Nat
  thresholds : Eight (Item ThresholdSettings)
  warning : Item WarningTimers
  cableway : Item CablewaySettings
  slots : Four (Item SlotItem)
  shifts : Item (List ShiftEntry)
  datum : Item Int
  cell : Option Int
deriving DecidableEq, Repr

/-- What a settings write stores (R194). -/
inductive WriteData where
  | channel (c : Channel) (v : ChannelSettings)
  | acquisition (v : AcqSettings)
  | holdLimit (v : Nat)
  | threshold (n : Fin 8) (v : ThresholdSettings)
  | warning (v : WarningTimers)
  | cableway (v : CablewaySettings)
  | slot (n : Fin 4) (v : SlotItem)
  | shifts (v : List ShiftEntry)
  | datum (v : Int)
  | cell (v : Int)
deriving DecidableEq, Repr

/-- A write in the store's queue (R194): the data, the request it belongs to, and how many read-backs have failed. -/
structure PendingWrite where
  data : WriteData
  port : Port
  request : Nat
  failures : Nat
deriving DecidableEq, Repr

/-- The settings store (R193, R194, R195). The head of the queue is the write in flight. -/
structure Store where
  medium : Medium
  queue : List PendingWrite
  defaulted : List ItemId
deriving DecidableEq, Repr

/-! ### Answers (the payloads of responses) -/

/-- The result codes, in the order of the table of R177. -/
inductive Result where
  | ok | wait | busy | frameError | notPermitted | badRequest | range | frozen | ratingFull | duplicateTime
  | inForce | notFound | timeOrder | notHeld | fixed | claimedElsewhere | notHolder | barred | unavailable
  | wrongState | tooEarly | resultPending | stale | notOwed | archiveFailed | storeFailed
deriving DecidableEq, Repr

/-- The marks beside an item in the answer to READ_SETTINGS (R198). -/
structure Marks where
  defaulted : Bool
  pending : Bool
deriving DecidableEq, Repr

/-- An item with its marks (R198). -/
structure Marked (α : Type) where
  value : α
  marks : Marks
deriving DecidableEq, Repr

/-- The answer to READ_SETTINGS, by section (R198). -/
inductive SettingsAnswer where
  | acquisition (channels : PerChannel (Marked ChannelSettings)) (acq : Marked AcqSettings) (limit : Marked Nat)
  | warning (thresholds : Eight (Marked ThresholdSettings)) (timers : Marked WarningTimers)
  | cableway (settings : Marked CablewaySettings) (available : Bool)
  | rating (version : Marked (Option RatingVersion)) (lastId : Nat) (frozen : Bool)
  | shifts (table : Marked (List ShiftEntry))
  | datum (elevation : Marked Int) (fixed : Bool)
deriving DecidableEq, Repr

/-- The answer to READ_ARCHIVE (R168, R169). -/
structure ArchiveAnswer where
  records : List StoredRecord
  nextIndex : Nat
  earlierGone : Bool
  indexJump : Bool
  damaged : Bool
  damagedIndex : Option Nat
deriving DecidableEq, Repr

/-- The answer to VERIFY_ARCHIVE (R170, R171). -/
structure VerifyAnswer where
  firstBad : Option Nat
  checked : Nat
  passed : Nat
  earlierGone : Bool
deriving DecidableEq, Repr

/-- The answer to READ_DESCRIPTOR (R199). The capacities are constants of its layout. -/
structure DescriptorAnswer where
  family : String
  part : String
  revision : Nat
  available : Bool
  elevation : Int
  fixed : Bool
  healthy : Nat
  retired : Nat
  time : Nat
  quality : Quality
deriving DecidableEq, Repr

/-- The answer to STATUS: the items that R9, R25, R27, R32, R82, R86, R92, R97, R106, R107 and R130 name. Of an enabled channel
it carries the status, whether it is in FAULT, and not its counts (R9). -/
structure StatusAnswer where
  channels : PerChannel (Option Bool)
  time : Nat
  elapsedSeconds : Nat
  holdRemaining : Option Nat
  manual : Option Int
  thresholds : Eight ThresholdLive
  level : Level
  firstTime : Option Nat
  deadline : DeadlineState
  deadlineRemaining : Option Nat
  silenceRemaining : Option Nat
  available : Bool
  runState : RunState
  holder : Option Port
  vertical : Option Nat
  pauseRemaining : Option Nat
  endCause : Option EndCause
  gaugings : Nat
  newestGauging : Option Nat
  runVerticals : Option Nat
deriving DecidableEq, Repr

/-- The payload of a response. -/
inductive Payload where
  | empty
  | floor (time : Nat)
  | committed (id : Nat) (removed : Option Nat)
  | shiftCount (count : Nat) (removed : Option ShiftEntry)
  | observations (l : List Observation)
  | archive (a : ArchiveAnswer)
  | verified (v : VerifyAnswer)
  | gauging (e : GaugingEntry)
  | settings (a : SettingsAnswer)
  | descriptor (d : DescriptorAnswer)
  | status (a : StatusAnswer)
deriving DecidableEq, Repr

/-! ### Ports (09_ports_requests_and_notices.md) -/

/-- The coarse cableway state (R186). -/
inductive Coarse where
  | idle | claimed | running | paused | faulted | retrieving | stuck
deriving DecidableEq, Repr

/-- The archive state without its cause (R186). -/
inductive ArchiveHealth where
  | normal | degraded | failed
deriving DecidableEq, Repr

/-- The status summary (R186). -/
structure Summary where
  level : Level
  owed : Bool
  relay : Bool
  silent : Bool
  hold : HoldState
  cableway : Coarse
  holder : Option Port
  result : ResultState
  pendingDispositions : Bool
  notices : Nat
  archive : ArchiveHealth
  quality : Quality
  disagree : Bool
  frozen : Bool
  defaulted : Bool
  first : Bool
deriving DecidableEq, Repr

/-- A response ready to send: `answers` says that it answers the request owed on the port. -/
structure Response where
  code : Byte
  tag : Byte
  result : Result
  payload : Payload
  answers : Bool
deriving DecidableEq, Repr

/-- A response in transmission, with the summary taken at its beginning and the DISCARDED mark (R181, R186). -/
structure SentResponse where
  response : Response
  discarded : Bool
  summary : Summary
deriving DecidableEq, Repr

/-- A notice packet in transmission (R191): its content, the overflowed marker it carries, and whether a notice has
been dropped or removed by R190 since it began. -/
structure Packet where
  time : Nat
  body : NoticeBody
  overflowed : Bool
  lossSince : Bool
deriving DecidableEq, Repr

/-- What an asynchronous port transmits (R185). -/
inductive Transmission where
  | response (r : SentResponse)
  | notice (n : Packet)
deriving DecidableEq, Repr

/-- The request owed on a port (R178): its number (log entry 27), code and tag; what its answer still waits for;
what has been reported to it; and the payload of its answer. `strict` marks the requests of R54, R65 and R81, which
a dropped record turns into ARCHIVE_FAILED. `answered` says that the answer is ready or being sent. -/
structure Owed where
  id : Nat
  code : Byte
  tag : Byte
  waitWrite : Bool
  waitRecord : Bool
  waitGauging : Option Nat
  waitVerify : Bool
  unfinished : Bool
  dropped : Bool
  strict : Bool
  payload : Payload
  answered : Bool
deriving DecidableEq, Repr

/-- Port L (R178 to R182, R187). -/
structure PortL where
  slot : Option Owed
  answer : Option Response
  frame : Option SentResponse
  lastSummary : Option Summary
  frameError : Bool
  discarded : Bool
  first : Bool
deriving DecidableEq, Repr

/-- Port T or Port F (R178, R183, R184, R187): its receive state, and the characters of the message it is receiving. -/
structure PortAsync where
  receiving : Bool
  heard : List Character
  slot : Option Owed
  ready : List Response
  sending : Option Transmission
  first : Bool
deriving DecidableEq, Repr

/-- The three ports, and the number the next request taken gets (the model's own; log entry 27). -/
structure Ports where
  l : PortL
  t : PortAsync
  f : PortAsync
  nextId : Nat
deriving DecidableEq, Repr

/-- The whole part. `elapsed` is the elapsed-time base in hundredths of a second (R27); `startingUp` holds from a
reset until the start-up sequence ends (R196, R197); `pending` is the queue of commands waiting, first in first out. -/
structure State where
  elapsed : Nat
  startingUp : Bool
  clock : Clock
  lau : Lau
  rating : RatingStore
  warning : Warning
  cable : Cableway
  gauging : Gauging
  notices : NoticeQueue
  archive : Archive
  store : Store
  ports : Ports
  pending : List Instr
deriving DecidableEq, Repr

/-- The blocks that the handing of a record or a notice can change, with what that reads of the others: the station
time and whether the start-up sequence runs. -/
structure Wake where
  time : Nat
  startingUp : Bool
  elevation : Int
  archive : Archive
  gauging : Gauging
  notices : NoticeQueue
  ports : Ports
deriving DecidableEq, Repr

/-- No command stops the machine with a fault: the spec answers or ignores whatever it does not carry out. -/
inductive Fault where
deriving DecidableEq, Repr

/-- Why a step is refused. -/
inductive Refusal where
  /-- Raised by an arm of exec for a command that has no meaning yet; no arm raises it. Safe: nothing can be proved
  of a step that did not happen. -/
  | notModelled (mnemonic : String)
deriving DecidableEq, Repr

/-! ### The factory settings and the state after power-on -/

/-- The same value for each channel. -/
def PerChannel.all {α : Type} (a : α) : PerChannel α := ⟨a, a, a⟩

/-- The same value for each slot. -/
def Four.all {α : Type} (a : α) : Four α := ⟨a, a, a, a⟩

/-- The same value for each threshold record. -/
def Eight.all {α : Type} (a : α) : Eight α := ⟨a, a, a, a, a, a, a, a⟩

/-- The same value for each port. -/
def PerPort.all {α : Type} (a : α) : PerPort α := ⟨a, a, a⟩

/-- Factory channel settings (R1). -/
def Factory.channels : PerChannel ChannelSettings :=
  ⟨⟨true, 1, 0, 10000⟩, ⟨false, 2, 0, 10000⟩, ⟨false, 3, 0, 10000⟩⟩

/-- Factory acquisition settings (R3). -/
def Factory.acquisition : AcqSettings := ⟨2, 7, 900, 50, 900, 300, 60, 15⟩

/-- Factory hold limit (R32). -/
def Factory.holdLimit : Nat := 1800

/-- Factory threshold settings (R79). -/
def Factory.threshold : ThresholdSettings := ⟨false, .stage, 0, 0, 1, .watch⟩

/-- Factory warning timers (R100). -/
def Factory.warning : WarningTimers := ⟨600, 3600⟩

/-- Factory cableway settings (R103). -/
def Factory.cableway : CablewaySettings := ⟨0, -2000, -2000, 50, 750, 5, 300, 60, 30⟩

/-- Factory rating slot item (R193). -/
def Factory.slot : SlotItem := ⟨none, 0, 0⟩

/-- The settings store as it leaves the factory: every item at its default with a passing check (R193), and the
write-once cell unprogrammed (R40). -/
def Factory.medium : Medium :=
  { channels := ⟨⟨Factory.channels.la, true⟩, ⟨Factory.channels.lb, true⟩, ⟨Factory.channels.lc, true⟩⟩
    acquisition := ⟨Factory.acquisition, true⟩
    holdLimit := ⟨Factory.holdLimit, true⟩
    thresholds := Eight.all ⟨Factory.threshold, true⟩
    warning := ⟨Factory.warning, true⟩
    cableway := ⟨Factory.cableway, true⟩
    slots := Four.all ⟨Factory.slot, true⟩
    shifts := ⟨[], true⟩
    datum := ⟨0, true⟩
    cell := none }

/-- Port L after a reset (R192). -/
def PortL.reset : PortL := ⟨none, none, none, none, false, false, true⟩

/-- Port T or F after a reset (R192). -/
def PortAsync.reset : PortAsync := ⟨false, [], none, [], none, true⟩

/-- The machine right after the power-on of a factory-new part with the hold-at-start line not asserted, while its
start-up sequence runs: the archive holds no record (log entry 6), every setting is the factory's (R193), and every
volatile item has the reset value of its own rule. That the first and the last observation number dropped begin at 0 (log entry 37),
and that there is no last start, and so no due point, before the first acquisition of start-up (R20; log entry 38), are the model's
choices. -/
def State.reset : State :=
  { elapsed := 0
    startingUp := true
    clock := { time := 0, quality := .uncertain, floor := 0, phase := 0 }
    lau :=
      { channels := Factory.channels
        status := ⟨some ⟨false, 0, 0⟩, none, none⟩
        excitation := PerChannel.all false
        settings := Factory.acquisition
        acq := none
        startOwed := false
        lastStart := none
        disagree := ⟨false, 0, 0⟩
        nextObs := 1
        series := []
        hold := { state := .none, timer := none, manual := none, count := 0, limit := Factory.holdLimit } }
    rating :=
      { elevation := 0, fixed := false, slots := Four.all Factory.slot, lastId := 0, frozen := false, shifts := [] }
    warning :=
      { settings := Eight.all Factory.threshold
        live := Eight.all ⟨false, 0⟩
        level := .clear
        owed := false
        firstTime := none
        deadline := .stopped
        silent := false
        silenceTimer := some 360000
        relay := false
        timers := Factory.warning }
    cable :=
      { settings := Factory.cableway
        state := .idle
        holder := none
        plan := none
        run := none
        endCause := none
        latestHold := none
        remembered := none
        window := none
        motionTimer := none
        exposureTimer := none
        pauseTimer := none
        available := false
        drive := .off
        target := none
        lines := ⟨0, 0⟩ }
    gauging :=
      { run := none, exposure := none, kept := [], result := .none, computing := none, list := [], nextId := 1 }
    notices := { held := [], overflowed := false }
    archive :=
      { pages := []
        state := .normal
        nextIndex := 0
        indexEnd := false
        queue := []
        waiting := []
        op := .idle
        firstOp := .openFirst 0
        lastSequence := 0
        obsDropped := 0
        firstDropped := 0
        lastDropped := 0
        othersDropped := 0
        verifications := PerPort.all none }
    store := { medium := Factory.medium, queue := [], defaulted := [] }
    ports := { l := PortL.reset, t := PortAsync.reset, f := PortAsync.reset, nextId := 0 }
    pending := [] }

end Sys2Proof.Machine
end

