-- ==== Sys2Proof/Machine/Ops.lean ====
section
/-! DEFINITION. The named operations every block uses: the two roundings, the banks, the pages, the timers, and the
slots of the ports. -/

namespace Sys2Proof.Machine

/-! ### Division and rounding (00_scope.md) -/

/-- Half up, for a value that cannot be negative: half the divisor is added and the sum is divided. -/
def halfUp (n d : Nat) : Nat := (n + d / 2) / d

/-- Half away from zero, for a signed value: the magnitude is rounded half up and the sign restored. -/
def halfAway (n : Int) (d : Nat) : Int :=
  if 0 ≤ n then (halfUp n.natAbs d : Nat) else -((halfUp n.natAbs d : Nat) : Int)

/-- The nearer limit of a range for a value outside it. -/
def clamp (lo hi v : Int) : Int := if v < lo then lo else if hi < v then hi else v

/-- A 16-bit count that is held at 65,535 (R32, R132, R166). -/
def heldCount (n : Nat) : Nat := if n < max16 then n + 1 else max16

/-! ### Sorting (R7) -/

/-- Insertion into a list in increasing order, after the equal entries. -/
def insertSorted (n : Nat) : List Nat → List Nat
  | [] => [n]
  | m :: l => if n < m then n :: m :: l else m :: insertSorted n l

/-- The list in increasing order, equal entries kept. -/
def sortNat : List Nat → List Nat
  | [] => []
  | n :: l => insertSorted n (sortNat l)

/-! ### Banks -/

/-- The three channels in the order LA, LB, LC (R10, R12). -/
def channels : List Channel := [.LA, .LB, .LC]

/-- The value of one channel. -/
def PerChannel.get {α : Type} (b : PerChannel α) : Channel → α
  | .LA => b.la
  | .LB => b.lb
  | .LC => b.lc

/-- The bank with one channel's value replaced. -/
def PerChannel.set {α : Type} (b : PerChannel α) (c : Channel) (a : α) : PerChannel α :=
  match c with
  | .LA => ⟨a, b.lb, b.lc⟩
  | .LB => ⟨b.la, a, b.lc⟩
  | .LC => ⟨b.la, b.lb, a⟩

/-- A function applied to each channel's value. -/
def PerChannel.map {α β : Type} (f : α → β) (b : PerChannel α) : PerChannel β := ⟨f b.la, f b.lb, f b.lc⟩

/-- A function of the channel and its values in two banks. -/
def PerChannel.zip {α β γ : Type} (f : α → β → γ) (x : PerChannel α) (y : PerChannel β) : PerChannel γ :=
  ⟨f x.la y.la, f x.lb y.lb, f x.lc y.lc⟩

/-- The values in the order LA, LB, LC. -/
def PerChannel.toList {α : Type} (b : PerChannel α) : List (Channel × α) := [(.LA, b.la), (.LB, b.lb), (.LC, b.lc)]

/-- The value of one rating slot. -/
def Four.get {α : Type} (b : Four α) (n : Fin 4) : α :=
  match n with
  | 0 => b.s1
  | 1 => b.s2
  | 2 => b.s3
  | 3 => b.s4

/-- The bank with one rating slot replaced. -/
def Four.set {α : Type} (b : Four α) (n : Fin 4) (a : α) : Four α :=
  match n with
  | 0 => { b with s1 := a }
  | 1 => { b with s2 := a }
  | 2 => { b with s3 := a }
  | 3 => { b with s4 := a }

/-- A function applied to each slot. -/
def Four.map {α β : Type} (f : α → β) (b : Four α) : Four β := ⟨f b.s1, f b.s2, f b.s3, f b.s4⟩

/-- The slots with their numbers, lowest first. -/
def Four.toList {α : Type} (b : Four α) : List (Fin 4 × α) := [(0, b.s1), (1, b.s2), (2, b.s3), (3, b.s4)]

/-- The value of one threshold record; 0 is T1. -/
def Eight.get {α : Type} (b : Eight α) (n : Fin 8) : α :=
  match n with
  | 0 => b.t1
  | 1 => b.t2
  | 2 => b.t3
  | 3 => b.t4
  | 4 => b.t5
  | 5 => b.t6
  | 6 => b.t7
  | 7 => b.t8

/-- The bank with one threshold record replaced. -/
def Eight.set {α : Type} (b : Eight α) (n : Fin 8) (a : α) : Eight α :=
  match n with
  | 0 => { b with t1 := a }
  | 1 => { b with t2 := a }
  | 2 => { b with t3 := a }
  | 3 => { b with t4 := a }
  | 4 => { b with t5 := a }
  | 5 => { b with t6 := a }
  | 6 => { b with t7 := a }
  | 7 => { b with t8 := a }

/-- A function applied to each threshold record. -/
def Eight.map {α β : Type} (f : α → β) (b : Eight α) : Eight β :=
  ⟨f b.t1, f b.t2, f b.t3, f b.t4, f b.t5, f b.t6, f b.t7, f b.t8⟩

/-- A function of the values in two banks. -/
def Eight.zip {α β γ : Type} (f : α → β → γ) (x : Eight α) (y : Eight β) : Eight γ :=
  ⟨f x.t1 y.t1, f x.t2 y.t2, f x.t3 y.t3, f x.t4 y.t4, f x.t5 y.t5, f x.t6 y.t6, f x.t7 y.t7, f x.t8 y.t8⟩

/-- The values of T1 to T8. -/
def Eight.toList {α : Type} (b : Eight α) : List α := [b.t1, b.t2, b.t3, b.t4, b.t5, b.t6, b.t7, b.t8]

/-- The value of one port. -/
def PerPort.get {α : Type} (b : PerPort α) : Port → α
  | .L => b.l
  | .T => b.t
  | .F => b.f

/-- The bank with one port's value replaced. -/
def PerPort.set {α : Type} (b : PerPort α) (p : Port) (a : α) : PerPort α :=
  match p with
  | .L => ⟨a, b.t, b.f⟩
  | .T => ⟨b.l, a, b.f⟩
  | .F => ⟨b.l, b.t, a⟩

/-! ### Levels (R85) -/

/-- The place of a level in the order CLEAR, WATCH, WARN, ALARM. -/
def levelRank : Level → Nat
  | .clear => 0
  | .watch => 1
  | .warn => 2
  | .alarm => 3

/-- The higher of two levels. -/
def levelHigher (a b : Level) : Level := if levelRank a ≤ levelRank b then b else a

/-- A severity as a level. -/
def severityLevel : Severity → Level
  | .watch => .watch
  | .warn => .warn
  | .alarm => .alarm

/-! ### Time (R27) -/

/-- The elapsed value, in hundredths, a number of whole seconds after another. -/
def after (t seconds : Nat) : Nat := t + 100 * seconds

/-- The elapsed time moved on to an instant, when it has not passed it (log entry 1). -/
def State.advanceTo (s : State) (t : Nat) : State := { s with elapsed := max s.elapsed t }

/-- The whole seconds that remain to an expiry (log entry 23). -/
def secondsLeft (now expiry : Nat) : Nat := (expiry - now) / 100

/-- The encoder lines as a command finds them (log entry 5). -/
def State.sample (s : State) (x : Encoders) : State := { s with cable := { s.cable with lines := x } }

/-! ### Pages -/

/-- A wholly erased page. -/
def Page.blank : Page := { status := .erased, header := none, records := [] }

/-- The number of pages (R157). -/
abbrev pageCount : Nat := 256

/-- The page of a number; a page that is not listed is erased. -/
def pageAt : List (Nat × Page) → Nat → Page
  | [], _ => Page.blank
  | (k, p) :: l, n => if k = n then p else pageAt l n

/-- The list without the page of a number. -/
def dropPage : List (Nat × Page) → Nat → List (Nat × Page)
  | [], _ => []
  | (k, p) :: l, n => if k = n then dropPage l n else (k, p) :: dropPage l n

/-- The list with a page put in its place among the page numbers. -/
def putPage : List (Nat × Page) → Nat → Page → List (Nat × Page)
  | [], n, q => [(n, q)]
  | (k, p) :: l, n, q =>
    if n < k then (n, q) :: (k, p) :: l else if k = n then (n, q) :: l else (k, p) :: putPage l n q

/-- The list with one page's contents replaced. Storing the blank page takes the entry out, so that equal archives
are equal lists. -/
def setPage (l : List (Nat × Page)) (n : Nat) (q : Page) : List (Nat × Page) :=
  if q = Page.blank then dropPage l n else putPage l n q

/-- The canonical form of the page list: strictly rising page numbers below 256, and no entry for a blank page. -/
def pagesWf : List (Nat × Page) → Bool
  | [] => true
  | [(k, p)] => decide (k < pageCount) && decide (p ≠ Page.blank)
  | (k, p) :: (k', p') :: l => decide (k < k') && decide (p ≠ Page.blank) && pagesWf ((k', p') :: l)

/-! ### Slots of the ports (R178) -/

/-- The request owed on a port. -/
def Ports.slot (ps : Ports) : Port → Option Owed
  | .L => ps.l.slot
  | .T => ps.t.slot
  | .F => ps.f.slot

/-- The ports with one slot replaced. -/
def Ports.setSlot (ps : Ports) (p : Port) (o : Option Owed) : Ports :=
  match p with
  | .L => { ps with l := { ps.l with slot := o } }
  | .T => { ps with t := { ps.t with slot := o } }
  | .F => { ps with f := { ps.f with slot := o } }

/-- One asynchronous port. -/
def Ports.async (ps : Ports) : AsyncPort → PortAsync
  | .T => ps.t
  | .F => ps.f

/-- The ports with one asynchronous port replaced. -/
def Ports.setAsync (ps : Ports) (p : AsyncPort) (a : PortAsync) : Ports :=
  match p with
  | .T => { ps with t := a }
  | .F => { ps with f := a }

/-- The owing block's answer to the request owed on a port becomes ready (R178, R181, R184). A slot that owes nothing,
or whose answer is ready already, is left as it is. -/
def Ports.answer (ps : Ports) (p : Port) (result : Result) (payload : Payload) : Ports :=
  match ps.slot p with
  | none => ps
  | some o =>
    if o.answered then ps
    else
      let r : Response := { code := o.code, tag := o.tag, result := result, payload := payload, answers := true }
      let o' : Owed := { o with answered := true }
      match p with
      | .L => { ps with l := { ps.l with slot := some o', answer := some r } }
      | .T => { ps with t := { ps.t with slot := some o', ready := ps.t.ready ++ [r] } }
      | .F => { ps with f := { ps.f with slot := some o', ready := ps.f.ready ++ [r] } }

/-- The result of a deferred request all of whose parts are done (R178, R194; log entry 15). -/
def Owed.result (o : Owed) : Result :=
  if o.unfinished then .storeFailed else if o.dropped && o.strict then .archiveFailed else .ok

/-- The payload that goes with the result: a STORE_FAILED answer takes the place of the block's own (R194). -/
def Owed.resultPayload (o : Owed) : Payload := if o.unfinished then .empty else o.payload

/-- Whether every part a deferred request waits for is done. -/
def Owed.complete (o : Owed) : Bool :=
  !o.waitWrite && !o.waitRecord && o.waitGauging.isNone && !o.waitVerify

/-- The request owed on a port is answered when every part it waits for is done. -/
def Ports.resolve (ps : Ports) (p : Port) : Ports :=
  match ps.slot p with
  | none => ps
  | some o => if o.complete then ps.answer p o.result o.resultPayload else ps

/-- A report to the request of a number, when it is still owed on the port and not yet answered. -/
def Ports.report (ps : Ports) (p : Port) (id : Nat) (f : Owed → Owed) : Ports :=
  match ps.slot p with
  | none => ps
  | some o => if o.id = id && !o.answered then (ps.setSlot p (some (f o))).resolve p else ps

/-- What the request owed on a port waits for is set, when its owner defers the answer (R178). -/
def Ports.await (ps : Ports) (p : Port) (f : Owed → Owed) : Ports :=
  match ps.slot p with
  | none => ps
  | some o => ps.setSlot p (some (f o))

/-- The number of the request owed on a port. -/
def Ports.owedId (ps : Ports) (p : Port) : Nat :=
  match ps.slot p with
  | none => 0
  | some o => o.id

/-- The answer of a request on the state. -/
def State.answer (s : State) (p : Port) (result : Result) (payload : Payload) : State :=
  { s with ports := s.ports.answer p result payload }

/-- The answer of a request without a payload. -/
def State.reply (s : State) (p : Port) (result : Result) : State := s.answer p result .empty

end Sys2Proof.Machine
end

