-- ==== Sys2Proof/Machine/Operands.lean ====
section
/-! DEFINITION. The bytes of messages: fields (R200), the check (R176), the payload of each request kind, its code,
and the judging of what a port has heard (R179, R180, R183, R201). Log entry 12 lists what the layouts leave open. -/

namespace Sys2Proof.Machine

/-! ### Fields (R200) -/

/-- A number as `n` bytes, most significant byte first. -/
def be : Nat → Nat → List Byte
  | 0, _ => []
  | n + 1, v => BitVec.ofNat 8 (v / 256 ^ n) :: be n v

/-- A signed number as `n` bytes, two's complement. -/
def beInt (n : Nat) (v : Int) : List Byte := be n (v % (256 ^ n : Nat)).toNat

/-- The number that bytes carry, most significant byte first. -/
def ofBe (l : List Byte) : Nat := l.foldl (fun a b => 256 * a + b.toNat) 0

/-- The signed number that bytes carry. -/
def ofBeInt (l : List Byte) : Int :=
  if 2 * ofBe l < 256 ^ l.length then ofBe l else (ofBe l : Int) - (256 ^ l.length : Nat)

/-- The field of `n` bytes at an offset. -/
def field (l : List Byte) (offset n : Nat) : List Byte := (l.drop offset).take n

/-- The unsigned field of `n` bytes at an offset. -/
def nat (l : List Byte) (offset n : Nat) : Nat := ofBe (field l offset n)

/-- The signed field of `n` bytes at an offset. -/
def int (l : List Byte) (offset n : Nat) : Int := ofBeInt (field l offset n)

/-! ### The check (R176) -/

/-- One shift of the check register. -/
def crcShift (r : Byte) : Byte := if r.msb then (r <<< 1) ^^^ 0x1D#8 else r <<< 1

/-- One byte taken into the check register. -/
def crcByte (r b : Byte) : Byte :=
  crcShift (crcShift (crcShift (crcShift (crcShift (crcShift (crcShift (crcShift (r ^^^ b))))))))

/-- The check over bytes: the register starts at all ones and has no final inversion. -/
def crc (l : List Byte) : Byte := l.foldl crcByte 0xFF#8

/-! ### Enumerations (R200) -/

/-- A yes or no field: yes is listed first (log entry 12). -/
def yesNo : Nat → Option Bool
  | 0 => some true
  | 1 => some false
  | _ => none

/-- A channel name. -/
def channelOf : Nat → Option Channel
  | 0 => some .LA
  | 1 => some .LB
  | 2 => some .LC
  | _ => none

/-- A warning level. -/
def levelOf : Nat → Option Level
  | 0 => some .clear
  | 1 => some .watch
  | 2 => some .warn
  | 3 => some .alarm
  | _ => none

/-- A severity, numbered as the warning level it names (log entry 12). -/
def severityOf : Nat → Option Severity
  | 1 => some .watch
  | 2 => some .warn
  | 3 => some .alarm
  | _ => none

/-- A threshold quantity. -/
def quantityOf : Nat → Option Quantity
  | 0 => some .stage
  | 1 => some .rise
  | 2 => some .flow
  | _ => none

/-- A vertical's method. -/
def methodOf : Nat → Option Method
  | 0 => some .edge
  | 1 => some .onePoint
  | 2 => some .twoPoint
  | _ => none

/-- A record kind (R202). -/
def recordKindOf : Nat → Option RecordKind
  | 1 => some .obs
  | 2 => some .gauging
  | 3 => some .level
  | 4 => some .rating
  | 5 => some .shift
  | 6 => some .hold
  | 7 => some .time
  | 8 => some .datum
  | 9 => some .gap
  | _ => none

/-- A section of READ_SETTINGS. -/
def sectionOf : Nat → Option SettingsSection
  | 0 => some .acquisition
  | 1 => some .warning
  | 2 => some .cableway
  | 3 => some .rating
  | 4 => some .shifts
  | 5 => some .datum
  | _ => none

/-! ### Payloads of the requests (R200, and the rule of each request for the order of its fields) -/

/-- The value when the payload has the fixed size, none otherwise (R177 step 3). -/
def sizedAs {α : Type} (l : List Byte) (n : Nat) (a : α) : Option α := if l.length = n then some a else none

/-- SET_CHANNEL (R2): channel name, then the record of R1. -/
def readChannel (l : List Byte) : ChannelFields :=
  { channel := channelOf (nat l 0 1), enabled := yesNo (nat l 1 1), preference := nat l 2 1, offset := int l 3 2
    gain := nat l 5 2 }

/-- SET_ACQUISITION (R3). -/
def readAcquisition (l : List Byte) : AcqSettings :=
  { warmUp := nat l 0 1, burst := nat l 1 1, window := nat l 2 2, tolerance := nat l 4 2, clear := nat l 6 2
    watch := nat l 8 2, warn := nat l 10 2, alarm := nat l 12 2 }

/-- SET_THRESHOLD (R80): record number, then the record of R79. -/
def readThreshold (l : List Byte) : ThresholdFields :=
  { number := nat l 0 1, enabled := yesNo (nat l 1 1), quantity := quantityOf (nat l 2 1), level := int l 3 4
    margin := int l 7 4, persistence := nat l 11 1, severity := severityOf (nat l 12 1) }

/-- SET_CABLEWAY (R103, R104). That the span, which the widths of R200 do not name, is a distance across the section in 3 bytes is
the model's reading (log entry 12). -/
def readCableway (l : List Byte) : CablewaySettings :=
  { span := nat l 0 3, attendedLimit := int l 3 2, unattendedLimit := int l 5 2, weightOffset := nat l 7 2
    twoPointMinimum := nat l 9 2, deadMan := nat l 11 1, pauseLimit := nat l 12 2, traverseTimeout := nat l 14 2
    reelTimeout := nat l 16 2 }

/-- One point of COMMIT_RATING, at an offset. -/
def readPoint (l : List Byte) (offset : Nat) : RatingPoint :=
  { stage := int l offset 2, discharge := nat l (offset + 2) 4 }

/-- COMMIT_RATING (R46): effective-from, count, points; none when the count does not match the points carried. -/
def readRating (l : List Byte) : Option RatingFields :=
  if 5 ≤ l.length && decide (l.length = 5 + 6 * nat l 4 1) then
    some { effective := nat l 0 4, points := (List.range (nat l 4 1)).map (fun i => readPoint l (5 + 6 * i)) }
  else none

/-- One vertical of LOAD_PLAN, at an offset. -/
def readVertical (l : List Byte) (offset : Nat) : VerticalFields :=
  { distance := nat l offset 3, method := methodOf (nat l (offset + 3) 1), exposure := nat l (offset + 4) 1
    edgeDepth := nat l (offset + 5) 2 }

/-- LOAD_PLAN (R113): a, b, count, verticals; none when the count does not match the verticals carried. -/
def readPlan (l : List Byte) : Option PlanFields :=
  if 4 ≤ l.length && decide (l.length = 4 + 7 * nat l 3 1) then
    some { a := nat l 0 2, b := nat l 2 1
           verticals := (List.range (nat l 3 1)).map (fun i => readVertical l (4 + 7 * i)) }
  else none

/-- READ_ARCHIVE (R168): start index, count, and the kind filter when the payload does not end before it. -/
def readArchiveFields (l : List Byte) : Option ReadArchiveFields :=
  if l.length = 5 then some { start := nat l 0 4, count := nat l 4 1, filter := .absent }
  else if l.length = 6 then
    some { start := nat l 0 4, count := nat l 4 1
           filter := match recordKindOf (nat l 5 1) with | some k => .kind k | none => .unknown }
  else none

/-- READ_SETTINGS (R198): section, and the slot number when the payload does not end before it. -/
def readSettingsFields (l : List Byte) : Option ReadSettingsFields :=
  if l.length = 1 then some { part := sectionOf (nat l 0 1), slot := none }
  else if l.length = 2 then some { part := sectionOf (nat l 0 1), slot := some (nat l 1 1) }
  else none

/-- The request that a code and a payload carry: the codes run from 1 to 37 in alphabetical order of the kinds'
names (R200); any other code names no request. -/
def parseRequest (code : Nat) (l : List Byte) : Option Request :=
  match code with
  | 1 => some (.abortRun l.isEmpty)
  | 2 => some (.acceptShift (sizedAs l 2 (nat l 0 2)))
  | 3 => some (.ackLevel (sizedAs l 1 (levelOf (nat l 0 1))))
  | 4 => some (.acquireNow l.isEmpty)
  | 5 => some (.claimCableway l.isEmpty)
  | 6 => some (.clearFault l.isEmpty)
  | 7 => some (.commitRating (readRating l))
  | 8 => some (.deleteRating (sizedAs l 1 (nat l 0 1)))
  | 9 => some (.deleteShift (sizedAs l 4 (nat l 0 4)))
  | 10 => some (.enterHold l.isEmpty)
  | 11 => some (.fixDatum l.isEmpty)
  | 12 => some (.forceClaim l.isEmpty)
  | 13 => some (.freezeRating l.isEmpty)
  | 14 => some (.holdAlive l.isEmpty)
  | 15 => some (.leaveHold l.isEmpty)
  | 16 => some (.loadPlan (readPlan l))
  | 17 => some (.manualReading (sizedAs l 2 (int l 0 2)))
  | 18 => some (.readArchive (readArchiveFields l))
  | 19 => some (.readDescriptor l.isEmpty)
  | 20 => some (.readGauging (sizedAs l 2 (nat l 0 2)))
  | 21 => some (.readObs (sizedAs l 1 (nat l 0 1)))
  | 22 => some (.readSettings (readSettingsFields l))
  | 23 => some (.rejectShift (sizedAs l 2 (nat l 0 2)))
  | 24 => some (.releaseCableway l.isEmpty)
  | 25 => some (.resume l.isEmpty)
  | 26 => some (.setAcquisition (sizedAs l 14 (readAcquisition l)))
  | 27 => some (.setCableway (sizedAs l 18 (readCableway l)))
  | 28 => some (.setChannel (sizedAs l 7 (readChannel l)))
  | 29 => some (.setHoldLimit (sizedAs l 2 (nat l 0 2)))
  | 30 => some (.setShift (sizedAs l 6 { time := nat l 0 4, shift := int l 4 2 }))
  | 31 => some (.setThreshold (sizedAs l 13 (readThreshold l)))
  | 32 => some (.setTime (sizedAs l 4 (nat l 0 4)))
  | 33 => some (.setWarningTimers (sizedAs l 6 { deadline := nat l 0 2, silence := nat l 2 4 }))
  | 34 => some (.startRun l.isEmpty)
  | 35 => some (.status l.isEmpty)
  | 36 => some (.verifyArchive (sizedAs l 6 { start := nat l 0 4, count := nat l 4 2 }))
  | 37 => some (.writeDatum (sizedAs l 4 (int l 0 4)))
  | _ => none

/-- The code of a request kind (R200). -/
def requestCode : Request → Nat
  | .abortRun _ => 1
  | .acceptShift _ => 2
  | .ackLevel _ => 3
  | .acquireNow _ => 4
  | .claimCableway _ => 5
  | .clearFault _ => 6
  | .commitRating _ => 7
  | .deleteRating _ => 8
  | .deleteShift _ => 9
  | .enterHold _ => 10
  | .fixDatum _ => 11
  | .forceClaim _ => 12
  | .freezeRating _ => 13
  | .holdAlive _ => 14
  | .leaveHold _ => 15
  | .loadPlan _ => 16
  | .manualReading _ => 17
  | .readArchive _ => 18
  | .readDescriptor _ => 19
  | .readGauging _ => 20
  | .readObs _ => 21
  | .readSettings _ => 22
  | .rejectShift _ => 23
  | .releaseCableway _ => 24
  | .resume _ => 25
  | .setAcquisition _ => 26
  | .setCableway _ => 27
  | .setChannel _ => 28
  | .setHoldLimit _ => 29
  | .setShift _ => 30
  | .setThreshold _ => 31
  | .setTime _ => 32
  | .setWarningTimers _ => 33
  | .startRun _ => 34
  | .status _ => 35
  | .verifyArchive _ => 36
  | .writeDatum _ => 37

/-! ### The bytes a master sends for a request: the same layouts, written the other way -/

/-- The number of a yes or no field. -/
def yesNoCode (b : Bool) : Nat := if b then 0 else 1

/-- The number of a channel. -/
def channelCode : Channel → Nat
  | .LA => 0
  | .LB => 1
  | .LC => 2

/-- The number of a severity. -/
def severityCode (v : Severity) : Nat := levelRank (severityLevel v)

/-- The number of a quantity. -/
def quantityCode : Quantity → Nat
  | .stage => 0
  | .rise => 1
  | .flow => 2

/-- The number of a method. -/
def methodCode : Method → Nat
  | .edge => 0
  | .onePoint => 1
  | .twoPoint => 2

/-- The number of a record kind (R202). -/
def recordKindCode : RecordKind → Nat
  | .obs => 1
  | .gauging => 2
  | .level => 3
  | .rating => 4
  | .shift => 5
  | .hold => 6
  | .time => 7
  | .datum => 8
  | .gap => 9

/-- The number of a section. -/
def sectionCode : SettingsSection → Nat
  | .acquisition => 0
  | .warning => 1
  | .cableway => 2
  | .rating => 3
  | .shifts => 4
  | .datum => 5

/-- The number of an enumeration field whose value names nothing, in a request that a master sends. -/
abbrev noName : Nat := 255

/-- The code of an optional enumeration value. -/
def codeOr {α : Type} (f : α → Nat) : Option α → Nat
  | some a => f a
  | none => noName

/-- One point of COMMIT_RATING. -/
def writePoint (p : RatingPoint) : List Byte := beInt 2 p.stage ++ be 4 p.discharge

/-- One vertical of LOAD_PLAN. -/
def writeVertical (v : VerticalFields) : List Byte :=
  be 3 v.distance ++ be 1 (codeOr methodCode v.method) ++ be 1 v.exposure ++ be 2 v.edgeDepth

/-- The payload of a request with its fields; none for a request whose payload had the wrong size. -/
def requestPayload : Request → Option (List Byte)
  | .abortRun sized | .acquireNow sized | .claimCableway sized | .clearFault sized | .enterHold sized
  | .fixDatum sized | .forceClaim sized | .freezeRating sized | .holdAlive sized | .leaveHold sized
  | .readDescriptor sized | .releaseCableway sized | .resume sized | .startRun sized | .status sized =>
    if sized then some [] else none
  | .acceptShift id | .readGauging id | .rejectShift id => id.map (be 2)
  | .ackLevel level => level.map (fun l => be 1 (codeOr levelRank l))
  | .commitRating f =>
    f.map (fun f => be 4 f.effective ++ be 1 f.points.length ++ f.points.flatMap writePoint)
  | .deleteRating id => id.map (be 1)
  | .deleteShift time | .setTime time => time.map (be 4)
  | .loadPlan f =>
    f.map (fun f => be 2 f.a ++ be 1 f.b ++ be 1 f.verticals.length ++ f.verticals.flatMap writeVertical)
  | .manualReading stage => stage.map (beInt 2)
  | .readArchive f =>
    f.map (fun f => be 4 f.start ++ be 1 f.count ++
      match f.filter with
      | .absent => []
      | .kind k => be 1 (recordKindCode k)
      | .unknown => be 1 noName)
  | .readObs count => count.map (be 1)
  | .readSettings f =>
    f.map (fun f => be 1 (codeOr sectionCode f.part) ++ match f.slot with | none => [] | some n => be 1 n)
  | .setAcquisition f =>
    f.map (fun f => be 1 f.warmUp ++ be 1 f.burst ++ be 2 f.window ++ be 2 f.tolerance ++ be 2 f.clear ++ be 2 f.watch
      ++ be 2 f.warn ++ be 2 f.alarm)
  | .setCableway f =>
    f.map (fun f => be 3 f.span ++ beInt 2 f.attendedLimit ++ beInt 2 f.unattendedLimit ++ be 2 f.weightOffset
      ++ be 2 f.twoPointMinimum ++ be 1 f.deadMan ++ be 2 f.pauseLimit ++ be 2 f.traverseTimeout ++ be 2 f.reelTimeout)
  | .setChannel f =>
    f.map (fun f => be 1 (codeOr channelCode f.channel) ++ be 1 (codeOr yesNoCode f.enabled) ++ be 1 f.preference
      ++ beInt 2 f.offset ++ be 2 f.gain)
  | .setHoldLimit limit => limit.map (be 2)
  | .setShift f => f.map (fun f => be 4 f.time ++ beInt 2 f.shift)
  | .setThreshold f =>
    f.map (fun f => be 1 f.number ++ be 1 (codeOr yesNoCode f.enabled) ++ be 1 (codeOr quantityCode f.quantity)
      ++ beInt 4 f.level ++ beInt 4 f.margin ++ be 1 f.persistence ++ be 1 (codeOr severityCode f.severity))
  | .setWarningTimers f => f.map (fun f => be 2 f.deadline ++ be 4 f.silence)
  | .verifyArchive f => f.map (fun f => be 4 f.start ++ be 2 f.count)
  | .writeDatum elevation => elevation.map (beInt 4)

/-- A message with its check: code, tag, length, payload, check (R201). -/
def message (code tag : Byte) (payload : List Byte) : List Byte :=
  let m := code :: tag :: (be 2 payload.length ++ payload)
  m ++ [crc m]

/-! ### Bits on the lines (R179, R183) -/

/-- The data bits of a byte on Ports T and F, least significant first (R183). -/
def lowFirst (b : Byte) : List Bool := (List.range 8).map b.getLsbD

/-- The byte of eight bits given least significant first. -/
def ofLowFirst (l : List Bool) : Byte := BitVec.ofNat 8 (l.foldr (fun b n => (if b then 1 else 0) + 2 * n) 0)

/-- The bits of bytes on Port L, each byte most significant bit first (R179). -/
def clockedBits (l : List Byte) : List Bool := l.flatMap (fun b => (lowFirst b).reverse)

/-- The bytes of the bits clocked on Port L; of a last byte not clocked whole, nothing (R179). -/
def clockedBytes : List Bool → List Byte
  | a :: b :: c :: d :: e :: f :: g :: h :: l => ofLowFirst [h, g, f, e, d, c, b, a] :: clockedBytes l
  | _ => []

/-- The even parity bit of a byte: with it the number of ones is even (R183). -/
def evenParity (b : Byte) : Bool := (lowFirst b).foldl Bool.xor false

end Sys2Proof.Machine

namespace Sys2Proof

/-- A byte as Ports T and F send it (R183). -/
def Character.of (b : Byte) : Character := { data := b, parity := Machine.evenParity b }

/-- Whether a character has no parity error (R183). -/
def Character.sound (c : Character) : Bool := c.parity == Machine.evenParity c.data

/-- The levels of a character on the line: start bit, data bits least significant first, parity bit, stop bit (R183). That the
start bit is space and the stop bit mark, as false and true, is presumed (log entry 36). -/
def Character.levels (c : Character) : List Bool := [false] ++ Machine.lowFirst c.data ++ [c.parity, true]

/-- The character of eleven levels; none where the start or the stop bit is missing. -/
def Character.ofLevels : List Bool → Option Character
  | [false, a, b, c, d, e, f, g, h, parity, true] => some { data := Machine.ofLowFirst [a, b, c, d, e, f, g, h], parity := parity }
  | _ => none

end Sys2Proof

namespace Sys2Proof.Machine

/-! ### Judging what a port has heard (R179, R180, R183) -/

/-- What a frame of Port L carries inbound, or what a line of Port T or F has carried since its break. -/
inductive Inbound where
  | empty
  | faulty
  | unknown (code tag : Byte)
  | request (tag : Byte) (r : Request)
deriving DecidableEq, Repr

/-- The request a whole message with a correct check carries, or its unknown code (R177 step 1). -/
def Inbound.ofMessage (code tag : Byte) (payload : List Byte) : Inbound :=
  match parseRequest code.toNat payload with
  | some r => .request tag r
  | none => .unknown code tag

/-- An inbound frame is judged: empty when no byte was clocked or the first byte is all ones (R179); faulty when it is
too short, its length field is above 576 or its check fails (R180). Bytes after the check byte are ignored. -/
def Inbound.judge (l : List Byte) : Inbound :=
  match l with
  | [] => .empty
  | code :: rest =>
    if code = 0xFF#8 then .empty
    else
      match rest with
      | tag :: h :: k :: body =>
        let n := 256 * h.toNat + k.toNat
        if 576 < n then .faulty
        else
          match body.drop n with
          | [] => .faulty
          | check :: _ =>
            if crc (code :: tag :: h :: k :: body.take n) = check then Inbound.ofMessage code tag (body.take n)
            else .faulty
      | _ => .faulty

/-- The characters since a break on Port T or F are judged at the end of their message, whose place its length field gives:
empty while it has not ended; faulty when the length field is above 576, which ends it at that field, when a character of it has
a parity error, or when its check fails. Characters after its end are ignored (R183). -/
def Inbound.judgeLine (l : List Character) : Inbound :=
  match l with
  | code :: tag :: h :: k :: body =>
    let n := 256 * h.data.toNat + k.data.toNat
    if 576 < n then .faulty
    else
      match body.drop n with
      | [] => .empty
      | check :: _ =>
        let m := code :: tag :: h :: k :: body.take n
        if (m ++ [check]).all (·.sound) && decide (crc (m.map (·.data)) = check.data) then
          Inbound.ofMessage code.data tag.data ((body.take n).map (·.data))
        else .faulty
  | _ => .empty

end Sys2Proof.Machine
end

