-- ==== Sys2Proof/Machine/Layouts.lean ====
section
/-! DEFINITION. The bytes the part sends and stores (11_message_and_record_layouts.md): bodies of records and notices,
archive records, page use, the status summary, responses and notice packets. Log entry 14 lists what the layouts leave
open. -/

namespace Sys2Proof.Machine

/-! ### Bits, presence and enumerations (R200) -/

/-- A set of flags as a number, the first flag in bit 0. -/
def bits : List Bool → Nat
  | [] => 0
  | b :: l => (if b then 1 else 0) + 2 * bits l

/-- A set of flags as one byte. -/
def bitByte (l : List Bool) : List Byte := be 1 (bits l)

/-- An optional unsigned field: zero when absent. -/
def beOpt (n : Nat) (v : Option Nat) : List Byte := be n (v.getD 0)

/-- An optional signed field: zero when absent. -/
def beIntOpt (n : Nat) (v : Option Int) : List Byte := beInt n (v.getD 0)

/-- A Bool as a number, for set and clear. -/
def flagCode (b : Bool) : Nat := if b then 1 else 0

/-- The number of a port (R200). -/
def portCode : Port → Nat
  | .L => 0
  | .T => 1
  | .F => 2

/-- The number of a time quality, listed as SET, UNCERTAIN (R26). -/
def qualityCode : Quality → Nat
  | .set => 0
  | .uncertain => 1

/-- The number of a source (R202). -/
def sourceCode : Source → Nat
  | .channel c => channelCode c
  | .manual => 3

/-- The number of an end cause, in the order of R119. -/
def causeCode : EndCause → Nat
  | .complete => 0
  | .aborted => 1
  | .released => 2
  | .takenOver => 3
  | .floodLimit => 4
  | .pauseLimit => 5
  | .overload => 6
  | .motionTimeout => 7

/-- The number of a disposition (R202). -/
def dispositionCode : Disposition → Nat
  | .pending => 0
  | .accepted => 1
  | .rejected => 2
  | .none => 3

/-- The number of a deadline state (R202). -/
def deadlineCode : DeadlineState → Nat
  | .stopped => 0
  | .running => 1
  | .expired => 2

/-- The number of a hold cause, REQUEST, START_LINE, TIMEOUT (R36; log entry 14). -/
def holdCauseCode : HoldCause → Nat
  | .request => 0
  | .startLine => 1
  | .timeout => 2

/-- The number of a run state, in the order of R107. -/
def runStateCode : RunState → Nat
  | .idle => 0
  | .claimed => 1
  | .traversing => 2
  | .sounding => 3
  | .positioning => 4
  | .counting => 5
  | .raising => 6
  | .paused => 7
  | .faulted => 8
  | .retrieving => 9
  | .stuck => 10

/-- The number of a result code, in the order of the table of R177. -/
def resultCode : Result → Nat
  | .ok => 0
  | .wait => 1
  | .busy => 2
  | .frameError => 3
  | .notPermitted => 4
  | .badRequest => 5
  | .range => 6
  | .frozen => 7
  | .ratingFull => 8
  | .duplicateTime => 9
  | .inForce => 10
  | .notFound => 11
  | .timeOrder => 12
  | .notHeld => 13
  | .fixed => 14
  | .claimedElsewhere => 15
  | .notHolder => 16
  | .barred => 17
  | .unavailable => 18
  | .wrongState => 19
  | .tooEarly => 20
  | .resultPending => 21
  | .stale => 22
  | .notOwed => 23
  | .archiveFailed => 24
  | .storeFailed => 25

/-- The discharge flags as a list, in the order of R16. -/
def DischargeFlags.toList (f : DischargeFlags) : List Bool :=
  [f.belowRating, f.aboveRating, f.saturated, f.noRating, f.stageClamped]

/-! ### Record bodies -/

/-- The OBS body, 19 bytes (R202). -/
def obsBody (o : Observation) : List Byte :=
  be 4 o.number ++ bitByte [decide (o.quality = .set), o.range, o.disagree, o.manual]
    ++ bitByte [o.stage.isSome, o.rate.isSome, o.discharge.isSome, o.ratingId.isSome]
    ++ beIntOpt 2 o.stage ++ be 1 ((o.source.map sourceCode).getD 0) ++ beIntOpt 2 o.rate ++ beOpt 4 o.discharge
    ++ bitByte o.flags.toList ++ beOpt 1 o.ratingId ++ beIntOpt 2 o.shift

/-- One vertical entry of the GAUGING body (R202). -/
def verticalEntry (v : VerticalResult) : List Byte :=
  be 3 v.distance
    ++ be 1 (methodCode v.method + 4 * bits [v.flags.dry, v.flags.skipped, v.flags.methodChanged, v.flags.depthLimited,
        v.flags.countSaturated, v.flags.velocityClamped])
    ++ (if v.flags.skipped then []
        else if v.method = .edge then beOpt 2 v.depth
        else if v.flags.dry then beOpt 2 v.depth ++ beOpt 2 v.velocity
        else beOpt 2 v.depth ++ beOpt 2 v.velocity ++ be 1 v.exposure ++ v.counts.flatMap (fun c => be 2 c.n))

/-- The vertical map: bit i of the 40-bit field is set when plan vertical i + 1 has an entry (R202). -/
def verticalMap (l : List VerticalResult) : Nat :=
  bits ((List.range 40).map (fun i => l.any (fun v => v.index = i + 1)))

/-- The GAUGING body (R202). -/
def gaugingBody (g : GaugingRecord) : List Byte :=
  be 2 g.id ++ be 1 (128 * flagCode (decide (g.holdPort = .F)) + 16 * causeCode g.cause + dispositionCode g.disposition)
    ++ be 4 g.startTime ++ beInt 4 g.elevation ++ be 2 g.a ++ be 1 g.b
    ++ bitByte [g.qMeas.isSome, g.height.isSome, g.qRated.isSome, g.ratingId.isSome, g.percent.isSome, g.candidate.isSome]
    ++ bitByte g.ratedFlags.toList
    ++ be 2 (bits [g.flags.incompleteSection, g.flags.skippedVerticals, g.flags.qSaturated, g.flags.manualHeight,
        g.flags.seriesShort, g.flags.timeChanged, g.flags.pctClamped, g.flags.shiftClamped, g.flags.notArchived])
    ++ beOpt 4 g.qMeas ++ beIntOpt 2 g.height ++ beOpt 4 g.qRated ++ beOpt 1 g.ratingId ++ beIntOpt 2 g.shift
    ++ beIntOpt 3 g.percent ++ beIntOpt 2 g.candidate ++ be 5 (verticalMap g.results)
    ++ g.results.flatMap verticalEntry

/-- The bytes of a LEVEL body that its event adds (R202). -/
def levelTail : LevelEvent → List Byte
  | .changed previous (.observation n) => be 1 (levelRank previous) ++ be 1 0 ++ be 4 n
  | .changed previous (.setThreshold n p) => be 1 (levelRank previous) ++ be 1 1 ++ be 1 n ++ be 1 (portCode p)
  | .acknowledged p named => be 1 (portCode p) ++ be 1 (levelRank named)
  | .deadlineExpired | .linkSilent | .linkLive => []

/-- The number of a LEVEL event (R202). -/
def levelEventCode : LevelEvent → Nat
  | .changed _ _ => 0
  | .acknowledged _ _ => 1
  | .deadlineExpired => 2
  | .linkSilent => 3
  | .linkLive => 4

/-- The LEVEL body (R202). -/
def levelBody (l : LevelBody) : List Byte :=
  be 1 (levelEventCode l.event)
    ++ be 1 (64 * levelRank l.level + 32 * flagCode l.owed + 8 * deadlineCode l.deadline + 4 * flagCode l.silent
        + 2 * flagCode l.relay)
    ++ bitByte l.active.toList ++ beOpt 4 l.firstTime ++ levelTail l.event

/-- A rating point: stage, then discharge (R44). -/
def pointBytes (p : RatingPoint) : List Byte := beInt 2 p.stage ++ be 4 p.discharge

/-- The RATING body (R56, by the general rules of R200). One presence bit for the pair of removed fields, and neither a presence
byte nor absent fields in DELETED and FROZEN, are the model's choices (log entry 14). -/
def ratingBody : RatingBody → List Byte
  | .committed p id effective points removed =>
    bitByte [removed.isSome] ++ be 1 0 ++ be 1 (portCode p) ++ be 1 id ++ be 4 effective ++ be 1 points.length
      ++ points.flatMap pointBytes ++ beOpt 1 (removed.map (·.id)) ++ beOpt 4 (removed.map (·.effective))
  | .deleted p id effective => be 1 1 ++ be 1 (portCode p) ++ be 1 id ++ be 4 effective
  | .frozen p => be 1 2 ++ be 1 (portCode p)

/-- An origin: its number, then the gauging id or zero (R59). That the id has no presence bit of its own is the model's choice
(log entry 14). -/
def originBytes : Origin → List Byte
  | .manual => be 1 0 ++ be 2 0
  | .gauging id => be 1 1 ++ be 2 id

/-- An optional shift and origin. -/
def replacedBytes : Option ShiftEntry → List Byte
  | none => be 5 0
  | some e => beInt 2 e.shift ++ originBytes e.origin

/-- An optional shift entry. -/
def removedBytes : Option ShiftEntry → List Byte
  | none => be 9 0
  | some e => be 4 e.time ++ beInt 2 e.shift ++ originBytes e.origin

/-- The number of a SHIFT event (R66). -/
def shiftEventCode : ShiftEvent → Nat
  | .set => 0
  | .deleted => 1
  | .accepted => 2

/-- The SHIFT body (R66, by the general rules of R200). -/
def shiftBody (b : ShiftBody) : List Byte :=
  bitByte [b.replaced.isSome, b.removed.isSome] ++ be 1 (shiftEventCode b.event) ++ be 1 (portCode b.port)
    ++ removedBytes (some b.entry) ++ replacedBytes b.replaced ++ removedBytes b.removed ++ be 1 b.countAfter

/-- The HOLD body (R36, by the general rules of R200). -/
def holdBody (h : HoldBody) : List Byte :=
  bitByte [h.limit.isSome, h.count.isSome, h.last.isSome] ++ be 1 (if h.entered then 0 else 1) ++ be 1 (holdCauseCode h.cause)
    ++ beOpt 2 h.limit ++ beOpt 2 h.count ++ beIntOpt 2 h.last

/-- The TIME body (R29, by the general rules of R200). -/
def timeBody (t : TimeBody) : List Byte :=
  be 4 t.before ++ be 1 (qualityCode t.quality) ++ be 4 t.after ++ be 1 (portCode t.port)

/-- The DATUM body (R55, by the general rules of R200). -/
def datumBody (d : DatumBody) : List Byte :=
  be 1 (flagCode d.fixed) ++ beInt 4 d.before ++ beInt 4 d.after ++ be 1 (portCode d.port)

/-- The GAP body, 12 bytes (R202). -/
def gapBody (g : GapBody) : List Byte :=
  if g.obsCount = 0 then be 2 0 ++ be 4 0 ++ be 4 0 ++ be 2 g.others
  else be 2 g.obsCount ++ be 4 g.first ++ be 4 g.last ++ be 2 g.others

/-- The kind of a record (R158). -/
def Record.kind : Record → RecordKind
  | .obs _ => .obs
  | .gauging _ => .gauging
  | .level _ => .level
  | .rating _ => .rating
  | .shift _ => .shift
  | .hold _ => .hold
  | .time _ => .time
  | .datum _ => .datum
  | .gap _ => .gap

/-- The body of a record. -/
def Record.body : Record → List Byte
  | .obs o => obsBody o
  | .gauging g => gaugingBody g
  | .level l => levelBody l
  | .rating r => ratingBody r
  | .shift x => shiftBody x
  | .hold h => holdBody h
  | .time t => timeBody t
  | .datum d => datumBody d
  | .gap g => gapBody g

/-- The length of a whole record, header included (R158, R202). -/
def Record.length (r : Record) : Nat := 12 + r.body.length

/-- A whole archive record: the 12-byte header and the body, the check over every byte but itself (R202). -/
def recordBytes (r : Record) (index time : Nat) : List Byte :=
  let head := be 1 (recordKindCode r.kind) ++ be 2 r.length ++ be 4 index ++ be 4 time
  head ++ [crc (head ++ r.body)] ++ r.body

/-- The check of a page header, over its sequence number and its elevation (R157, R202). -/
def headerCheck (sequence : Nat) (elevation : Int) : Byte := crc (be 4 sequence ++ beInt 4 elevation)

/-- A mark on a page: programmed by writing it to 0, all ones until then (R202). -/
def markByte (programmed : Bool) : Byte := if programmed then 0x00#8 else 0xFF#8

/-- Whether the sequence number and the elevation of a header are all ones, as in erased space. -/
def PageHeader.unwritten (h : PageHeader) : Bool := h.sequence = max32 && decide (h.elevation = -1)

/-- A byte that fails a check: a free one, but for the byte that passes. -/
def failingByte (free pass : Byte) : Byte := if free = pass then pass + 1 else free

/-- The check byte that a header holds. Of a header that fails its check it is free, but not the byte that passes (R202); one that
is erased but for a mark has it erased, and one without a mark is not wholly erased by it (R157, R172; log entry 16). -/
def PageHeader.check (h : PageHeader) : Byte :=
  let pass := headerCheck h.sequence h.elevation
  let free := Config.failedCheck h.sequence h.elevation
  if h.checkOk then pass
  else if !h.unwritten then failingByte free pass
  else if h.closed || h.retiredMark then 0xFF#8
  else failingByte (if free = 0xFF#8 then pass else free) pass

/-- The 16 bytes of a page header (R202). That a header which fails its check shows the sequence number and the elevation that were
programmed is the model's choice (log entry 16). -/
def PageHeader.bytes (h : PageHeader) : List Byte :=
  be 4 h.sequence ++ beInt 4 h.elevation ++ [h.check, markByte h.closed, markByte h.retiredMark] ++ List.replicate 5 0xFF#8

/-- The header of a page; a wholly erased one is 16 bytes of all ones (R202). -/
def Page.headerBytes (p : Page) : List Byte :=
  match p.header with
  | none => List.replicate 16 0xFF#8
  | some h => h.bytes

/-- The length that the length field of a record's bytes gives (R202). -/
def lengthField (b : List Byte) : Nat := ((b[1]?).getD 0).toNat * 256 + ((b[2]?).getD 0).toNat

/-- The check byte that a record passes with: over every byte of it but the check itself (R202). -/
def checkOf (record : List Byte) : Byte := crc (record.eraseIdx 11)

/-- The bytes of a record that fails its check, before the bytes `rest` of its page: free, but for what the rules say of them. The
kind byte is not 255, which is erased space, and the check byte is not the one that passes over the length that the record's own
length field gives (R172, R202; log entry 16). -/
def damagedBytes (free rest : List Byte) : List Byte :=
  let b := free.set 0 (if free[0]? = some 0xFF#8 then 0x00#8 else (free[0]?).getD 0)
  b.set 11 (failingByte ((b[11]?).getD 0) (checkOf ((b ++ rest).take (lengthField b))))

/-- The bytes of a page from an offset on, where its records stand one after another and erased space follows them, which a walk
tells from a record by its kind byte of 255 (R157, R202). -/
def recordsBytes (sequence offset : Nat) : List StoredRecord → List Byte
  | [] => List.replicate (4096 - offset) 0xFF#8
  | r :: l =>
    let rest := recordsBytes sequence (offset + r.record.length) l
    (if r.intact then recordBytes r.record r.index r.time
      else damagedBytes ((List.range r.record.length).map (fun k => Config.damagedByte sequence (offset + k))) rest) ++ rest

/-- The 4,096 bytes of a page: the header, then the records and erased space from offset 16 (R157, R202). Of a record that fails
its check the bytes are free within what failing means; that they are as many as the record had, and that a page whose erase was cut
off reads erased behind its header, are the model's choices (log entry 16). -/
def Page.bytes (p : Page) : List Byte := p.headerBytes ++ recordsBytes ((p.header.map (·.sequence)).getD 0) 16 p.records

/-- The bytes a page has in use: 16 for the header, then its records (R202). -/
def Page.used (p : Page) : Nat := p.records.foldl (fun n r => n + r.record.length) 16

/-- The erased space left in a page of 4,096 bytes (R157, R161). -/
def Page.space (p : Page) : Nat := 4096 - p.used

/-! ### Notice bodies and packets (R201) -/

/-- The number of a notice kind, which is also its priority (R188, R201). -/
def noticeKind : NoticeBody → Nat
  | .level .. => 1
  | .cableway .. => 2
  | .sensor .. => 3
  | .gauging .. => 4
  | .hold .. => 5
  | .archive .. => 6

/-- The number of an archive state (R164, R201). -/
def archiveStateCode : ArchiveState → Nat
  | .normal => 0
  | .degraded => 1
  | .failed _ => 2

/-- The cause of a FAILED archive, as a field. -/
def failCauseCode : ArchiveState → Nat
  | .failed .indexEnd => 1
  | _ => 0

/-- Whether an archive state is FAILED. -/
def ArchiveState.isFailed : ArchiveState → Bool
  | .failed _ => true
  | _ => false

/-- The number of a SENSOR event (R12). -/
def sensorEventCode : SensorEvent → Nat
  | .channelFault => 0
  | .channelOk => 1
  | .disagreeSet => 2
  | .disagreeClear => 3

/-- The number of a CABLEWAY event (R128). -/
def cablewayEventCode : CablewayEvent → Nat
  | .runEnded => 0
  | .faulted => 1
  | .stuck => 2

/-- The body of a notice packet (R201 for LEVEL and GAUGING; R12, R36, R128 and R164 by R200 for the others). That a carriage
position and a reel depth are signed, as they may read below 0, is the model's choice (log entry 14). -/
def noticeBytes : NoticeBody → List Byte
  | .level new previous peak => be 1 (levelRank new) ++ be 1 (levelRank previous) ++ be 1 (levelRank peak)
  | .gauging id cause q c na =>
    be 2 id ++ be 1 (causeCode cause) ++ bitByte [q.isSome, c.isSome, na] ++ beOpt 4 q ++ beIntOpt 2 c
  | .sensor event channel difference number =>
    match difference with
    | none => bitByte [true, false, false] ++ be 1 (sensorEventCode event) ++ be 1 (channelCode channel) ++ be 1 0 ++ be 2 0
        ++ be 4 number
    | some d => bitByte [false, true, true] ++ be 1 (sensorEventCode event) ++ be 1 0 ++ be 1 (channelCode channel) ++ be 2 d
        ++ be 4 number
  | .hold h => holdBody h
  | .cableway event cause hold vertical lines =>
    bitByte [vertical.isSome] ++ be 1 (cablewayEventCode event) ++ be 1 (causeCode cause)
      ++ be 1 ((hold.map portCode).getD 0) ++ beOpt 1 vertical ++ beInt 3 lines.carriage ++ beInt 2 lines.reel
  | .archive state retired healthy =>
    bitByte [state.isFailed] ++ be 1 (archiveStateCode state) ++ be 2 retired ++ be 2 healthy ++ be 1 (failCauseCode state)

/-- A whole notice packet (R201). -/
def Packet.bytes (n : Packet) : List Byte :=
  let b := noticeBytes n.body
  let m := be 1 254 ++ be 1 (noticeKind n.body) ++ be 4 n.time ++ be 1 (flagCode n.overflowed) ++ be 2 b.length ++ b
  m ++ [crc m]

/-! ### Payloads of responses -/

/-- The marks beside an item in the answer to READ_SETTINGS: bit 0 defaulted, bit 1 write pending. -/
def marksByte (m : Marks) : List Byte := bitByte [m.defaulted, m.pending]

/-- A channel item (R1). -/
def channelItem (c : Marked ChannelSettings) : List Byte :=
  be 1 (yesNoCode c.value.enabled) ++ be 1 c.value.preference ++ beInt 2 c.value.offset ++ be 2 c.value.gain ++ marksByte c.marks

/-- The acquisition item (R3). -/
def acquisitionItem (m : Marked AcqSettings) : List Byte :=
  be 1 m.value.warmUp ++ be 1 m.value.burst ++ be 2 m.value.window ++ be 2 m.value.tolerance ++ be 2 m.value.clear
    ++ be 2 m.value.watch ++ be 2 m.value.warn ++ be 2 m.value.alarm ++ marksByte m.marks

/-- A threshold item (R79). -/
def thresholdItem (m : Marked ThresholdSettings) : List Byte :=
  be 1 (yesNoCode m.value.enabled) ++ be 1 (quantityCode m.value.quantity) ++ beInt 4 m.value.level ++ beInt 4 m.value.margin
    ++ be 1 m.value.persistence ++ be 1 (severityCode m.value.severity) ++ marksByte m.marks

/-- The cableway item (R103); the width of the span is the model's reading (log entry 12). -/
def cablewayItem (m : Marked CablewaySettings) : List Byte :=
  be 3 m.value.span ++ beInt 2 m.value.attendedLimit ++ beInt 2 m.value.unattendedLimit ++ be 2 m.value.weightOffset
    ++ be 2 m.value.twoPointMinimum ++ be 1 m.value.deadMan ++ be 2 m.value.pauseLimit ++ be 2 m.value.traverseTimeout
    ++ be 2 m.value.reelTimeout ++ marksByte m.marks

/-- A shift entry (R59). -/
def shiftEntryBytes (e : ShiftEntry) : List Byte := removedBytes (some e)

/-- A rating slot's version, or VACANT (R198): that VACANT is a clear presence bit, with the version's fields carrying zero,
is the model's reading (log entry 14). -/
def versionBytes : Option RatingVersion → List Byte
  | none => bitByte [false] ++ be 1 0 ++ be 4 0 ++ be 1 0
  | some v => bitByte [true] ++ be 1 v.id ++ be 4 v.effective ++ be 1 v.points.length ++ v.points.flatMap pointBytes

/-- The payload of READ_SETTINGS (R198). The place of an item's marks byte, right after the item's own fields and before the values
of its section that are no stored item (the fixed state in DATUM, the last assigned id in RATING), and that the sets of fixed size,
the three channels and the eight thresholds, carry no count byte, are the model's choices (log entry 14). -/
def settingsBytes : SettingsAnswer → List Byte
  | .acquisition ch a l =>
    channelItem ch.la ++ channelItem ch.lb ++ channelItem ch.lc ++ acquisitionItem a ++ be 2 l.value ++ marksByte l.marks
  | .warning th t => th.toList.flatMap thresholdItem ++ be 2 t.value.deadline ++ be 4 t.value.silence ++ marksByte t.marks
  | .cableway c available => cablewayItem c ++ be 1 (if available then 0 else 1)
  | .rating v lastId frozen => versionBytes v.value ++ marksByte v.marks ++ be 1 lastId ++ be 1 (if frozen then 0 else 1)
  | .shifts m => be 1 m.value.length ++ m.value.flatMap shiftEntryBytes ++ marksByte m.marks
  | .datum e fixed => beInt 4 e.value ++ marksByte e.marks ++ be 1 (flagCode fixed)

/-- An observation in the answer to READ_OBS, 23 bytes: its time, then the OBS body (R202). -/
def obsEntry (o : Observation) : List Byte := be 4 o.time ++ obsBody o

/-- The gauging record in archive form, with archive index 0 when it never took one (R202). -/
def gaugingBytes (e : GaugingEntry) : List Byte := recordBytes (.gauging e.record) (e.index.getD 0) e.record.endTime

/-- The fixed part of the answer to READ_ARCHIVE: presence, record count, next index, marks, damaged index. That the number of
records stands here alone, as R168 names it, and no second count directly before the records (R200), and that a next index of
4,294,967,296 is sent as 0, are the model's choices (log entry 20). -/
def archiveFixed (a : ArchiveAnswer) : List Byte :=
  bitByte [a.damagedIndex.isSome] ++ be 1 a.records.length ++ be 4 a.nextIndex
    ++ bitByte [a.earlierGone, a.indexJump, a.damaged] ++ beOpt 4 a.damagedIndex

/-- The room READ_ARCHIVE has for records: 576 bytes less its fixed part, which is 11 by the model's choice of one count
(log entry 20). -/
abbrev archiveRoom : Nat := 565

/-- The payload of READ_DESCRIPTOR, in the order R199 names its items. The revision has no stated width: one byte is the
model's choice (log entry 22). -/
def descriptorBytes (d : DescriptorAnswer) : List Byte :=
  Config.nameBytes d.family ++ Config.nameBytes d.part ++ be 1 d.revision ++ be 2 256 ++ be 1 4 ++ be 1 32 ++ be 1 16
    ++ be 1 8 ++ be 1 8 ++ be 1 40 ++ be 1 16 ++ be 2 256 ++ be 2 4096 ++ be 1 32 ++ be 2 576 ++ be 1 (if d.available then 0 else 1) ++ beInt 4 d.elevation
    ++ be 1 (flagCode d.fixed) ++ be 2 d.healthy ++ be 2 d.retired ++ be 4 d.time ++ be 1 (qualityCode d.quality)

/-- A channel's status, OK or FAULT, for STATUS (R9). -/
def channelStatusBytes (fault : Option Bool) : List Byte := beOpt 1 (fault.map flagCode)

/-- The payload of STATUS: two presence bytes, then the items in chapter order; the three channels and the eight threshold states
without a count byte (log entry 14). -/
def statusBytes (a : StatusAnswer) : List Byte :=
  bitByte [a.channels.la.isSome, a.channels.lb.isSome, a.channels.lc.isSome, a.holdRemaining.isSome, a.manual.isSome,
      a.firstTime.isSome, a.deadlineRemaining.isSome, a.silenceRemaining.isSome]
    ++ bitByte [a.vertical.isSome, a.pauseRemaining.isSome, a.endCause.isSome, a.newestGauging.isSome, a.runVerticals.isSome]
    ++ channelStatusBytes a.channels.la ++ channelStatusBytes a.channels.lb ++ channelStatusBytes a.channels.lc
    ++ be 4 a.time ++ be 4 a.elapsedSeconds ++ beOpt 2 a.holdRemaining ++ beIntOpt 2 a.manual
    ++ a.thresholds.toList.flatMap (fun t => be 1 (flagCode t.active) ++ be 1 t.count)
    ++ be 1 (levelRank a.level) ++ beOpt 4 a.firstTime ++ be 1 (deadlineCode a.deadline) ++ beOpt 2 a.deadlineRemaining
    ++ beOpt 4 a.silenceRemaining ++ be 1 (if a.available then 0 else 1) ++ be 1 (runStateCode a.runState)
    ++ be 1 (match a.holder with | none => 0 | some .L => 1 | some _ => 2) ++ beOpt 1 a.vertical ++ beOpt 2 a.pauseRemaining
    ++ be 1 ((a.endCause.map causeCode).getD 0) ++ be 1 a.gaugings ++ beOpt 2 a.newestGauging ++ beOpt 1 a.runVerticals

/-- The bytes of a response's payload. The time and the shift of a removed shift entry share one presence bit, the model's
choice (log entry 14). -/
def payloadBytes : Payload → List Byte
  | .empty => []
  | .floor t => be 4 t
  | .committed id removed => bitByte [removed.isSome] ++ be 1 id ++ beOpt 1 removed
  | .shiftCount n removed =>
    bitByte [removed.isSome] ++ be 1 n ++ beOpt 4 (removed.map (·.time)) ++ beIntOpt 2 (removed.map (·.shift))
  | .observations l => be 1 l.length ++ l.flatMap obsEntry
  | .archive a => archiveFixed a ++ a.records.flatMap (fun r => recordBytes r.record r.index r.time)
  | .verified v =>
    bitByte [v.firstBad.isSome] ++ beOpt 4 v.firstBad ++ be 2 v.checked ++ be 2 v.passed ++ bitByte [v.earlierGone]
  | .gauging e => gaugingBytes e
  | .settings a => settingsBytes a
  | .descriptor d => descriptorBytes d
  | .status a => statusBytes a

/-! ### Status summary and responses (R201) -/

/-- The number of a hold state (R201). -/
def holdStateCode : HoldState → Nat
  | .none => 0
  | .pending => 1
  | .held => 2

/-- The number of a coarse cableway state (R201). -/
def coarseCode : Coarse → Nat
  | .idle => 0
  | .claimed => 1
  | .running => 2
  | .paused => 3
  | .faulted => 4
  | .retrieving => 5
  | .stuck => 6

/-- The number of a holder: none, L, F (R201). -/
def holderCode : Option Port → Nat
  | none => 0
  | some .L => 1
  | some _ => 2

/-- The number of a result state (R201). -/
def resultStateCode : ResultState → Nat
  | .none => 0
  | .computing => 1
  | .ready => 2

/-- The number of the archive's health (R201). -/
def healthCode : ArchiveHealth → Nat
  | .normal => 0
  | .degraded => 1
  | .failed => 2

/-- The four bytes of the status summary (R201). -/
def Summary.bytes (s : Summary) : List Byte :=
  be 1 (64 * levelRank s.level + 32 * flagCode s.owed + 16 * flagCode s.relay + 8 * flagCode s.silent
      + 2 * holdStateCode s.hold + flagCode s.first)
    ++ be 1 (32 * coarseCode s.cableway + 8 * holderCode s.holder + 2 * resultStateCode s.result
      + flagCode s.pendingDispositions)
    ++ be 1 (8 * s.notices + 2 * healthCode s.archive + flagCode (decide (s.quality = .set)))
    ++ be 1 (128 * flagCode s.disagree + 64 * flagCode s.frozen + 32 * flagCode s.defaulted)

/-- A whole response (R201). -/
def SentResponse.bytes (r : SentResponse) : List Byte :=
  let b := payloadBytes r.response.payload
  let m := r.summary.bytes ++ [r.response.code, r.response.tag] ++ be 1 (resultCode r.response.result)
    ++ bitByte [r.discarded] ++ be 2 b.length ++ b
  m ++ [crc m]

/-- What an asynchronous port's line carries, from after the break to the check byte. -/
def Transmission.bytes : Transmission → List Byte
  | .response r => r.bytes
  | .notice n => n.bytes

/-- A line break, the line held in its space state for one whole byte time, which the rule gives as the shortest; and the
mark level that ends it, the model's choice (R183; log entry 36). -/
def breakLevels : List Bool := List.replicate 11 false ++ [true]

/-- The levels of an asynchronous port's line through a transmission: a break, then every byte as a character (R183). -/
def Transmission.levels (t : Transmission) : List Bool :=
  breakLevels ++ t.bytes.flatMap (fun b => (Character.of b).levels)

end Sys2Proof.Machine
end

