-- ==== Sys2Proof/Machine/Flags.lean ====
section
/-! DEFINITION. The flags computed from the state: the bar of a level, the relay condition, the brake, the status
summary and the attention line. -/

namespace Sys2Proof.Machine

/-- Whether the level is WARN or ALARM. -/
def Warning.dangerous (w : Warning) : Bool := decide (2 ≤ levelRank w.level)

/-- The state the relay is brought to: energised exactly when an owed acknowledgement's deadline has expired, or the
level is WARN or ALARM while the link is SILENT (R99). -/
def Warning.relayRequired (w : Warning) : Bool :=
  (w.owed && decide (w.deadline = .expired)) || (w.dangerous && w.silent)

/-- The warning unit with the relay brought to its state (R99). -/
def Warning.withRelay (w : Warning) : Warning := { w with relay := w.relayRequired }

/-- A deadline without its expiry. -/
def Deadline.state : Deadline → DeadlineState
  | .stopped => .stopped
  | .running _ => .running
  | .expired => .expired

/-- Brake release is energised while a motion output is driven (R105). -/
def Cableway.brakeRelease (c : Cableway) : Bool := decide (c.drive ≠ .off)

/-- The coarse cableway state of the status summary (R186). -/
def coarse : RunState → Coarse
  | .idle => .idle
  | .claimed => .claimed
  | .traversing | .sounding | .positioning | .counting | .raising => .running
  | .paused => .paused
  | .faulted => .faulted
  | .retrieving => .retrieving
  | .stuck => .stuck

/-- The archive state without its cause. -/
def ArchiveState.health : ArchiveState → ArchiveHealth
  | .normal => .normal
  | .degraded => .degraded
  | .failed _ => .failed

/-- The status summary at this moment (R186), with the first-response item of a port (R187). -/
def State.summary (s : State) (first : Bool) : Summary :=
  { level := s.warning.level
    owed := s.warning.owed
    relay := s.warning.relay
    silent := s.warning.silent
    hold := s.lau.hold.state
    cableway := coarse s.cable.state
    holder := s.cable.holder
    result := s.gauging.result
    pendingDispositions := s.gauging.list.any (fun e => e.record.disposition = .pending)
    notices := s.notices.held.length
    archive := s.archive.state.health
    quality := s.clock.quality
    disagree := s.lau.disagree.isSet
    frozen := s.rating.frozen
    defaulted := !s.store.defaulted.isEmpty
    first := first }

/-- The attention line of Port L (R182): asserted while the present summary differs from the one carried in the last
response, the first-response item left out, and until the first frame after a reset begins. -/
def State.attention (s : State) : Bool :=
  match s.ports.l.lastSummary with
  | none => true
  | some m => decide (s.summary false ≠ { m with first := false })

/-- The byte that Port L's outbound data line carries at a place of a frame, counted from 0: all ones while the start-up
sequence runs (R197), and the bytes of the frame's response after it (R179). Beyond the response the spec gives none. -/
def State.outboundByte (s : State) (place : Nat) : Option Byte :=
  if s.startingUp then some 0xFF#8 else s.ports.l.frame.bind (fun r => r.bytes[place]?)

end Sys2Proof.Machine
end

