-- ==== Sys2Proof/Machine/Notices.lean ====
section
/-! DEFINITION. The notice queue (R188 to R191) and the sending of responses and notice packets (R184, R185). -/

namespace Sys2Proof.Machine

/-- The number of notices the queue holds (R188). -/
abbrev noticeCapacity : Nat := 16

/-- Whether a notice is a LEVEL notice. -/
def Notice.isLevel (n : Notice) : Bool := decide (noticeKind n.body = 1)

/-- A LEVEL notice that replaces a held one: its own time, new and previous level, and the higher of the peaks (R189). -/
def Notice.replaceWith (old : Notice) (time : Nat) (body : NoticeBody) : Notice :=
  match old.body, body with
  | .level _ _ peak, .level new previous peak' =>
    { time := time, body := .level new previous (levelHigher peak peak'), inTransmission := false }
  | _, _ => { time := time, body := body, inTransmission := false }

/-- The lowest priority present among the notices not in transmission, as its number (R188, R190). -/
def lowestPriority (l : List Notice) : Nat :=
  l.foldl (fun k n => if n.inTransmission then k else max k (noticeKind n.body)) 0

/-- The list without its oldest notice of a kind that is not in transmission. -/
def removeOldest (k : Nat) : List Notice → List Notice
  | [] => []
  | n :: l => if !n.inTransmission && decide (noticeKind n.body = k) then l else n :: removeOldest k l

/-- A notice joins the queue, replaces the held LEVEL notice, displaces another or is dropped (R189, R190). The second
part says whether a notice was removed or dropped. -/
def NoticeQueue.hand (q : NoticeQueue) (time : Nat) (body : NoticeBody) : NoticeQueue × Bool :=
  let n : Notice := { time := time, body := body, inTransmission := false }
  if n.isLevel && q.held.any Notice.isLevel then
    ({ q with held := q.held.map (fun m => if m.isLevel then m.replaceWith time body else m) }, false)
  else if q.held.length < noticeCapacity then ({ q with held := q.held ++ [n] }, false)
  else if n.isLevel then
    ({ held := removeOldest (lowestPriority q.held) q.held ++ [n], overflowed := true }, true)
  else ({ q with overflowed := true }, true)

/-- A loss is noted on the packet in transmission, for the marker's rule (R191). -/
def PortAsync.noteLoss (a : PortAsync) : PortAsync :=
  match a.sending with
  | some (.notice n) => { a with sending := some (.notice { n with lossSince := true }) }
  | _ => a

/-- A notice is handed to the queue. -/
def Wake.notice (w : Wake) (time : Nat) (body : NoticeBody) : Wake :=
  let r := w.notices.hand time body
  { w with
    notices := r.1
    ports := if r.2 then { w.ports with t := w.ports.t.noteLoss } else w.ports }

/-- The blocks that the handing of a record or a notice can change. -/
def State.wake (s : State) : Wake :=
  { time := s.clock.time, startingUp := s.startingUp, elevation := s.rating.elevation, archive := s.archive
    gauging := s.gauging, notices := s.notices, ports := s.ports }

/-- The state with those blocks replaced. -/
def State.withWake (s : State) (w : Wake) : State :=
  { s with archive := w.archive, gauging := w.gauging, notices := w.notices, ports := w.ports }

/-- A notice handed at the present station time. -/
def State.notice (s : State) (body : NoticeBody) : State := s.withWake (s.wake.notice s.clock.time body)

/-! ### The outbound lines (R184, R185, R191) -/

/-- The highest priority among the notices not in transmission, as its number; 7 when there is none. -/
def highestPriority (l : List Notice) : Nat :=
  l.foldl (fun k n => if n.inTransmission then k else min k (noticeKind n.body)) 7

/-- The oldest notice of a kind that is not in transmission, and the list with it marked in transmission. -/
def markOldest (k : Nat) : List Notice → Option Notice × List Notice
  | [] => (none, [])
  | n :: l =>
    if !n.inTransmission && decide (noticeKind n.body = k) then (some n, { n with inTransmission := true } :: l)
    else ((markOldest k l).1, n :: (markOldest k l).2)

/-- The next transmission of Port T's line when it is free: the oldest waiting response, else the notice of highest
priority and greatest age, its packet formed at this moment (R185, R191). -/
def State.pumpT (s : State) : PortAsync × NoticeQueue :=
  match s.ports.t.sending with
  | some _ => (s.ports.t, s.notices)
  | none =>
    match s.ports.t.ready with
    | r :: rest =>
      ({ s.ports.t with
          ready := rest
          sending := some (.response { response := r, discarded := false, summary := s.summary s.ports.t.first }) },
        s.notices)
    | [] =>
      let m := markOldest (highestPriority s.notices.held) s.notices.held
      match m.1 with
      | none => (s.ports.t, s.notices)
      | some n =>
        ({ s.ports.t with
            sending := some (.notice { time := n.time, body := n.body, overflowed := s.notices.overflowed, lossSince := false }) },
          { s.notices with held := m.2 })

/-- The next transmission of Port F's line when it is free: the oldest waiting response (R184). -/
def State.pumpF (s : State) : PortAsync :=
  match s.ports.f.sending, s.ports.f.ready with
  | none, r :: rest =>
    { s.ports.f with
      ready := rest
      sending := some (.response { response := r, discarded := false, summary := s.summary s.ports.f.first }) }
  | _, _ => s.ports.f

/-- The end of every command: a free outbound line begins its next transmission, with the summary of this moment
(R185, R186). That the choice falls there, and not at the first notice or response within the command, is the model's choice
(R148, R191; log entry 8): of several that one event brings to a free line, a response goes first, and then the notice of highest
priority. -/
def State.settle (s : State) : State :=
  { s with
    notices := s.pumpT.2
    ports := { s.ports with t := s.pumpT.1, f := s.pumpF } }

/-- The answer of every meaning: the state its effect leaves, at the end of the command. -/
def State.done (s : State) : Host.Outcome State Fault Refusal := .next s.settle

end Sys2Proof.Machine
end

