-- ==== Sys2Proof/Machine/Archive.lean ====
section
/-! DEFINITION. The archive (08_the_archive.md): the handing of records, the write queue, programming, closing, erasing
and opening pages, failures and retirement, GAP records, reading and verification; and the end of COMPUTING, which the
archive's reports bring about (R147, R148). -/

namespace Sys2Proof.Machine

/-- The length of the write queue (R160). -/
abbrev queueCapacity : Nat := 32

/-- The number of free records the waiting line takes (R167). -/
abbrev freeCapacity : Nat := 16

/-! ### Pages and the archive state -/

/-- The number of RETIRED pages (R157). -/
def Archive.retired (a : Archive) : Nat := (a.pages.filter (fun e => e.2.status = .retired)).length

/-- The healthy page count: 256 less the RETIRED pages (R157). -/
def Archive.healthy (a : Archive) : Nat := pageCount - a.retired

/-- The archive state that the counts give (R164); FAILED does not end before the next reset (R165). -/
def Archive.freshState (a : Archive) : ArchiveState :=
  if a.state.isFailed then a.state
  else if a.indexEnd then .failed .indexEnd
  else if a.healthy < 2 then .failed .pages
  else if 16 ≤ a.retired then .degraded
  else .normal

/-- The OPEN page; at most one page is OPEN (R157). -/
def Archive.openPage (a : Archive) : Option Nat := (a.pages.find? (fun e => e.2.status = .opened)).map (·.1)

/-- The archive with one page replaced. -/
def Archive.setPage (a : Archive) (n : Nat) (p : Page) : Archive := { a with pages := Machine.setPage a.pages n p }

/-- The next page in the ring after a page: page number order, 255 followed by 0, RETIRED pages passed over (R157). -/
def Archive.nextInRing (a : Archive) (n : Nat) : Option Nat :=
  (((List.range pageCount).map (fun k => (n + 1 + k) % pageCount)).find?
    (fun k => decide ((pageAt a.pages k).status ≠ .retired)))

/-! ### Programming (R161, R162) -/

/-- Programming of the head record begins when a page is OPEN and no operation is in flight; a record that does not fit
has the page closed. The record takes its index at its first attempt (R159, R161). -/
def Archive.begin (a : Archive) : Archive :=
  if a.op ≠ .idle || a.state.isFailed then a
  else
    match a.openPage, a.queue with
    | some n, q :: rest =>
      if q.record.length ≤ (pageAt a.pages n).space then
        match q.index with
        | some _ => { a with op := .record n }
        | none =>
          { a with op := .record n, queue := { q with index := some a.nextIndex } :: rest, nextIndex := a.nextIndex + 1 }
      else { a with op := .closedMark n }
    | _, _ => a

/-- The next page in the ring after a page is taken: an ERASED page is opened by programming its header, a FULL page is
erased first (R162). -/
def Archive.takeNext (a : Archive) (n : Nat) (elevation : Int) : Archive :=
  match a.nextInRing n with
  | none => { a with op := .idle }
  | some k =>
    match (pageAt a.pages k).status with
    | .erased => { a with op := .header k elevation }
    | .full => { a with op := .erase k }
    | .opened | .retired => { a with op := .idle }

/-- How the archive goes on after a page has been dealt with: with the OPEN page when there is one, else by taking the
next page in the ring; not at all when FAILED (R163). That it goes on with the OPEN page after a failed erase of R172's page is
the model's choice (R157; log entry 19). -/
def Archive.goOn (a : Archive) (n : Nat) (elevation : Int) : Archive :=
  if a.state.isFailed then { a with op := .idle }
  else if a.openPage.isSome then Archive.begin { a with op := .idle }
  else a.takeNext n elevation

/-- The programming that the state of the queue asks for, unless the start-up sequence runs (R196). -/
def Wake.kick (w : Wake) : Wake := if w.startingUp then w else { w with archive := w.archive.begin }

/-! ### The end of COMPUTING (R147, R148, R151, R153) -/

/-- The gauging list with a record added as its newest; the oldest of 8 is removed first (R151). -/
def addGauging (l : List GaugingEntry) (e : GaugingEntry) : List GaugingEntry :=
  (if 8 ≤ l.length then l.drop (l.length - 7) else l) ++ [e]

/-- The entry of the gauging list that READ_GAUGING names: id 0 is the newest (R152). -/
def Gauging.find (g : Gauging) (id : Nat) : Option GaugingEntry :=
  if id = 0 then g.list.getLast? else g.list.find? (fun e => e.record.id = id)

/-- The answer to READ_GAUGING from the list as it stands (R152). -/
def Gauging.readAnswer (g : Gauging) (id : Nat) : Result × Payload :=
  match g.find id with
  | none => (.notFound, .empty)
  | some e => (.ok, .gauging e)

/-- A READ_GAUGING deferred on a port is answered (R153). -/
def Ports.answerGauging (ps : Ports) (g : Gauging) (p : Port) : Ports :=
  match ps.slot p with
  | none => ps
  | some o =>
    match o.waitGauging with
    | none => ps
    | some id => ps.answer p (g.readAnswer id).1 (g.readAnswer id).2

/-- COMPUTING ends: the record joins the list, a GAUGING notice is handed, the result is READY, and deferred reads are
answered, in this order (R148). -/
def Wake.computingEnd (w : Wake) (index : Option Nat) (notArchived : Bool) : Wake :=
  match w.gauging.computing with
  | none => w
  | some g =>
    let r : GaugingRecord := { g with flags := { g.flags with notArchived := notArchived } }
    let gauging : Gauging :=
      { w.gauging with
        computing := none, list := addGauging w.gauging.list { record := r, index := index }, result := .ready }
    let w1 := ({ w with gauging := gauging } : Wake).notice w.time
      (.gauging r.id r.cause r.qMeas r.candidate notArchived)
    { w1 with
      ports := ((w1.ports.answerGauging gauging .L).answerGauging gauging .T).answerGauging gauging .F }

/-! ### Reports to the producers (R160, R161, R165) -/

/-- A record is reported as entered in the write queue. -/
def Wake.reportEntered (w : Wake) : Owner → Wake
  | .nobody | .gauging => w
  | .request p id => { w with ports := w.ports.report p id (fun o => { o with waitRecord := false }) }

/-- A record is reported dropped because the archive is FAILED (R165). -/
def Wake.reportDropped (w : Wake) : Owner → Wake
  | .nobody => w
  | .gauging => w.computingEnd none true
  | .request p id =>
    { w with ports := w.ports.report p id (fun o => { o with waitRecord := false, dropped := true }) }

/-- Records are dropped, oldest first, each reported to its producer (R165). -/
def Wake.dropAll (w : Wake) : List QueuedRecord → Wake
  | [] => w
  | q :: l => (w.reportDropped q.owner).dropAll l

/-- The archive state is taken afresh; a change hands one ARCHIVE notice, and FAILED drops the queue and the waiting
line (R164, R165). That the ARCHIVE notice is handed before the GAUGING notice of a gauging record so dropped (R148) is the
model's choice (log entry 8). -/
def Wake.freshState (w : Wake) : Wake :=
  let new := w.archive.freshState
  if new = w.archive.state then w
  else
    let a : Archive := { w.archive with state := new }
    let w1 := ({ w with archive := a } : Wake).notice w.time (.archive new a.retired a.healthy)
    if new.isFailed then
      let w2 : Wake := { w1 with archive := { a with queue := [], waiting := [] } }
      w2.dropAll (a.queue ++ a.waiting)
    else w1

/-! ### Handing a record (R160, R166, R167) -/

/-- The observation number of an OBS record. -/
def Record.obsNumber : Record → Option Nat
  | .obs o => some o.number
  | _ => none

/-- An OBS record that finds the queue full is dropped and counted (R166). -/
def Archive.countObs (a : Archive) (number : Nat) : Archive :=
  { a with
    obsDropped := heldCount a.obsDropped
    firstDropped := if a.obsDropped = 0 then number else a.firstDropped
    lastDropped := number }

/-- The records of the waiting line nobody waits for (R167). -/
def freeCount (l : List QueuedRecord) : Nat := (l.filter (fun q => q.owner = .nobody)).length

/-- A producer hands the archive a record with its header time (R158, R160). -/
def Wake.hand (w : Wake) (record : Record) (time : Nat) (owner : Owner) : Wake :=
  let q : QueuedRecord := { record := record, time := time, owner := owner, index := none }
  if w.archive.state.isFailed then w.reportDropped owner
  else if w.archive.queue.length < queueCapacity && w.archive.waiting.isEmpty then
    (({ w with archive := { w.archive with queue := w.archive.queue ++ [q] } } : Wake).reportEntered owner).kick
  else
    match record.obsNumber with
    | some n => { w with archive := w.archive.countObs n }
    | none =>
      if owner = .nobody && decide (freeCapacity ≤ freeCount w.archive.waiting) then
        { w with archive := { w.archive with othersDropped := heldCount w.archive.othersDropped } }
      else { w with archive := { w.archive with waiting := w.archive.waiting ++ [q] } }

/-- A record handed on the state, with the station time as its header time. -/
def State.hand (s : State) (record : Record) (owner : Owner) : State :=
  s.withWake (s.wake.hand record s.clock.time owner)

/-! ### Completions (R161, R162) -/

/-- The room a record leaves is given to the oldest record of the waiting line (R161). -/
def Wake.takeWaiting (w : Wake) : Wake :=
  match w.archive.waiting with
  | [] => w
  | q :: rest =>
    if w.archive.queue.length < queueCapacity then
      ({ w with archive := { w.archive with queue := w.archive.queue ++ [q], waiting := rest } } : Wake).reportEntered q.owner
    else w

/-- When the queue has emptied with a drop count above zero, a GAP record is queued and the counts are cleared (R166). That the
two observation numbers become 0 with them is the model's choice (log entry 37). -/
def Wake.gap (w : Wake) : Wake :=
  let a := w.archive
  if a.queue.isEmpty && decide (0 < a.obsDropped + a.othersDropped) && !a.state.isFailed then
    let g : GapBody :=
      { obsCount := a.obsDropped, first := a.firstDropped, last := a.lastDropped, others := a.othersDropped }
    { w with
      archive :=
        { a with
          queue := [{ record := .gap g, time := w.time, owner := .nobody, index := none }]
          obsDropped := 0, firstDropped := 0, lastDropped := 0, othersDropped := 0 } }
  else w

/-- A page with a record placed after its others. -/
def Page.append (p : Page) (q : QueuedRecord) (intact : Bool) : Page :=
  { p with
    records := p.records ++ [{ record := q.record, time := q.time, index := q.index.getD 0, intact := intact }] }

/-- The record is reported durable to the gauging unit when that is its producer (R161). -/
def Wake.reportDurable (w : Wake) (q : QueuedRecord) : Wake :=
  match q.owner with
  | .gauging => w.computingEnd q.index false
  | .nobody | .request _ _ => w

/-- The last archive index counts as used once its record is durable (R159). -/
def Archive.noteIndex (a : Archive) (q : QueuedRecord) : Archive :=
  if q.index = some max32 then { a with indexEnd := true } else a

/-- RECORD_PROGRAMMED (R161): after the last index the archive becomes FAILED before a waiting record could enter (R159). -/
def Wake.recordProgrammed (w : Wake) : Wake :=
  match w.archive.op, w.archive.queue with
  | .record n, q :: rest =>
    let a := w.archive.setPage n ((pageAt w.archive.pages n).append q true)
    let a1 : Archive := { a with op := .idle, queue := rest }
    ((({ w with archive := a1.noteIndex q } : Wake).reportDurable q).freshState.takeWaiting.gap).kick
  | _, _ => w

/-- ERASE_COMPLETE: the page's records leave the archive and the page is opened, unless a page is OPEN (R162, R172). That the
page of R172 then stays ERASED, and the archive goes on with the OPEN page, is the model's choice (R157; log entry 19). -/
def Wake.eraseComplete (w : Wake) : Wake :=
  match w.archive.op with
  | .erase n =>
    let a := w.archive.setPage n Page.blank
    if a.openPage.isSome then ({ w with archive := { a with op := .idle } } : Wake).kick
    else { w with archive := { a with op := .header n w.elevation } }
  | _ => w

/-- A page with its retired mark programmed (R157); of a page whose header was erased every other header byte stays all ones,
which fails the check (R202). -/
def Page.markRetired (p : Page) : Page :=
  { p with
    header := some (match p.header with
      | some h => { h with retiredMark := true }
      | none => { sequence := max32, elevation := -1, checkOk := false, closed := false, retiredMark := true }) }

/-- A page with its closed mark programmed (R157). -/
def Page.markClosed (p : Page) : Page := { p with header := p.header.map (fun h => { h with closed := true }) }

/-- PAGE_HEADER_PROGRAMMED: the programming of a header, a closed mark or a retired mark completes (R162, R163). -/
def Wake.pageHeaderProgrammed (w : Wake) : Wake :=
  match w.archive.op with
  | .header n elevation =>
    let h : PageHeader :=
      { sequence := w.archive.lastSequence + 1, elevation := elevation, checkOk := true, closed := false, retiredMark := false }
    let a := w.archive.setPage n { status := .opened, header := some h, records := [] }
    ({ w with archive := { a with op := .idle, lastSequence := w.archive.lastSequence + 1 } } : Wake).kick
  | .closedMark n =>
    let a := w.archive.setPage n { (pageAt w.archive.pages n).markClosed with status := .full }
    { w with archive := a.takeNext n w.elevation }
  | .retiredMark n =>
    { w with archive := (w.archive.setPage n (pageAt w.archive.pages n).markRetired).goOn n w.elevation }
  | _ => w

/-! ### Failures (R163) -/

/-- A failed page becomes RETIRED at once and its retired mark begins programming; then the archive state is taken
afresh (R163, R164). -/
def Wake.retire (w : Wake) (n : Nat) (p : Page) : Wake :=
  ({ w with
      archive := { w.archive.setPage n { p with status := .retired } with op := .retiredMark n } } : Wake).freshState

/-- PROGRAM_FAILURE: the programming of a record, a header or a mark fails, leaving on the page what `left` says
(R163; log entry 7). -/
def Wake.programFailure (w : Wake) (left : Remnant) : Wake :=
  match w.archive.op with
  | .record n =>
    let p := pageAt w.archive.pages n
    match w.archive.queue, left with
    | q :: _, .done => w.retire n (p.append q true)
    | q :: _, .bad => w.retire n (p.append q false)
    | _, _ => w.retire n p
  | .header n elevation =>
    let h : PageHeader :=
      { sequence := w.archive.lastSequence + 1, elevation := elevation, checkOk := decide (left = .done), closed := false
        retiredMark := false }
    w.retire n { pageAt w.archive.pages n with header := if left = .former then none else some h }
  | .closedMark n =>
    let p := pageAt w.archive.pages n
    w.retire n (if left = .done then p.markClosed else p)
  | .retiredMark n =>
    let p := pageAt w.archive.pages n
    let a := if left = .done then w.archive.setPage n p.markRetired else w.archive
    { w with archive := a.goOn n w.elevation }
  | .idle | .erase _ => w

/-- A page that an erase has left: as it was, wholly erased, or with a header that fails its check (R163, R174). -/
def Page.afterErase (p : Page) : Remnant → Page
  | .former => p
  | .done => Page.blank
  | .bad => { p with header := p.header.map (fun h => { h with checkOk := false }), records := [] }

/-- ERASE_FAILURE: the page being erased is retired (R163). -/
def Wake.eraseFailure (w : Wake) (left : Remnant) : Wake :=
  match w.archive.op with
  | .erase n => w.retire n ((pageAt w.archive.pages n).afterErase left)
  | _ => w

/-! ### Reading (R168, R169) -/

/-- Whether a page's records are held: it is OPEN or FULL and its header passes its check. That a page whose erase was cut off
counts none of its records as held until it is erased again is the model's choice (R172; log entry 19). -/
def Page.isHeld (p : Page) : Bool :=
  (decide (p.status = .opened) || decide (p.status = .full)) && (p.header.map (·.checkOk)).getD false

/-- The sequence number of a page. -/
def Page.sequence (p : Page) : Nat := (p.header.map (·.sequence)).getD 0

/-- A page put into a list in increasing order of sequence numbers. -/
def insertPage (e : Nat × Page) : List (Nat × Page) → List (Nat × Page)
  | [] => [e]
  | f :: l => if e.2.sequence ≤ f.2.sequence then e :: f :: l else f :: insertPage e l

/-- The held pages of a list with their numbers, in sequence order. -/
def heldPages : List (Nat × Page) → List (Nat × Page)
  | [] => []
  | e :: l => if e.2.isHeld then insertPage e (heldPages l) else heldPages l

/-- The records of a page up to the first that fails its check, that one included: the rest cannot be read (R169). That a record
cut off by a reset, which was never durable, is met as a damaged one once newer records stand on later pages, and does not show in
INDEX_JUMP alone, is the model's choice (R161, R169; log entry 20). -/
def readable : List StoredRecord → List StoredRecord
  | [] => []
  | r :: l => if r.intact then r :: readable l else [r]

/-- A list of records up to the last that passes its check. -/
def upToNewest : List StoredRecord → List StoredRecord
  | [] => []
  | r :: l =>
    match upToNewest l with
    | [] => if r.intact then [r] else []
    | kept => r :: kept

/-- The records that reading meets, as they stand on their pages, in index order, up to the newest durable record (R168, R170):
that this is the last that passes its check, as it is for the scan (R173), is the model's reading (log entry 20). -/
def Archive.standing (a : Archive) : List StoredRecord :=
  upToNewest ((heldPages a.pages).flatMap (fun e => readable e.2.records))

/-- Where the records of a page that can be read stand. -/
def placesOf (e : Nat × Page) : List RangeItem :=
  (readable e.2.records).mapIdx (fun i r => { page := e.1, sequence := e.2.sequence, place := i, index := r.index })

/-- Where the records that can be read stand, in the same order; those that reading meets are the first of them. -/
def Archive.places (a : Archive) : List RangeItem := (heldPages a.pages).flatMap placesOf

/-- The index of the first record of a list that passes its check; what reading meets ends with such a record. -/
def firstIntact (l : List StoredRecord) : Nat := ((l.find? (·.intact)).map (·.index)).getD 0

/-- The index of a damaged record with no passing record before it, which the rule does not give: a free value below the
next record's index and, whenever the start index lies below that as well, from the start index on and within the width read
(R169; log entry 20). So the record is met exactly when the read starts before the next record. -/
def unplacedIndex (start width next : Nat) : Nat :=
  if start < max next 1 then start + Config.firstDamagedIndex start % min (max next 1 - start) width
  else Config.firstDamagedIndex start % start

/-- The held records in index order. A record that fails its check stands with the damaged index of R169, one more than
the index of the record before it. -/
def walk (start width : Nat) : Option Nat → List StoredRecord → List StoredRecord
  | _, [] => []
  | before, r :: l =>
    if r.intact then r :: walk start width (some r.index) l
    else
      match before with
      | some k => { r with index := k + 1 } :: walk start width (some (k + 1)) l
      | none => { r with index := unplacedIndex start width (firstIntact l) } :: walk start width none l

/-- The records that a read from a start index on meets, over a width of indexes, in index order (R168, R169). -/
def Archive.items (a : Archive) (start width : Nat) : List StoredRecord := walk start width none a.standing

/-- The index of the oldest record held that passes its check. That a damaged oldest record does not count is the model's
choice (log entry 20). -/
def Archive.oldest (items : List StoredRecord) : Option Nat := (items.find? (·.intact)).map (·.index)

/-- Whether the start index lies below the oldest record held (R169). -/
def earlierGone (items : List StoredRecord) (start : Nat) : Bool :=
  match Archive.oldest items with
  | none => false
  | some i => decide (start < i)

/-- Whether a record matches the filter of READ_ARCHIVE. -/
def kindMatches (f : KindFilter) (r : Record) : Bool :=
  match f with
  | .absent => true
  | .kind k => decide (r.kind = k)
  | .unknown => false

/-- What the examination of R168 has reached. -/
structure Examined where
  answer : ArchiveAnswer
  room : Nat
  examined : Nat
  last : Option Nat
deriving DecidableEq, Repr

/-- One more record examined, and returned when it is to be. -/
def Examined.take (x : Examined) (r : StoredRecord) (returned : Bool) : Examined :=
  { answer :=
      { x.answer with
        records := if returned then x.answer.records ++ [r] else x.answer.records
        nextIndex := r.index + 1
        indexJump := x.answer.indexJump || (match x.last with | none => false | some k => decide (k + 1 ≠ r.index)) }
    room := if returned then x.room - r.record.length else x.room
    examined := x.examined + 1
    last := some r.index }

/-- A damaged record is noted: the mark, and the index of the first of them (R169). That it does not count as examined, for the
next index, the limit of 4,096 and INDEX_JUMP, is the model's choice (log entry 20). -/
def Examined.damage (x : Examined) (i : Nat) : Examined :=
  { x with
    answer :=
      { x.answer with damaged := true, damagedIndex := if x.answer.damagedIndex.isSome then x.answer.damagedIndex else some i } }

/-- The examination of the held records from the start index, with the four points at which it stops (R168). That a damaged
record is not counted as examined, so that the next index may stay at or before the damaged index, and that one whose index is
below the start is passed by without a mark, are the model's choices (log entry 20). -/
def examine (start count : Nat) (f : KindFilter) : Examined → List StoredRecord → Examined
  | x, [] => x
  | x, r :: l =>
    if r.index < start then examine start count f x l
    else if count ≤ x.answer.records.length || decide (4096 ≤ x.examined) then x
    else if !r.intact then examine start count f (x.damage r.index) l
    else if kindMatches f r.record then
      if r.record.length ≤ x.room then examine start count f (x.take r true) l
      else { x with answer := { x.answer with nextIndex := r.index } }
    else examine start count f (x.take r false) l

/-- The answer to READ_ARCHIVE from the durable records held (R168, R169). -/
def Archive.read (a : Archive) (start count : Nat) (f : KindFilter) : ArchiveAnswer :=
  let items := a.items start (max32 + 1)
  let x : Examined :=
    { answer :=
        { records := [], nextIndex := start, earlierGone := earlierGone items start, indexJump := false, damaged := false
          damagedIndex := none }
      room := archiveRoom, examined := 0, last := none }
  (examine start count f x items).answer

/-! ### Verification (R170, R171) -/

/-- The range of a verification: the records held from the start index on, within the count and up to the newest durable record
(R170). -/
def Archive.verifyRange (a : Archive) (start count : Nat) : List RangeItem :=
  (List.zipWith (fun (i : RangeItem) (r : StoredRecord) => { i with index := r.index }) a.places (a.items start count)).filter
    (fun i => decide (start ≤ i.index) && decide (i.index < start + count))

/-- Whether a record stands where a record of a range stood. -/
def RangeItem.standsAt (i : RangeItem) (e : Nat × Page) : Bool :=
  decide (e.1 = i.page) && decide (e.2.sequence = i.sequence) && decide (i.place < (readable e.2.records).length)

/-- Whether a record of a range is still held: its page has been neither erased nor retired (R171). -/
def Archive.stillHeld (a : Archive) (i : RangeItem) : Bool := (heldPages a.pages).any i.standsAt

/-- Whether a record of a range is still held and passes its check. -/
def Archive.passes (a : Archive) (i : RangeItem) : Bool :=
  (heldPages a.pages).any (fun e => i.standsAt e && (((readable e.2.records)[i.place]?).map (·.intact)).getD false)

/-- The records of a range that have left the archive are passed over, up to the first still held (R171). -/
def Archive.skipGone (a : Archive) (v : Verification) : Verification :=
  let gone := v.remaining.takeWhile (fun i => !a.stillHeld i)
  { v with remaining := v.remaining.drop gone.length, passed := v.passed + gone.length }

/-- VERIFY_RECORD_CHECKED: the next record of the range that is still held has passed its check (R170, R171). -/
def Archive.verifyChecked (a : Archive) (p : Port) : Archive :=
  match a.verifications.get p with
  | none => a
  | some v =>
    let v1 := a.skipGone v
    match v1.remaining with
    | i :: rest =>
      if a.passes i then
        { a with verifications := a.verifications.set p (some { v1 with remaining := rest, checked := v1.checked + 1 }) }
      else a
    | [] => a

/-- The answer of a verification that has ended: at the end of its range, or at a record that fails its check (R170). That
this record is not among those checked is the model's choice (log entry 21). -/
def Archive.verifyAnswer (a : Archive) (p : Port) : Option VerifyAnswer :=
  match a.verifications.get p with
  | none => none
  | some v =>
    let v1 := a.skipGone v
    match v1.remaining with
    | [] => some { firstBad := none, checked := v1.checked, passed := v1.passed, earlierGone := v1.earlierGone }
    | i :: _ =>
      if a.passes i then none
      else some { firstBad := some i.index, checked := v1.checked, passed := v1.passed, earlierGone := v1.earlierGone }

/-- VERIFICATION_END: the request owed is answered and the verification is over. -/
def Wake.verificationEnd (w : Wake) (p : Port) : Wake :=
  match w.archive.verifyAnswer p with
  | none => w
  | some v =>
    { w with
      archive := { w.archive with verifications := w.archive.verifications.set p none }
      ports := w.ports.answer p .ok (.verified v) }

end Sys2Proof.Machine
end

