-- ==== Sys2Proof/Machine/Store.lean ====
section
/-! DEFINITION. The settings store (10_settings_store_and_start_up.md): the writes, their completion and their failure
(R194), the marks (R195, R198), and the deferring of a request's answer (R178). -/

namespace Sys2Proof.Machine

/-- The item a write stores; the write-once cell counts as the datum item (R195, R198). -/
def WriteData.item : WriteData → ItemId
  | .channel c _ => .channel c
  | .acquisition _ => .acquisition
  | .holdLimit _ => .holdLimit
  | .threshold n _ => .threshold n
  | .warning _ => .warning
  | .cableway _ => .cableway
  | .slot n _ => .slot n
  | .shifts _ => .shifts
  | .datum _ => .datum
  | .cell _ => .datum

/-- The storage with a write's content at its place, passing its check or not. The cell is programmed whole or not at
all (R42, R194). -/
def Medium.put (m : Medium) (d : WriteData) (ok : Bool) : Medium :=
  match d with
  | .channel c v => { m with channels := m.channels.set c ⟨v, ok⟩ }
  | .acquisition v => { m with acquisition := ⟨v, ok⟩ }
  | .holdLimit v => { m with holdLimit := ⟨v, ok⟩ }
  | .threshold n v => { m with thresholds := m.thresholds.set n ⟨v, ok⟩ }
  | .warning v => { m with warning := ⟨v, ok⟩ }
  | .cableway v => { m with cableway := ⟨v, ok⟩ }
  | .slot n v => { m with slots := m.slots.set n ⟨v, ok⟩ }
  | .shifts v => { m with shifts := ⟨v, ok⟩ }
  | .datum v => { m with datum := ⟨v, ok⟩ }
  | .cell v => { m with cell := if ok then some v else m.cell }

/-- The marks beside an item in the answer to READ_SETTINGS (R198). -/
def Store.marks (st : Store) (i : ItemId) : Marks :=
  { defaulted := st.defaulted.contains i, pending := st.queue.any (fun w => w.data.item = i) }

/-- A value with the marks of its item. -/
def Store.marked {α : Type} (st : Store) (i : ItemId) (a : α) : Marked α := { value := a, marks := st.marks i }

/-- The owing block of the request on a port defers its answer: it waits for a settings write, for a record, or for both,
and then has this payload (R178). -/
def State.defer (s : State) (p : Port) (write record strict : Bool) (payload : Payload) : State :=
  { s with
    ports := s.ports.await p (fun o =>
      { o with waitWrite := write, waitRecord := record, strict := strict, payload := payload }) }

/-- The settings store is handed a write for the request owed on a port (R194). -/
def State.write (s : State) (p : Port) (d : WriteData) : State :=
  { s with
    store :=
      { s.store with queue := s.store.queue ++ [{ data := d, port := p, request := s.ports.owedId p, failures := 0 }] } }

/-- The owner of the record that the request owed on a port waits for (R167). -/
def State.ownerOf (s : State) (p : Port) : Owner := .request p (s.ports.owedId p)

/-- A settings change whose answer waits for its write alone (R178). -/
def State.writeThrough (s : State) (p : Port) (d : WriteData) : State :=
  (s.defer p true false false .empty).write p d

/-- SETTINGS_WRITE_COMPLETE: the item read back passes its check; its defaulted mark is cleared and the write is reported
complete (R194, R195). -/
def State.writeComplete (s : State) : State :=
  match s.store.queue with
  | [] => s
  | w :: rest =>
    { s with
      store :=
        { medium := s.store.medium.put w.data true, queue := rest
          defaulted := s.store.defaulted.filter (fun i => i ≠ w.data.item) }
      ports := s.ports.report w.port w.request (fun o => { o with waitWrite := false }) }

/-- READ_BACK_FAILED: the item is programmed again; at the eighth failure the write ends unfinished, its item failing its
check, and the request is told (R194). -/
def State.readBackFailed (s : State) : State :=
  match s.store.queue with
  | [] => s
  | w :: rest =>
    if w.failures + 1 < 8 then
      { s with store := { s.store with queue := { w with failures := w.failures + 1 } :: rest } }
    else
      { s with
        store := { s.store with medium := s.store.medium.put w.data false, queue := rest }
        ports := s.ports.report w.port w.request (fun o => { o with waitWrite := false, unfinished := true }) }

end Sys2Proof.Machine
end

