-- ==== Sys2Proof/Machine/Discharge.lean ====
section
/-! DEFINITION. The discharge unit (04_shifts_and_discharge_computation.md): the version in force, the shift at a time,
the effective stage, the lookup and the inverse rating. It holds no state of its own. -/

namespace Sys2Proof.Machine

/-- The held versions, in slot order (R45). -/
def RatingStore.versions (r : RatingStore) : List RatingVersion :=
  r.slots.toList.filterMap (fun x => x.2.version)

/-- The later of two versions in force. -/
def laterVersion (best : Option RatingVersion) (v : RatingVersion) : Option RatingVersion :=
  match best with
  | none => some v
  | some b => if b.effective < v.effective then some v else some b

/-- The version in force at a station time: the held version whose effective-from is the greatest among those not later
(R52). -/
def inForce (l : List RatingVersion) (t : Nat) : Option RatingVersion :=
  (l.filter (fun v => decide (v.effective ≤ t))).foldl laterVersion none

/-- The shift between two neighbouring entries: prorated, the quotient rounded half away from zero (R70). -/
def prorate (a b : ShiftEntry) (t : Nat) : Int :=
  a.shift + halfAway ((b.shift - a.shift) * ((t : Int) - a.time)) (b.time - a.time)

/-- The shift at a station time, from a table in time order (R70). -/
def shiftAt : List ShiftEntry → Nat → Int
  | [], _ => 0
  | [a], _ => a.shift
  | a :: b :: l, t => if t ≤ a.time then a.shift else if t < b.time then prorate a b t else shiftAt (b :: l) t

/-- The result of the discharge unit (R69). -/
structure Rated where
  discharge : Option Nat
  flags : DischargeFlags
  ratingId : Option Nat
  shift : Option Int
deriving DecidableEq, Repr

/-- No flags. -/
def DischargeFlags.none : DischargeFlags := ⟨false, false, false, false, false⟩

/-- A difference that is not negative, as a natural number. -/
def diff (a b : Int) : Nat := (a - b).toNat

/-- The discharge on the straight line of a segment at an effective stage, half up (R73, R75). -/
def onSegment (a b : RatingPoint) (from' : RatingPoint) (he : Int) : Nat :=
  from'.discharge + halfUp ((b.discharge - a.discharge) * diff he from'.stage) (diff b.stage a.stage)

/-- The lookup at or above the first point: within the points (R73) or above the last (R75). -/
def lookupFrom : List RatingPoint → Int → Nat × Bool × Bool
  | [], _ => (0, false, false)
  | [a], _ => (a.discharge, false, false)
  | [a, b], he =>
    if he < b.stage then (onSegment a b a he, false, false)
    else if he = b.stage then (b.discharge, false, false)
    else
      let q := onSegment a b b he
      if qMax < q then (qMax, true, true) else (q, true, false)
  | a :: b :: c :: l, he => if he < b.stage then (onSegment a b a he, false, false) else lookupFrom (b :: c :: l) he

/-- The lookup in a version's points (R72 to R75): the discharge and the flags BELOW_RATING, ABOVE_RATING, SATURATED. -/
def lookup (points : List RatingPoint) (he : Int) : Nat × Bool × Bool × Bool :=
  match points with
  | [] => (0, false, false, false)
  | a :: l =>
    if he < a.stage then (a.discharge, decide (0 < a.discharge), false, false)
    else
      let r := lookupFrom (a :: l) he
      (r.1, false, r.2.1, r.2.2)

/-- The discharge for a stage at a station time (R69 to R75). -/
def RatingStore.rate (r : RatingStore) (h : Int) (t : Nat) : Rated :=
  let s := shiftAt r.shifts t
  let he := clamp stageMin stageMax (h + s)
  let clamped := !stageOk (h + s)
  match inForce r.versions t with
  | none =>
    { discharge := none, flags := { DischargeFlags.none with noRating := true, stageClamped := clamped }, ratingId := none
      shift := none }
  | some v =>
    let q := lookup v.points he
    { discharge := some q.1
      flags :=
        { belowRating := q.2.1, aboveRating := q.2.2.1, saturated := q.2.2.2, noRating := false, stageClamped := clamped }
      ratingId := some v.id
      shift := some s }

/-- The stage on the straight line of a segment at a discharge, half up (R76, R77). -/
def stageOn (a b : RatingPoint) (from' : RatingPoint) (q : Nat) : Int :=
  from'.stage + (halfUp ((q - from'.discharge) * diff b.stage a.stage) (b.discharge - a.discharge) : Nat)

/-- The inverse from the first point on: the first segment with q_i ≤ Q < q_i+1 (R76), and above the last point the
extended last segment, or nothing when that is flat (R77). -/
def inverseFrom : List RatingPoint → Nat → Option Int
  | [], _ => none
  | [_], _ => none
  | [a, b], q =>
    if a.discharge ≤ q && decide (q < b.discharge) then some (stageOn a b a q)
    else if a.discharge < b.discharge then some (min stageMax (stageOn a b b q))
    else none
  | a :: b :: c :: l, q =>
    if a.discharge ≤ q && decide (q < b.discharge) then some (stageOn a b a q) else inverseFrom (b :: c :: l) q

/-- The inverse rating of a discharge in a version's points (R76, R77). -/
def inverse (points : List RatingPoint) (q : Nat) : Option Int :=
  match points with
  | [] => none
  | a :: l => if q < a.discharge then none else inverseFrom (a :: l) q

end Sys2Proof.Machine
end

