-- ==== Sys2Proof/Machine/Gauging.lean ====
section
/-! DEFINITION. The gauging unit (07_gauging_computation_and_results.md): counting, velocities, the formed record, the
requests READ_GAUGING, ACCEPT_SHIFT and REJECT_SHIFT, and the shift table they and SET_SHIFT and DELETE_SHIFT change
(04_shifts_and_discharge_computation.md, sections 4.1 to 4.3). -/

namespace Sys2Proof.Machine

/-! ### Counting and velocity (R132, R133, R134) -/

/-- One more pulse in an open exposure: held at 65,535, where it sets the saturation mark (R132). -/
def PulseCount.pulse (c : PulseCount) : PulseCount :=
  if c.n < max16 then { c with n := c.n + 1 } else { c with saturated := true }

/-- The greatest velocity in mm/s (R133). -/
abbrev velocityMax : Nat := 10000

/-- The velocity of a count over an exposure of `t` seconds before the clamp (R133). -/
def rawVelocity (a b t n : Nat) : Nat := if n = 0 then 0 else (a * n + 5 * t) / (10 * t) + b

/-- The velocity of a sample point (R133). -/
def pointVelocity (a b t n : Nat) : Nat := min velocityMax (rawVelocity a b t n)

/-- The method a plan vertical asks. -/
def VerticalKind.method : VerticalKind → Method
  | .edge _ => .edge
  | .onePoint _ => .onePoint
  | .twoPoint _ => .twoPoint

/-- The exposure of a plan vertical; an EDGE has none. -/
def VerticalKind.exposure : VerticalKind → Nat
  | .edge _ => 0
  | .onePoint t => t
  | .twoPoint t => t

/-- Whether a plan vertical is measured (R113). -/
def VerticalKind.isMeasured : VerticalKind → Bool
  | .edge _ => false
  | .onePoint _ | .twoPoint _ => true

/-- No vertical flags. -/
def VerticalFlags.none : VerticalFlags := ⟨false, false, false, false, false, false⟩

/-- The mean velocity of a vertical from its counts: one velocity, or the mean of two rounded half up (R134). -/
def meanVelocity (a b t : Nat) : List PulseCount → Nat
  | [] => 0
  | [c] => pointVelocity a b t c.n
  | c :: d :: _ => (pointVelocity a b t c.n + pointVelocity a b t d.n + 1) / 2

/-- The vertical result of the present vertical, from what the cableway controller hands over and the kept counts
(R134). -/
def formResult (rr : RunRecord) (kept : List PulseCount) (run : Run) : VerticalResult :=
  let v : PlanVertical := (rr.plan.verticals[run.vertical]?).getD { distance := 0, kind := .edge 0 }
  let t := v.kind.exposure
  let base : VerticalResult :=
    { index := run.vertical + 1, distance := v.distance, method := v.kind.method, depth := none, velocity := none
      exposure := t, counts := []
      flags := { VerticalFlags.none with methodChanged := run.methodChanged, depthLimited := run.depthLimited } }
  match run.sounded with
  | .dry => { base with depth := some 0, velocity := some 0, flags := { base.flags with dry := true } }
  | .skipped | .searching => { base with flags := { base.flags with skipped := true } }
  | .measured d =>
    { base with
      method := if run.methodChanged then .onePoint else v.kind.method
      depth := some d
      velocity := some (meanVelocity rr.plan.a rr.plan.b t kept)
      counts := kept
      flags :=
        { base.flags with
          countSaturated := kept.any (·.saturated)
          velocityClamped := kept.any (fun c => decide (velocityMax < rawVelocity rr.plan.a rr.plan.b t c.n)) } }

/-- A vertical's completion as the gauging unit takes it (R134). -/
def Gauging.complete (g : Gauging) (run : Run) (time : Nat) : Gauging :=
  match g.run with
  | none => { g with kept := [] }
  | some rr =>
    { g with
      run := some { rr with results := rr.results ++ [formResult rr g.kept run], lastCompletion := some time }
      kept := [] }

/-! ### The formed record (R136 to R145) -/

/-- The entries of a COMPLETE run: one for every vertical of the plan, in plan order (R145). -/
def fullResults (results : List VerticalResult) : Nat → List PlanVertical → List VerticalResult
  | _, [] => []
  | i, v :: l =>
    match v.kind with
    | .edge d =>
      { index := i + 1, distance := v.distance, method := .edge, depth := some d, velocity := some 0, exposure := 0
        counts := [], flags := VerticalFlags.none } :: fullResults results (i + 1) l
    | .onePoint _ | .twoPoint _ =>
      (results.filter (fun r => r.index = i + 1)).take 1 ++ fullResults results (i + 1) l

/-- The section list: the entries without the SKIPPED verticals (R137). -/
def sectionList (l : List VerticalResult) : List VerticalResult := l.filter (fun r => !r.flags.skipped)

/-- Σ v_i d_i W_i over a section list, the distance of the entry before given (R137, R138). -/
def panelSum : Option Nat → List VerticalResult → Nat
  | _, [] => 0
  | before, [r] => r.velocity.getD 0 * r.depth.getD 0 * (r.distance - before.getD r.distance)
  | before, r :: q :: l =>
    r.velocity.getD 0 * r.depth.getD 0 * (q.distance - before.getD r.distance) + panelSum (some r.distance) (q :: l)

/-- Q_meas before it is held at Q_MAX (R138). -/
def rawDischarge (l : List VerticalResult) : Nat := (panelSum none l + 1000000) / 2000000

/-- The run's mid-time (R136). -/
def midTime (start finish : Nat) : Nat := if start ≤ finish then start + (finish - start + 1) / 2 else finish

/-- Whether the station duration is below 0 or differs from the elapsed duration by more than 1 s (R136). -/
def timeChanged (start finish startElapsed finishElapsed : Nat) : Bool :=
  decide (finish < start) ||
    decide (1 < (((finish : Int) - start) - ((finishElapsed : Int) - startElapsed)).natAbs)

/-- The observations used for the mean gauge height: those with a stage, from the run start to the latest vertical
completion (R139). -/
def heightWindow (series : List Observation) (start : Nat) : Option Nat → List Observation
  | none => []
  | some last => series.filter (fun o => decide (start ≤ o.time) && decide (o.time ≤ last) && o.stage.isSome)

/-- The mean gauge height of the observations used (R139). -/
def meanHeight (l : List Observation) : Option Int :=
  if l.isEmpty then none else some (halfAway (l.foldl (fun n o => n + o.stage.getD 0) 0) l.length)

/-- Whether observations of the window have left the stage series (R140). -/
def seriesShort (series : List Observation) : Option Nat → Bool
  | none => false
  | some n =>
    (match series.getLast? with
      | none => false
      | some o => decide (o.number ≠ n))
      && !series.any (fun o => o.number = (n + 1) % (max32 + 1))

/-- The percent difference in tenths, before it is held at +1,000,000 (R142). -/
def rawPercent (qMeas qRated : Option Nat) : Option Int :=
  match qMeas, qRated with
  | some m, some r => if 0 < r then some (halfAway (((m : Int) - r) * 1000) r) else none
  | _, _ => none

/-- The candidate shift before its clamp (R143). -/
def rawCandidate (version : Option RatingVersion) (qMeas : Option Nat) (height : Option Int) : Option Int :=
  match version, qMeas, height with
  | some v, some q, some h => (inverse v.points q).map (fun he => he - h)
  | _, _, _ => none

/-- The next gauging id: 65,535 is followed by 1 (R144). -/
def nextGaugingId (n : Nat) : Nat := if n < max16 then n + 1 else 1

/-- The record formed at a run end, every part of it computed at this moment (R135, R136 to R145). -/
def State.formRecord (s : State) (rr : RunRecord) (cause : EndCause) : GaugingRecord :=
  let finish := s.clock.time
  let complete := decide (cause = .complete)
  let results := if complete then fullResults rr.results 0 rr.plan.verticals else rr.results
  let mid := midTime rr.startTime finish
  let used := heightWindow s.lau.series rr.startTime rr.lastCompletion
  let height := meanHeight used
  let raw := rawDischarge (sectionList results)
  let qMeas := if complete then some (min qMax raw) else none
  let rated : Rated :=
    match height with
    | some h => s.rating.rate h mid
    | none => { discharge := none, flags := DischargeFlags.none, ratingId := none, shift := none }
  let percent := rawPercent qMeas rated.discharge
  let candidate := rawCandidate (inForce s.rating.versions mid) qMeas height
  { id := s.gauging.nextId
    holdPort := rr.holdPort
    startTime := rr.startTime
    endTime := finish
    midTime := mid
    cause := cause
    elevation := s.rating.elevation
    a := rr.plan.a
    b := rr.plan.b
    results := results
    qMeas := qMeas
    height := height
    qRated := rated.discharge
    ratedFlags := rated.flags
    ratingId := rated.ratingId
    shift := rated.shift
    percent := percent.map (fun v => min v 1000000)
    candidate := candidate.map (clamp (-1000) 1000)
    disposition := if candidate.isSome then .pending else .none
    flags :=
      { incompleteSection := !complete
        skippedVerticals := complete && results.any (·.flags.skipped)
        qSaturated := complete && decide (qMax < raw)
        manualHeight := used.any (fun o => o.source = some .manual)
        seriesShort := seriesShort s.lau.series rr.startObs
        timeChanged := timeChanged rr.startTime finish rr.startElapsed (s.elapsed / 100)
        pctClamped := (percent.map (fun v => decide (1000000 < v))).getD false
        shiftClamped := (candidate.map (fun v => decide (v < -1000 ∨ 1000 < v))).getD false
        notArchived := false } }

/-- A run end as the gauging unit takes it (R135, R146): the open exposure and the kept counts are discarded, the record
is formed, COMPUTING begins, and the record is handed to the archive. -/
def State.gaugeEnd (s : State) (cause : EndCause) : State :=
  match s.gauging.run with
  | none => s
  | some rr =>
    let g := s.formRecord rr cause
    let s1 : State :=
      { s with
        gauging :=
          { s.gauging with
            run := none, exposure := none, kept := [], result := .computing, computing := some g
            nextId := nextGaugingId s.gauging.nextId } }
    s1.withWake (s1.wake.hand (.gauging g) g.endTime .gauging)

/-! ### The shift table (R59 to R66) -/

/-- The number of shift entries (R59). -/
abbrev shiftCapacity : Nat := 16

/-- An entry placed in order of time among entries of other times (R62). -/
def placeShift (e : ShiftEntry) : List ShiftEntry → List ShiftEntry
  | [] => [e]
  | a :: l => if e.time < a.time then e :: a :: l else a :: placeShift e l

/-- The table after an insertion, the entry replaced, and the entry removed (R62). -/
def insertShift (l : List ShiftEntry) (e : ShiftEntry) : List ShiftEntry × Option ShiftEntry × Option ShiftEntry :=
  match l.find? (fun a => a.time = e.time) with
  | some old => (l.map (fun a => if a.time = e.time then e else a), some old, none)
  | none =>
    if l.length < shiftCapacity then (placeShift e l, none, none)
    else (placeShift e (l.drop 1), none, l.head?)

/-- A change of the shift table: the write-through of the whole item and the SHIFT record, with the answer to the port
deferred until both are done (R65, R66). -/
def State.shiftChange (s : State) (p : Port) (table : List ShiftEntry) (b : ShiftBody) : State :=
  let s1 : State := { s with rating := { s.rating with shifts := table } }
  let s2 := (s1.defer p true true true (.shiftCount table.length b.removed)).write p (.shifts table)
  s2.hand (.shift b) (s2.ownerOf p)

/-- An entry is inserted into the shift table (R62, R65). -/
def State.insertShift (s : State) (p : Port) (event : ShiftEvent) (e : ShiftEntry) : State :=
  let r := Machine.insertShift s.rating.shifts e
  s.shiftChange p r.1
    { event := event, port := p, entry := e, replaced := r.2.1, removed := r.2.2, countAfter := r.1.length }

/-- SET_SHIFT (R61). -/
def State.setShift (s : State) (p : Port) (f : Option ShiftFields) : State :=
  match f with
  | none => s.reply p .badRequest
  | some f =>
    if f.shift < -1000 || decide (1000 < f.shift) then s.reply p .range
    else s.insertShift p .set { time := f.time, shift := f.shift, origin := .manual }

/-- DELETE_SHIFT (R63). -/
def State.deleteShift (s : State) (p : Port) (time : Nat) : State :=
  match s.rating.shifts.find? (fun a => a.time = time) with
  | none => s.reply p .notFound
  | some e =>
    let table := s.rating.shifts.filter (fun a => a.time ≠ time)
    s.shiftChange p table
      { event := .deleted, port := p, entry := e, replaced := none, removed := none, countAfter := table.length }

/-! ### The gauging list (R152 to R155) -/

/-- READ_GAUGING: answered at once, or deferred while the result state is COMPUTING (R152, R153). -/
def State.readGauging (s : State) (p : Port) (id : Nat) : State :=
  if s.gauging.result = .computing then
    { s with ports := s.ports.await p (fun o => { o with waitGauging := some id }) }
  else s.answer p (s.gauging.readAnswer id).1 (s.gauging.readAnswer id).2

/-- The gauging list with the disposition of one record replaced. -/
def setDisposition (l : List GaugingEntry) (id : Nat) (d : Disposition) : List GaugingEntry :=
  l.map (fun e => if e.record.id = id then { e with record := { e.record with disposition := d } } else e)

/-- The two checks of R154: the entry of the list, or the refusal. -/
def Gauging.forDisposition (g : Gauging) (id : Nat) : Except Result GaugingEntry :=
  match (if id = 0 then none else g.find id) with
  | none => .error .notFound
  | some e => if e.record.disposition = .pending then .ok e else .error .wrongState

/-- ACCEPT_SHIFT (R154, R64). -/
def State.acceptShift (s : State) (p : Port) (id : Nat) : State :=
  match s.gauging.forDisposition id with
  | .error r => s.reply p r
  | .ok e =>
    let s1 : State := { s with gauging := { s.gauging with list := setDisposition s.gauging.list id .accepted } }
    s1.insertShift p .accepted
      { time := e.record.midTime, shift := e.record.candidate.getD 0, origin := .gauging e.record.id }

/-- REJECT_SHIFT (R155). -/
def State.rejectShift (s : State) (p : Port) (id : Nat) : State :=
  match s.gauging.forDisposition id with
  | .error r => s.reply p r
  | .ok _ =>
    ({ s with gauging := { s.gauging with list := setDisposition s.gauging.list id .rejected } } : State).reply p .ok

end Sys2Proof.Machine
end

