-- ==== Sys2Proof/Machine/Cableway.lean ====
section
/-! DEFINITION. The cableway controller (06_the_cableway.md): motions, a run's steps, its end, retrieval, faults, the
bar, and the cableway requests and events. -/

namespace Sys2Proof.Machine

/-! ### Motions (R105) -/

/-- Whether a motion target is reached: ±50 mm for the carriage, ±10 mm for the reel. -/
def reached (x : Encoders) : Target → Bool
  | .carriage p => decide ((x.carriage - p).natAbs ≤ 50)
  | .reel d => decide ((x.reel - d).natAbs ≤ 10)

/-- Whether the weight is stowed: the reel depth is within ±10 mm of 0. -/
def stowed (x : Encoders) : Bool := reached x (.reel 0)

/-- The motion output that moves toward a target. -/
def driveFor (x : Encoders) : Target → Drive
  | .carriage p => if x.carriage < p then .traverseOut else .traverseIn
  | .reel d => if x.reel < d then .reelDown else .reelUp

/-- The measuring and moving states (R107). -/
def RunState.measuring : RunState → Bool
  | .traversing | .sounding | .positioning | .counting | .raising => true
  | .idle | .claimed | .paused | .faulted | .retrieving | .stuck => false

/-- The cableway with all drives off, no target and no motion timer. -/
def Cableway.halt (c : Cableway) : Cableway := { c with drive := .off, target := none, motionTimer := none }

/-- The cableway in a motion state, driving, with its motion timer started at an elapsed value. -/
def Cableway.move (c : Cableway) (st : RunState) (t : Option Target) (d : Drive) (seconds now : Nat) : Cableway :=
  { c with state := st, target := t, drive := d, motionTimer := some (after now seconds) }

/-- The state with another cableway. -/
def State.withCable (s : State) (c : Cableway) : State := { s with cable := c }

/-- The state with its run replaced. -/
def State.withRun (s : State) (r : Run) : State := s.withCable { s.cable with run := some r }

/-! ### The plan of a run (R113, R115, R117) -/

/-- A vertical of the loaded plan, by its place counted from 0. -/
def Cableway.vertical (c : Cableway) (i : Nat) : PlanVertical :=
  ((c.plan.bind (fun p => p.verticals[i]?))).getD { distance := 0, kind := .edge 0 }

/-- The first measured vertical at or after a place in a list, the list's head at place `i` (R115). -/
def measuredFrom : Nat → List PlanVertical → Nat → Option Nat
  | _, [], _ => none
  | i, v :: l, k => if k ≤ i && v.kind.isMeasured then some i else measuredFrom (i + 1) l k

/-- The first measured vertical of the loaded plan at or after a place. -/
def Cableway.nextMeasured (c : Cableway) (k : Nat) : Option Nat := (c.plan.map (fun p => measuredFrom 0 p.verticals k)).join

/-- A run at a vertical of which nothing is recorded yet. -/
def Run.at (r : Run) (vertical : Nat) : Run :=
  { r with
    vertical := vertical, sample := 0, zs := none, zb := none, sounded := .searching, points := []
    methodChanged := false, depthLimited := false, homing := false }

/-- The sample points of a measured depth as depths below the surface, METHOD_CHANGED and DEPTH_LIMITED (R117). -/
def samplePoints (k : VerticalKind) (minimum offset d : Nat) : List Nat × Bool × Bool :=
  let planned := match k with | .twoPoint _ => true | .edge _ | .onePoint _ => false
  let raw := if planned && decide (minimum ≤ d) then [(2 * d + 5) / 10, (8 * d + 5) / 10] else [(6 * d + 5) / 10]
  let limit := d - offset
  (raw.map (fun x => min x limit), planned && decide (d < minimum), raw.any (fun x => decide (limit < x)))

/-! ### The end of a run and retrieval (R119, R126, R127, R128) -/

/-- The end of a retrieval: CLAIMED with a holder, IDLE without a plan otherwise (R126). -/
def Cableway.retrievalEnd (c : Cableway) : Cableway :=
  match c.holder with
  | some _ => { c.halt with state := .claimed }
  | none => { c.halt with state := .idle, plan := none }

/-- The second leg of a retrieval: the carriage toward position 0 (R126). -/
def Cableway.retrieveCarriage (c : Cableway) (now : Nat) : Cableway :=
  if reached c.lines (.carriage 0) then c.retrievalEnd
  else c.move .retrieving (some (.carriage 0)) (driveFor c.lines (.carriage 0)) c.settings.traverseTimeout now

/-- Retrieval begins with the reel, when the weight is not stowed (R126). -/
def Cableway.retrieve (c : Cableway) (now : Nat) : Cableway :=
  if stowed c.lines then c.retrieveCarriage now
  else c.move .retrieving (some (.reel 0)) .reelUp c.settings.reelTimeout now

/-- Retrieval begins on the state. -/
def State.retrieve (s : State) : State := s.withCable (s.cable.retrieve s.elapsed)

/-- The CABLEWAY event that reports a run's end; a completed run gives no notice (R128). -/
def endEvent : EndCause → Option CablewayEvent
  | .complete => none
  | .overload | .motionTimeout => some .faulted
  | .aborted | .released | .takenOver | .floodLimit | .pauseLimit => some .runEnded

/-- A CABLEWAY notice (R128; the vertical is counted from 1, log entry 24). -/
def State.cablewayNotice (s : State) (event : CablewayEvent) (cause : EndCause) (vertical : Option Nat) : State :=
  s.notice (.cableway event cause s.cable.latestHold vertical s.cable.lines)

/-- A run ends with its first cause: its timers stop, the dead-man window closes, the notice is handed, and the gauging
unit is handed the end (R119, R128, R135). That a run which ends in PAUSED without RESUME leaves no remembered state is the model's
choice (R107, R121; log entry 35). -/
def State.endRun (s : State) (cause : EndCause) : State :=
  match s.cable.run with
  | none => s
  | some run =>
    let s1 := s.withCable
      { s.cable.halt with
        run := none, endCause := some cause, remembered := none, window := none, exposureTimer := none, pauseTimer := none }
    let s2 :=
      match endEvent cause with
      | none => s1
      | some e => s1.cablewayNotice e cause (some (run.vertical + 1))
    s2.gaugeEnd cause

/-- A run ends with a cause and retrieval begins. -/
def State.endAndRetrieve (s : State) (cause : EndCause) : State := (s.endRun cause).retrieve

/-- An overload or motion timeout ends the run in FAULTED (R125). -/
def State.fault (s : State) (cause : EndCause) : State :=
  let s1 := s.endRun cause
  s1.withCable { s1.cable with state := .faulted }

/-- An overload or motion timeout in RETRIEVING (R127). -/
def State.stuck (s : State) (cause : EndCause) : State :=
  (s.withCable
    { s.cable.halt with state := .stuck, holder := none, plan := none, available := false }).cablewayNotice .stuck cause none

/-! ### The steps of a run (R115 to R118) -/

/-- The weight is lowered, or goes on being lowered (R116, R122). -/
def State.lower (s : State) : State :=
  s.withCable (s.cable.move .sounding none .reelDown s.cable.settings.reelTimeout s.elapsed)

/-- SOUNDING begins: nothing of the vertical is recorded (R116). -/
def State.enterSounding (s : State) (r : Run) : State := (s.withRun (r.at r.vertical)).lower

/-- TRAVERSING toward the present vertical; a target already reached is reached at once (R115, R105). -/
def State.enterTraversing (s : State) (r : Run) : State :=
  let t := Target.carriage (s.cable.vertical r.vertical).distance
  if reached s.cable.lines t then s.enterSounding r
  else
    (s.withRun r).withCable
      ({ s.cable with run := some r }.move .traversing (some t) (driveFor s.cable.lines t) s.cable.settings.traverseTimeout
        s.elapsed)

/-- The completion of a vertical: the gauging unit takes its result, and the run goes on to the next measured vertical
or completes (R115, R134). -/
def State.completeVertical (s : State) (r : Run) : State :=
  let s1 : State := { s with gauging := s.gauging.complete r s.clock.time }
  match s.cable.nextMeasured (r.vertical + 1) with
  | some k => s1.enterTraversing (r.at k)
  | none => s1.endAndRetrieve .complete

/-- The arrival at the stowed point in RAISING (R115). -/
def State.stowedArrival (s : State) (r : Run) : State :=
  if r.homing then s.enterTraversing { r with homing := false } else s.completeVertical r

/-- RAISING toward the stowed point (R115). -/
def State.enterRaising (s : State) (r : Run) : State :=
  if stowed s.cable.lines then s.stowedArrival r
  else
    s.withCable
      ({ s.cable with run := some r }.move .raising (some (.reel 0)) (driveFor s.cable.lines (.reel 0))
        s.cable.settings.reelTimeout s.elapsed)

/-- COUNTING begins: the drives are off, the exposure timer starts and an exposure opens from zero (R118, R132). -/
def State.enterCounting (s : State) (r : Run) : State :=
  { s with
    cable :=
      { s.cable.halt with
        run := some r, state := .counting
        exposureTimer := some (after s.elapsed (s.cable.vertical r.vertical).kind.exposure) }
    gauging := { s.gauging with exposure := some { n := 0, saturated := false } } }

/-- POSITIONING toward the present sample point (R118); its reel target is z_s + x (R117). -/
def State.enterPositioning (s : State) (r : Run) : State :=
  let t := Target.reel (r.zs.getD 0 + ((r.points[r.sample]?).getD 0 : Nat))
  if reached s.cable.lines t then s.enterCounting r
  else
    s.withCable
      ({ s.cable with run := some r }.move .positioning (some t) (driveFor s.cable.lines t) s.cable.settings.reelTimeout
        s.elapsed)

/-! ### The bar and the flood abort (R91, R108, R123) -/

/-- The barring level of a hold kind (R91). -/
def barringLevel : HoldKind → Level
  | .unattended => .warn
  | .attended => .alarm

/-- Whether a level bars a hold of a kind. -/
def levelBars (k : HoldKind) (l : Level) : Bool := decide (levelRank (barringLevel k) ≤ levelRank l)

/-- The stage limit of a hold kind (R108). -/
def stageLimit (c : CablewaySettings) : HoldKind → Int
  | .unattended => c.unattendedLimit
  | .attended => c.attendedLimit

/-- The kind of a hold (R107). -/
def holdKind : Port → HoldKind
  | .F => .attended
  | .L | .T => .unattended

/-- The newest stage of a series: the stage of the newest observation that carries one (R108). -/
def newestStage (series : List Observation) : Option Int := (series.filterMap (·.stage)).getLast?

/-- The bar test (R108). -/
def State.barred (s : State) (k : HoldKind) : Bool :=
  levelBars k s.warning.level ||
    (match newestStage s.lau.series with
      | none => true
      | some h => decide (stageLimit s.cable.settings k < h))

/-- A flood abort (R123): it ends a run in progress, and changes nothing without one. -/
def State.floodAbort (s : State) : State := if s.cable.run.isSome then s.endAndRetrieve .floodLimit else s

/-- A level change as the cableway controller takes it (R123). -/
def State.floodOnLevel (s : State) : State :=
  match s.cable.run with
  | none => s
  | some r => if levelBars r.kind s.warning.level then s.floodAbort else s

/-- The append of an observation as the cableway controller takes it (R123). -/
def State.floodOnAppend (s : State) (o : Observation) : State :=
  match s.cable.run with
  | none => s
  | some r =>
    let above := match o.stage with | none => false | some h => decide (stageLimit s.cable.settings r.kind < h)
    if above || levelBars r.kind s.warning.level then s.floodAbort else s

/-! ### Requests -/

/-- Whether a value lies in a range. -/
def within (lo hi v : Nat) : Bool := decide (lo ≤ v) && decide (v ≤ hi)

/-- The ranges of the cableway settings, and the order of the two stage limits (R103). -/
def cablewayValid (c : CablewaySettings) : Bool :=
  (decide (c.span = 0) || within 10000 600000 c.span) && stageOk c.attendedLimit && stageOk c.unattendedLimit
    && decide (c.unattendedLimit ≤ c.attendedLimit) && within 50 500 c.weightOffset && within 300 2000 c.twoPointMinimum
    && within 3 15 c.deadMan && within 60 900 c.pauseLimit && within 60 1800 c.traverseTimeout
    && within 30 600 c.reelTimeout

/-- SET_CABLEWAY (R104, R106). -/
def State.setCableway (s : State) (p : Port) (c : CablewaySettings) : State :=
  if s.cable.state ≠ .idle then s.reply p .wrongState
  else if !cablewayValid c then s.reply p .range
  else
    (s.withCable { s.cable with settings := c, available := decide (0 < c.span) }).writeThrough p (.cableway c)

/-- CLAIM_CABLEWAY (R109). -/
def State.claimCableway (s : State) (p : Port) : State :=
  if s.cable.holder = some p then s.reply p .ok
  else if s.cable.holder.isSome then s.reply p .claimedElsewhere
  else if s.cable.state = .retrieving then s.reply p .wrongState
  else if s.cable.state = .stuck || !s.cable.available then s.reply p .unavailable
  else if s.barred (holdKind p) then s.reply p .barred
  else (s.withCable { s.cable with holder := some p, state := .claimed, plan := none }).reply p .ok

/-- FORCE_CLAIM from Port F (R110). -/
def State.forceClaim (s : State) (p : Port) : State :=
  match s.cable.holder with
  | some .L =>
    let s1 := s.withCable { s.cable with holder := some p, plan := none }
    (if s1.cable.run.isSome then s1.endAndRetrieve .takenOver else s1).reply p .ok
  | some _ => s.reply p .ok
  | none => s.reply p .wrongState

/-- A request of the holder: any other port is answered NOT_HOLDER before every other check (R112). -/
def State.fromHolder (s : State) (p : Port) (f : State → State) : State :=
  if s.cable.holder = some p then f s else s.reply p .notHolder

/-- RELEASE_CABLEWAY by run state (R111). -/
def State.dropClaim (s : State) : State :=
  let c : Cableway := { s.cable with holder := none }
  if s.cable.state = .claimed then s.withCable { c with plan := none, state := .idle }
  else if s.cable.run.isSome then (s.withCable c).endAndRetrieve .released
  else if s.cable.state = .faulted then (s.withCable c).retrieve
  else s.withCable c

/-- RELEASE_CABLEWAY (R111). -/
def State.releaseCableway (s : State) (p : Port) : State := s.fromHolder p (fun s => s.dropClaim.reply p .ok)

/-- A vertical of a plan within its ranges, without what is carried for the other method (R113). -/
def checkVertical (v : VerticalFields) (span : Nat) : Option PlanVertical :=
  if span < v.distance then none
  else
    match v.method with
    | none => none
    | some .edge => if v.edgeDepth ≤ 25000 then some { distance := v.distance, kind := .edge v.edgeDepth } else none
    | some .onePoint =>
      if within 20 120 v.exposure then some { distance := v.distance, kind := .onePoint v.exposure } else none
    | some .twoPoint =>
      if within 20 120 v.exposure then some { distance := v.distance, kind := .twoPoint v.exposure } else none

/-- The verticals of a plan, when every one is within its ranges. -/
def checkVerticals (span : Nat) : List VerticalFields → Option (List PlanVertical)
  | [] => some []
  | v :: l =>
    match checkVertical v span, checkVerticals span l with
    | some a, some m => some (a :: m)
    | _, _ => none

/-- Whether distances strictly increase. -/
def increasing : List PlanVertical → Bool
  | [] => true
  | [_] => true
  | a :: b :: l => decide (a.distance < b.distance) && increasing (b :: l)

/-- Whether an optional vertical is an EDGE. -/
def isEdge : Option PlanVertical → Bool
  | some v => !v.kind.isMeasured
  | none => false

/-- The plan that LOAD_PLAN carries, when check 3 of R113 passes. -/
def checkPlan (f : PlanFields) (span : Nat) : Option Plan :=
  match checkVerticals span f.verticals with
  | none => none
  | some l =>
    if within 1 20000 f.a && decide (f.b ≤ 100) && within 3 40 l.length && increasing l && isEdge l.head? &&
        isEdge l.getLast? && l.any (fun v => v.kind.isMeasured) then
      some { a := f.a, b := f.b, verticals := l }
    else none

/-- LOAD_PLAN from the holder, by the checks of R113 in order. -/
def State.takePlan (s : State) (p : Port) (f : Option PlanFields) : State :=
  if s.cable.state ≠ .claimed then s.reply p .wrongState
  else
    match f with
    | none => s.reply p .badRequest
    | some f =>
      if f.verticals.any (fun v => v.method.isNone) then s.reply p .badRequest
      else
        match checkPlan f s.cable.settings.span with
        | none => s.reply p .range
        | some plan => (s.withCable { s.cable with plan := some plan }).reply p .ok

/-- LOAD_PLAN (R112, R113). -/
def State.loadPlan (s : State) (p : Port) (f : Option PlanFields) : State := s.fromHolder p (fun s => s.takePlan p f)

/-- The dead-man reference instant of this moment, in tenths (R120, log entry 26). -/
def State.tenths (s : State) : Nat := s.elapsed / 10

/-- A run begins with a plan from its first measured vertical (R114, R120, R131). -/
def State.beginRun (s : State) (p : Port) (plan : Plan) (k : Nat) : State :=
  let r : Run :=
    { kind := holdKind p, startTime := s.clock.time, vertical := k, sample := 0, zs := none, zb := none
      sounded := .searching, points := [], methodChanged := false, depthLimited := false, homing := false }
  let s1 : State :=
    { s with
      cable :=
        { s.cable with
          run := some r, endCause := none, latestHold := some p
          window := if holdKind p = .attended then some s.tenths else none }
      gauging :=
        { s.gauging with
          run := some
            { holdPort := p, startTime := s.clock.time, startElapsed := s.elapsed / 100
              startObs := s.lau.series.getLast?.map (·.number), plan := plan, results := [], lastCompletion := none }
          exposure := none, kept := [] } }
  if stowed s.cable.lines then s1.enterTraversing r else s1.enterRaising { r with homing := true }

/-- START_RUN from the holder, by the checks of R114 in order. -/
def State.takeStart (s : State) (p : Port) : State :=
  if s.cable.state ≠ .claimed then s.reply p .wrongState
  else
    match s.cable.plan, s.cable.nextMeasured 0 with
    | some plan, some k =>
      if s.gauging.result = .computing then s.reply p .resultPending
      else if s.barred (holdKind p) then s.reply p .barred
      else (s.beginRun p plan k).reply p .ok
    | _, _ => s.reply p .wrongState

/-- START_RUN (R112, R114). -/
def State.startRun (s : State) (p : Port) : State := s.fromHolder p (fun s => s.takeStart p)

/-- HOLD_ALIVE (R120). -/
def State.holdAlive (s : State) (p : Port) : State :=
  s.fromHolder p (fun s =>
    match s.cable.window with
    | none => s.reply p .wrongState
    | some ref =>
      if s.tenths < ref + 10 then s.reply p .tooEarly
      else (s.withCable { s.cable with window := some s.tenths }).reply p .ok)

/-- The remembered state is taken up again (R122). -/
def State.takeUp (s : State) (m : RunState) (r : Run) : State :=
  match m with
  | .traversing => s.enterTraversing r
  | .sounding => s.lower
  | .positioning => s.enterPositioning r
  | .counting => s.enterCounting r
  | .raising => s.enterRaising r
  | .idle | .claimed | .paused | .faulted | .retrieving | .stuck => s

/-- RESUME (R112, R122). -/
def State.resumeRun (s : State) (p : Port) : State :=
  s.fromHolder p (fun s =>
    match s.cable.state, s.cable.remembered, s.cable.run with
    | .paused, some m, some r =>
      let s1 := s.withCable { s.cable with pauseTimer := none, remembered := none, window := some s.tenths }
      (s1.takeUp m.state r).reply p .ok
    | _, _, _ => s.reply p .wrongState)

/-- ABORT_RUN (R112, R124). -/
def State.abortRun (s : State) (p : Port) : State :=
  s.fromHolder p (fun s =>
    if s.cable.run.isSome then (s.endAndRetrieve .aborted).reply p .ok
    else if s.cable.state = .faulted then s.retrieve.reply p .ok
    else s.reply p .wrongState)

/-- CLEAR_FAULT (R127, R106). -/
def State.clearFault (s : State) (p : Port) : State :=
  if s.cable.state = .stuck then
    (s.withCable { s.cable with state := .idle, available := decide (0 < s.cable.settings.span) }).reply p .ok
  else s.reply p .wrongState

/-! ### Events -/

/-- TRAVERSE_ARRIVAL: the carriage is within 50 mm of its target (R105, R115, R126). -/
def State.traverseArrival (s : State) : State :=
  match s.cable.state, s.cable.target, s.cable.run with
  | .traversing, some (.carriage t), some r => if reached s.cable.lines (.carriage t) then s.enterSounding r else s
  | .retrieving, some (.carriage t), _ =>
    if reached s.cable.lines (.carriage t) then s.withCable s.cable.retrievalEnd else s
  | _, _, _ => s

/-- REEL_ARRIVAL: the reel is within 10 mm of its target (R105, R115, R118, R126). -/
def State.reelArrival (s : State) : State :=
  match s.cable.state, s.cable.target, s.cable.run with
  | .positioning, some (.reel t), some r => if reached s.cable.lines (.reel t) then s.enterCounting r else s
  | .raising, some (.reel t), some r => if reached s.cable.lines (.reel t) then s.stowedArrival r else s
  | .retrieving, some (.reel t), _ =>
    if reached s.cable.lines (.reel t) then s.withCable (s.cable.retrieveCarriage s.elapsed) else s
  | _, _, _ => s

/-- SURFACE_CONTACT (R116). -/
def State.surfaceContact (s : State) : State :=
  match s.cable.state, s.cable.run with
  | .sounding, some r => if r.zs.isNone then s.withRun { r with zs := some s.cable.lines.reel } else s
  | _, _ => s

/-- The depth between the reel depths of the surface and of the bed (R116); a free value where the bed lies above the surface
(log entry 25). -/
def depthBetween (zs zb : Int) : Nat := if zs ≤ zb then (zb - zs).toNat else Config.depthAboveSurface zs zb

/-- BOTTOM_CONTACT (R116, R117). -/
def State.bottomContact (s : State) : State :=
  match s.cable.state, s.cable.run with
  | .sounding, some r =>
    match r.zs with
    | none => s.enterRaising { r with sounded := .dry }
    | some zs =>
      let d := depthBetween zs s.cable.lines.reel
      let x := samplePoints (s.cable.vertical r.vertical).kind s.cable.settings.twoPointMinimum
        s.cable.settings.weightOffset d
      s.enterPositioning
        { r with
          zb := some s.cable.lines.reel, sounded := .measured d, sample := 0, points := x.1, methodChanged := x.2.1
          depthLimited := x.2.2 }
  | _, _ => s

/-- REEL_DEPTH_REACHES_25000 (R116). -/
def State.reelLimit (s : State) : State :=
  match s.cable.state, s.cable.run with
  | .sounding, some r => if 25000 ≤ s.cable.lines.reel then s.enterRaising { r with sounded := .skipped } else s
  | _, _ => s

/-- METER_PULSE: handed to the gauging unit in COUNTING (R118, R132). -/
def State.meterPulse (s : State) : State :=
  if s.cable.state = .counting then
    { s with gauging := { s.gauging with exposure := s.gauging.exposure.map PulseCount.pulse } }
  else s

/-- EXPOSURE_TIMER_EXPIRY (R118, R132). -/
def State.exposureExpiry (s : State) : State :=
  match s.cable.state, s.cable.exposureTimer, s.cable.run with
  | .counting, some t, some r =>
    let s1 : State :=
      { s with
        elapsed := max s.elapsed t
        cable := { s.cable with exposureTimer := none }
        gauging := { s.gauging with kept := s.gauging.kept ++ s.gauging.exposure.toList, exposure := none } }
    if r.sample + 1 < r.points.length then s1.enterPositioning { r with sample := r.sample + 1 } else s1.enterRaising r
  | _, _, _ => s

/-- MOTION_TIMER_EXPIRY (R125, R126, R127). -/
def State.motionExpiry (s : State) : State :=
  match s.cable.motionTimer with
  | none => s
  | some t =>
    let s1 := s.advanceTo t
    if s.cable.state.measuring then s1.fault .motionTimeout
    else if s.cable.state = .retrieving then s1.stuck .motionTimeout
    else s

/-- OVERLOAD (R125, R126, R127). -/
def State.overloaded (s : State) : State :=
  if s.cable.state.measuring || s.cable.state = .paused then s.fault .overload
  else if s.cable.state = .retrieving then s.stuck .overload
  else s

/-- DEAD_MAN_WINDOW_EXPIRY (R120, R121). -/
def State.windowExpiry (s : State) : State :=
  match s.cable.window with
  | none => s
  | some ref =>
    if s.cable.state.measuring then
      let s1 := s.advanceTo (10 * (ref + 10 * s.cable.settings.deadMan))
      { s1 with
        cable :=
          { s1.cable.halt with
            state := .paused, remembered := some { state := s.cable.state, target := s.cable.target }
            window := none, exposureTimer := none
            pauseTimer := some (after s1.elapsed s.cable.settings.pauseLimit) }
        gauging := { s.gauging with exposure := none } }
    else s

/-- PAUSE_TIMER_EXPIRY (R122). -/
def State.pauseExpiry (s : State) : State :=
  match s.cable.state, s.cable.pauseTimer with
  | .paused, some t => (s.advanceTo t).endAndRetrieve .pauseLimit
  | _, _ => s

end Sys2Proof.Machine
end

