-- ==== Sys2Proof/Machine/Warning.lean ====
section
/-! DEFINITION. The warning unit (05_flood_warning.md): evaluation, level changes, acknowledgement, the telemetry link,
the relay, and the warning timers. SET_THRESHOLD, which reaches the schedule as well, stands in Schedule.lean. -/

namespace Sys2Proof.Machine

/-! ### Evaluating an observation (R83, R84, R85) -/

/-- The value of a quantity that an observation carries (R83). -/
def quantityValue (q : Quantity) (o : Observation) : Option Int :=
  match q with
  | .stage => o.stage
  | .rise => o.rate
  | .flow => o.discharge.map (fun v => (v : Int))

/-- The clear level of a record (R79). -/
def ThresholdSettings.clearLevel (t : ThresholdSettings) : Int := t.level - t.margin

/-- A run of values that met the condition of a change goes on: the P-th changes the state and clears the count (R84). -/
def ThresholdLive.count1 (l : ThresholdLive) (p : Nat) : ThresholdLive :=
  if l.count + 1 = p then { active := !l.active, count := 0 } else { l with count := l.count + 1 }

/-- The evaluation of one record for a present value (R84). -/
def ThresholdLive.step (l : ThresholdLive) (t : ThresholdSettings) (v : Int) : ThresholdLive :=
  if l.active then (if v ≤ t.clearLevel then l.count1 t.persistence else { l with count := 0 })
  else if t.level < v then l.count1 t.persistence
  else { l with count := 0 }

/-- The evaluation of one record for an observation: a disabled record and an absent value leave it as it is (R82, R83). -/
def evaluateRecord (o : Observation) (t : ThresholdSettings) (l : ThresholdLive) : ThresholdLive :=
  if t.enabled then
    match quantityValue t.quantity o with
    | none => l
    | some v => l.step t v
  else l

/-- The level that the records give: the highest severity among the ACTIVE ones (R85). -/
def Warning.formed (w : Warning) : Level :=
  (Eight.zip (fun (t : ThresholdSettings) (l : ThresholdLive) => if l.active then severityLevel t.severity else .clear)
    w.settings w.live).toList.foldl levelHigher .clear

/-! ### Records of the unit (R90) -/

/-- A LEVEL record's body: the event, and the state as it stands (R90). -/
def Warning.body (w : Warning) (event : LevelEvent) : LevelBody :=
  { event := event, level := w.level, active := w.live.map (·.active), owed := w.owed, firstTime := w.firstTime
    deadline := w.deadline.state, silent := w.silent, relay := w.relay }

/-- A LEVEL record of the state as it stands is handed to the archive. -/
def State.levelRecord (s : State) (event : LevelEvent) (owner : Owner) : State :=
  s.hand (.level (s.warning.body event)) owner

/-- The warning unit with its relay brought to its state. -/
def State.withWarning (s : State) (w : Warning) : State := { s with warning := w.withRelay }

/-! ### Level changes (R87, R88, R89) -/

/-- An escalation's effect on the acknowledgement (R87). -/
def Warning.escalate (w : Warning) (new : Level) (time now : Nat) : Warning :=
  if w.deadline = .stopped then
    { w with level := new, owed := true, firstTime := some time, deadline := .running (after now w.timers.deadline) }
  else { w with level := new, owed := true }

/-- Nothing owed: the deadline stopped and no first time (R88, R94). -/
def Warning.settled (w : Warning) : Warning := { w with owed := false, firstTime := none, deadline := .stopped }

/-- A de-escalation's effect on the acknowledgement (R88). -/
def Warning.deescalate (w : Warning) (new : Level) : Warning :=
  if new = .clear then { w.settled with level := new } else { w with level := new }

/-- The level becomes the level formed. A change has the effects of R87 or R88 in the order of log entry 8, but for the
interval, which the LAU takes afterwards. -/
def State.changeLevel (s : State) (new : Level) (cause : LevelCause) (owner : Owner) : State :=
  if new = s.warning.level then s
  else
    let w :=
      if levelRank s.warning.level < levelRank new then s.warning.escalate new s.clock.time s.elapsed
      else s.warning.deescalate new
    let s1 := (s.withWarning w).notice (.level new s.warning.level (levelHigher new s.warning.level))
    (s1.levelRecord (.changed s.warning.level cause) owner).floodOnLevel

/-- An appended observation is evaluated and the level formed afresh (R83, R84, R85). -/
def State.evaluate (s : State) (o : Observation) : State :=
  let w : Warning := { s.warning with live := Eight.zip (evaluateRecord o) s.warning.settings s.warning.live }
  ({ s with warning := w } : State).changeLevel w.formed (.observation o.number) .nobody

/-! ### Requests and events -/

/-- ACK_LEVEL (R93, R94). -/
def State.ackLevel (s : State) (p : Port) (level : Option Level) : State :=
  match level with
  | none => s.reply p .badRequest
  | some l =>
    if !s.warning.owed then s.reply p .notOwed
    else if levelRank l < levelRank s.warning.level then s.reply p .stale
    else
      let s1 := (s.defer p false true false .empty).withWarning s.warning.settled
      s1.levelRecord (.acknowledged p l) (s1.ownerOf p)

/-- SET_WARNING_TIMERS (R100, R101). -/
def State.setWarningTimers (s : State) (p : Port) (t : WarningTimers) : State :=
  if within 60 3600 t.deadline && within 600 86400 t.silence then
    ({ s with warning := { s.warning with timers := t } } : State).writeThrough p (.warning t)
  else s.reply p .range

/-- A valid message received on Port T restarts the silence timer, or makes a SILENT link LIVE (R97, R98). -/
def State.restartSilence (s : State) : State :=
  let expiry := some (after s.elapsed s.warning.timers.silence)
  if s.warning.silent then
    (s.withWarning { s.warning with silent := false, silenceTimer := expiry }).levelRecord .linkLive .nobody
  else { s with warning := { s.warning with silenceTimer := expiry } }

/-- DEADLINE_EXPIRY (R95). -/
def State.deadlineExpiry (s : State) : State :=
  match s.warning.deadline with
  | .running t =>
    ((s.advanceTo t).withWarning { s.warning with deadline := .expired }).levelRecord .deadlineExpired .nobody
  | .stopped | .expired => s

/-- SILENCE_TIMER_EXPIRY (R98). -/
def State.silenceExpiry (s : State) : State :=
  match s.warning.silent, s.warning.silenceTimer with
  | false, some t =>
    ((s.advanceTo t).withWarning { s.warning with silent := true, silenceTimer := none }).levelRecord .linkSilent .nobody
  | _, _ => s

end Sys2Proof.Machine
end

