-- ==== Sys2Proof/Machine/Rating.lean ====
section
/-! DEFINITION. The rating store's requests (03_datum_and_rating_versions.md): commits, deletions, the freeze and the
datum. -/

namespace Sys2Proof.Machine

/-! ### Committing a rating (R44 to R49) -/

/-- Whether neighbouring points keep the order of R44: stages strictly increase, discharges do not decrease. -/
def pointsOrdered : List RatingPoint → Bool
  | [] => true
  | [_] => true
  | a :: b :: l => decide (a.stage < b.stage) && decide (a.discharge ≤ b.discharge) && pointsOrdered (b :: l)

/-- The conditions of R44 on a point list, and its count. -/
def pointsValid (l : List RatingPoint) : Bool :=
  within 2 32 l.length && l.all (fun q => stageOk q.stage && decide (q.discharge ≤ qMax)) && pointsOrdered l

/-- Whether a held version is superseded at a station time (R47). -/
def superseded (held : List RatingVersion) (now : Nat) (v : RatingVersion) : Bool :=
  held.any (fun w => decide (v.effective < w.effective) && decide (w.effective ≤ now))

/-- The version with the earliest effective-from. -/
def oldestVersion : List RatingVersion → Option RatingVersion
  | [] => none
  | v :: l =>
    match oldestVersion l with
    | none => some v
    | some w => if v.effective ≤ w.effective then some v else some w

/-- The version that the capacity rule names for removal among the held ones (R47). -/
def namedForRemoval (held : List RatingVersion) (now : Nat) : Option RatingVersion :=
  oldestVersion (held.filter (superseded held now))

/-- The candidate id after an id (R48). -/
def idAfter (n : Nat) : Nat := if n < 255 then n + 1 else 1

/-- The first candidate that no held version carries, among `fuel` candidates and one more (R48). -/
def freeId (held : List RatingVersion) : Nat → Nat → Nat
  | 0, c => c
  | fuel + 1, c => if held.any (fun v => v.id = c) then freeId held fuel (idAfter c) else c

/-- The id of an accepted commit: at most four candidates are in use (R48). -/
def RatingStore.newId (r : RatingStore) : Nat := freeId r.versions 4 (idAfter r.lastId)

/-- The first slot whose content satisfies a test. -/
def RatingStore.findSlot (r : RatingStore) (f : Option RatingVersion → Bool) : Option (Fin 4) :=
  (r.slots.toList.find? (fun x => f x.2.version)).map (·.1)

/-- The slot of a version, by its id. -/
def RatingStore.slotOf (r : RatingStore) (id : Nat) : Option (Fin 4) :=
  r.findSlot (fun v => match v with | none => false | some w => decide (w.id = id))

/-- The lowest-numbered vacant slot (R49). -/
def RatingStore.vacantSlot (r : RatingStore) : Option (Fin 4) := r.findSlot (·.isNone)

/-- The write number that the next change of a slot takes (R53). -/
def RatingStore.nextWrite (r : RatingStore) : Nat := r.slots.toList.foldl (fun n x => max n x.2.writeNumber) 0 + 1

/-- A change of one slot with its last assigned id: the write of the slot item and the RATING record, with the answer
deferred until both are done (R53, R54). -/
def State.slotChange (s : State) (p : Port) (n : Fin 4) (version : Option RatingVersion) (lastId : Nat) (body : RatingBody)
    (payload : Payload) : State :=
  let item : SlotItem := { version := version, lastId := lastId, writeNumber := s.rating.nextWrite }
  let s1 : State := { s with rating := { s.rating with slots := s.rating.slots.set n item, lastId := lastId } }
  let s2 := (s1.defer p true true true payload).write p (.slot n item)
  s2.hand (.rating body) (s2.ownerOf p)

/-- An accepted commit into a slot (R48, R49). -/
def State.placeRating (s : State) (p : Port) (f : RatingFields) (n : Fin 4) (removed : Option RatingVersion) : State :=
  let id := s.rating.newId
  s.slotChange p n (some { id := id, effective := f.effective, points := f.points }) id
    (.committed p id f.effective f.points removed) (.committed id (removed.map (·.id)))

/-- COMMIT_RATING, by the checks of R46 in order. -/
def State.commitRating (s : State) (p : Port) (f : Option RatingFields) : State :=
  match f with
  | none => s.reply p .badRequest
  | some f =>
    if s.rating.frozen then s.reply p .frozen
    else if !pointsValid f.points then s.reply p .range
    else if s.rating.versions.any (fun v => v.effective = f.effective) then s.reply p .duplicateTime
    else
      match s.rating.vacantSlot with
      | some n => s.placeRating p f n none
      | none =>
        match namedForRemoval s.rating.versions s.clock.time with
        | none => s.reply p .ratingFull
        | some v =>
          match s.rating.slotOf v.id with
          | none => s.reply p .ratingFull
          | some n => s.placeRating p f n (some v)

/-! ### Deleting and freezing (R50, R51) -/

/-- DELETE_RATING, by the checks of R50 in order. -/
def State.deleteRating (s : State) (p : Port) (id : Nat) : State :=
  if s.rating.frozen then s.reply p .frozen
  else
    match s.rating.versions.find? (fun v => v.id = id), s.rating.slotOf id with
    | some v, some n =>
      if inForce s.rating.versions s.clock.time = some v then s.reply p .inForce
      else s.slotChange p n none s.rating.lastId (.deleted p v.id v.effective) .empty
    | _, _ => s.reply p .notFound

/-- FREEZE_RATING (R51). -/
def State.freezeRating (s : State) (p : Port) : State :=
  if s.rating.frozen then s.reply p .ok
  else
    let s1 := ({ s with rating := { s.rating with frozen := true } } : State).defer p false true false .empty
    s1.hand (.rating (.frozen p)) (s1.ownerOf p)

/-! ### The datum (R40 to R42, R55) -/

/-- The range of the gauge datum elevation (R40). -/
def elevationOk (v : Int) : Bool := decide (-9999999 ≤ v) && decide (v ≤ 9999999)

/-- WRITE_DATUM from Port F (R41, R54, R55). -/
def State.writeDatum (s : State) (p : Port) (elevation : Int) : State :=
  if s.rating.fixed then s.reply p .fixed
  else if !elevationOk elevation then s.reply p .range
  else
    let s1 : State := { s with rating := { s.rating with elevation := elevation } }
    let s2 := (s1.defer p true true true .empty).write p (.datum elevation)
    s2.hand (.datum { fixed := false, before := s.rating.elevation, after := elevation, port := p }) (s2.ownerOf p)

/-- FIX_DATUM from Port F (R42, R54, R55). -/
def State.fixDatum (s : State) (p : Port) : State :=
  if s.rating.fixed then s.reply p .fixed
  else
    let s1 : State := { s with rating := { s.rating with fixed := true } }
    let s2 := (s1.defer p true true true .empty).write p (.cell s.rating.elevation)
    s2.hand (.datum { fixed := true, before := s.rating.elevation, after := s.rating.elevation, port := p }) (s2.ownerOf p)

end Sys2Proof.Machine
end

