-- ==== Sys2Proof/Machine/Lau.lean ====
section
/-! DEFINITION. The level acquisition unit (01_stage_acquisition.md): from readings to an observation, the service hold's
entry and exit (02_station_time_and_service_hold.md), the start of an acquisition, and the schedule. -/

namespace Sys2Proof.Machine

/-! ### From readings to a channel stage (R7, R8) -/

/-- The valid readings: not a rail reading (R7). -/
def validReadings (l : List Nat) : List Nat := l.filter (fun n => decide (0 < n) && decide (n < max16))

/-- The median of a list: the middle reading, or the mean of the two middle ones rounded half up (R7). -/
def median (l : List Nat) : Nat :=
  let a := sortNat l
  let m := a.length
  if m % 2 = 1 then (a[m / 2]?).getD 0 else ((a[m / 2 - 1]?).getD 0 + (a[m / 2]?).getD 0 + 1) / 2

/-- The stage of a median with an offset and a gain, before the clamp (R8). -/
def rawStage (offset : Int) (gain median : Nat) : Int := offset + ((median * gain + 32768) / 65536 : Nat)

/-- A valid channel's stage and whether it was clamped; none for an invalid channel (R7, R8). -/
def channelResult (c : Captured) (burst : Nat) : Option (Int × Bool) :=
  let v := validReadings c.readings
  if v.length < (burst + 1) / 2 then none
  else
    let h := rawStage c.settings.offset c.settings.gain (median v)
    some (clamp stageMin stageMax h, !stageOk h)

/-- The channels' results; a channel that was not captured has none. -/
def Acquisition.results (a : Acquisition) : PerChannel (Option (Int × Bool)) :=
  a.capture.map (fun c => c.bind (fun c => channelResult c a.burst))

/-! ### Channel status (R9) -/

/-- A status after an acquisition in which the channel was valid or not, and the notice event (R9). -/
def ChannelStatus.update (c : ChannelStatus) (valid : Bool) : ChannelStatus × Option SensorEvent :=
  match c.fault, valid with
  | false, false =>
    if c.invalidRun + 1 = 2 then (⟨true, 0, 0⟩, some .channelFault) else ({ c with invalidRun := c.invalidRun + 1 }, none)
  | false, true => ({ c with invalidRun := 0 }, none)
  | true, true =>
    if c.validRun + 1 = 2 then (⟨false, 0, 0⟩, some .channelOk) else ({ c with validRun := c.validRun + 1 }, none)
  | true, false => ({ c with validRun := 0 }, none)

/-- A channel's status after an acquisition: only a channel in the capture that has stayed enabled is updated. -/
def updateStatus (status : Option ChannelStatus) (captured : Option Captured) (burst : Nat) :
    Option ChannelStatus × Option SensorEvent :=
  match status, captured with
  | some st, some c =>
    if c.stayed then
      let r := st.update (channelResult c burst).isSome
      (some r.1, r.2)
    else (some st, none)
  | _, _ => (status, none)

/-! ### Voting and DISAGREE (R10, R11) -/

/-- A valid channel of an acquisition. -/
structure Vote where
  channel : Channel
  preference : Nat
  stage : Int
  clamped : Bool
deriving DecidableEq, Repr

/-- The vote of one channel, when it was captured and valid. -/
def voteOf (captured : Option Captured) (burst : Nat) (c : Channel) : Option Vote :=
  captured.bind (fun k =>
    (channelResult k burst).map (fun r =>
      { channel := c, preference := k.settings.preference, stage := r.1, clamped := r.2 }))

/-- The valid channels in the order LA, LB, LC. -/
def Acquisition.votes (a : Acquisition) : List Vote :=
  a.capture.toList.filterMap (fun x => voteOf x.2 a.burst x.1)

/-- The source: the valid channel of the lowest preference number, the first named among equals (R10). -/
def sourceOf (l : List Vote) : Option Vote :=
  l.foldl (fun best v => match best with
    | none => some v
    | some b => if v.preference < b.preference then some v else some b) none

/-- The greatest difference between the source and any other valid channel; none when there is no other (R11, R12). -/
def greatestDifference (source : Vote) (l : List Vote) : Option Nat :=
  match l.filter (fun v => v.channel ≠ source.channel) with
  | [] => none
  | others => some (others.foldl (fun n v => max n (v.stage - source.stage).natAbs) 0)

/-- One more in a count that stops at 3. -/
def upTo3 (n : Nat) : Nat := min 3 (n + 1)

/-- The DISAGREE condition after a comparison with a greatest difference, and the notice event (R11). -/
def Disagree.update (d : Disagree) (tolerance difference : Nat) : Disagree × Option SensorEvent :=
  if tolerance < difference then
    let n := upTo3 d.disagreements
    if n = 3 && !d.isSet then (⟨true, n, 0⟩, some .disagreeSet) else (⟨d.isSet, n, 0⟩, none)
  else
    let n := upTo3 d.agreements
    if n = 3 && d.isSet then (⟨false, 0, n⟩, some .disagreeClear) else (⟨d.isSet, 0, n⟩, none)

/-! ### Rate of rise (R13) -/

/-- The reference observation: the newest with a stage whose time lies from t − 2W to t − W. -/
def referenceOf (series : List Observation) (t w : Nat) : Option Observation :=
  (series.filter (fun o => o.stage.isSome && decide ((t : Int) - 2 * w ≤ o.time) && decide ((o.time : Int) ≤ t - w))).getLast?

/-- The rate of rise of a stage at a time (R13). -/
def rateOfRise (series : List Observation) (h : Int) (t w : Nat) : Option Int :=
  match referenceOf series t w with
  | none => none
  | some o => o.stage.map (fun ref => clamp (-30000) 30000 (halfAway ((h - ref) * 3600) (t - o.time)))

/-! ### The service hold's entry and exit (R32, R34, R35, R36) -/

/-- The hold becomes HELD, with its notice and its record. -/
def State.enterHeld (s : State) (cause : HoldCause) (owner : Owner) : State :=
  let h : Hold :=
    { s.lau.hold with state := .held, timer := some (after s.elapsed s.lau.hold.limit), manual := none, count := 0 }
  let b : HoldBody := { entered := true, cause := cause, limit := some s.lau.hold.limit, count := none, last := none }
  (({ s with lau := { s.lau with hold := h } } : State).notice (.hold b)).hand (.hold b) owner

/-- The hold ends, with its notice and its record. -/
def State.leaveHeld (s : State) (cause : HoldCause) (owner : Owner) : State :=
  let h : Hold := { s.lau.hold with state := .none, timer := none, manual := none }
  let b : HoldBody :=
    { entered := false, cause := cause, limit := none, count := some s.lau.hold.count, last := s.lau.hold.manual }
  (({ s with lau := { s.lau with hold := h } } : State).notice (.hold b)).hand (.hold b) owner

/-! ### The schedule (R20, R22, R23) -/

/-- The interval of a warning level, in seconds (R3). -/
def intervalAt (a : AcqSettings) : Level → Nat
  | .clear => a.clear
  | .watch => a.watch
  | .warn => a.warn
  | .alarm => a.alarm

/-- The interval in force (R20). -/
def State.interval (s : State) : Nat := intervalAt s.lau.settings s.warning.level

/-- The due point: the last start plus the interval in force (R20). -/
def State.duePoint (s : State) : Option Nat := s.lau.lastStart.map (fun t => after t s.interval)

/-- Whether the due point is at or before the present elapsed time. -/
def State.overdue (s : State) : Bool :=
  match s.duePoint with
  | none => false
  | some t => decide (t ≤ s.elapsed)

/-- Whether the station time is that of the newest observation (R22). -/
def State.sameSecond (s : State) : Bool :=
  match s.lau.series.getLast? with
  | none => false
  | some o => decide (o.time = s.clock.time)

/-- Whether the station time is later than the newest observation's (R15). -/
def State.laterSecond (s : State) : Bool :=
  match s.lau.series.getLast? with
  | none => true
  | some o => decide (o.time < s.clock.time)

/-- The level acquisition unit with another hold, acquisition or marker. -/
def State.withLau (s : State) (l : Lau) : State := { s with lau := l }

/-- A start is owed (R21, R22). -/
def State.oweStart (s : State) : State := s.withLau { s.lau with startOwed := true }

/-! ### The observation (R14 to R18) -/

/-- What an acquisition has found: the stage with its source, the flags of the stage, and the changes that give SENSOR
notices. -/
structure Found where
  stage : Option Int
  source : Option Source
  range : Bool
  manual : Bool
  events : List (SensorEvent × Channel × Option Nat)
deriving DecidableEq, Repr

/-- The observation formed from what an acquisition has found (R15, steps 5 to 8; R16). -/
def State.observation (s : State) (f : Found) : Observation :=
  let rated : Rated :=
    match f.stage with
    | some h => s.rating.rate h s.clock.time
    | none => { discharge := none, flags := DischargeFlags.none, ratingId := none, shift := none }
  { number := s.lau.nextObs
    time := s.clock.time
    quality := s.clock.quality
    stage := f.stage
    source := f.source
    range := f.range
    disagree := s.lau.disagree.isSet
    manual := f.manual
    rate := f.stage.bind (fun h => rateOfRise s.lau.series h s.clock.time s.lau.settings.window)
    discharge := rated.discharge
    flags := rated.flags
    ratingId := rated.ratingId
    shift := rated.shift }

/-- The SENSOR notices of an acquisition, in their order (R12). -/
def State.sensorNotices (s : State) (number : Nat) : List (SensorEvent × Channel × Option Nat) → State
  | [] => s
  | (e, c, d) :: l => (s.notice (.sensor e c d number)).sensorNotices number l

/-- The number of observations the stage series holds (R17). -/
abbrev seriesCapacity : Nat := 256

/-- The series with an observation appended; the oldest of 256 is removed (R17). -/
def appendObservation (l : List Observation) (o : Observation) : List Observation :=
  (if seriesCapacity ≤ l.length then l.drop (l.length + 1 - seriesCapacity) else l) ++ [o]

/-- The next observation number: 4,294,967,295 is followed by 0 (R14). -/
def nextObsNumber (n : Nat) : Nat := (n + 1) % (max32 + 1)

/-- The append and what takes it: the archive, the warning unit and the cableway controller, in the order of log entry 8
(R18, R28). A level change that brings the due point to the present or the past owes a start, which the same-second rule
carries to the next station second (R22, R23). -/
def State.append (s : State) (o : Observation) : State :=
  let s1 : State :=
    { s with
      lau := { s.lau with series := appendObservation s.lau.series o }
      clock := { s.clock with floor := o.time } }
  let s2 := (s1.hand (.obs o) .nobody).evaluate o
  let s3 := if s2.interval ≠ s.interval && s2.overdue then s2.oweStart else s2
  s3.floodOnAppend o

/-- An observation is formed, numbered and appended; the acquisition is over, and a PENDING hold is entered (R15, R34). -/
def State.publish (s : State) (f : Found) : State :=
  let o := s.observation f
  let s1 := s.withLau { s.lau with nextObs := nextObsNumber s.lau.nextObs, acq := none }
  let s2 := (s1.sensorNotices o.number f.events).append o
  if s2.lau.hold.state = .pending then s2.enterHeld .request .nobody else s2

/-- Steps 1 to 4 of R15 for the acquisition in flight: statuses, vote and DISAGREE, and what they found. -/
def Lau.judge (l : Lau) (a : Acquisition) : Lau × Found :=
  let status := PerChannel.zip (fun st k => updateStatus st k a.burst) l.status a.capture
  let votes := a.votes
  let source := sourceOf votes
  let difference := source.bind (fun v => greatestDifference v votes)
  let disagree : Disagree × Option SensorEvent :=
    match difference with
    | some d => l.disagree.update l.settings.tolerance d
    | none => (l.disagree, none)
  let channelEvents := status.toList.filterMap (fun x => x.2.2.map (fun e => (e, x.1, (none : Option Nat))))
  let disagreeEvents :=
    match disagree.2, source with
    | some e, some v => [(e, v.channel, difference)]
    | _, _ => []
  ({ l with status := status.map (·.1), disagree := disagree.1 },
    { stage := source.map (·.stage), source := source.map (fun v => .channel v.channel)
      range := (source.map (·.clamped)).getD false, manual := false, events := channelEvents ++ disagreeEvents })

/-- The observation of the acquisition in flight is formed (R15). -/
def State.form (s : State) (a : Acquisition) : State :=
  let j := s.lau.judge a
  (s.withLau j.1).publish j.2

/-- The burst completion: the excitation lines go off, and the observation is formed, or waits in COMPLETING for a later
station second (R5, R15). -/
def State.burstComplete (s : State) (a : Acquisition) : State :=
  let s1 := s.withLau { s.lau with excitation := PerChannel.all false, acq := some { a with phase := .completing } }
  if s1.laterSecond then s1.form a else s1

/-- What a held acquisition finds (R37). -/
def Hold.found (h : Hold) : Found :=
  { stage := h.manual, source := h.manual.map (fun _ => .manual), range := false, manual := h.manual.isSome, events := [] }

/-- The capture of an acquisition start: the records of the enabled channels (R4). -/
def captureOf (channels : PerChannel ChannelSettings) : PerChannel (Option Captured) :=
  channels.map (fun c => if c.enabled then some { settings := c, readings := [], stayed := true } else none)

/-- An acquisition starts (R4); while HELD it is a held acquisition (R37). -/
def State.startAcquisition (s : State) : State :=
  let s1 := s.withLau { s.lau with lastStart := some s.elapsed, startOwed := false }
  if s.lau.hold.state = .held then s1.publish s.lau.hold.found
  else
    let a : Acquisition :=
      { phase := if s.lau.settings.warmUp = 0 then .burst else .warming
        capture := captureOf s.lau.channels, warmUp := s.lau.settings.warmUp, burst := s.lau.settings.burst
        start := s.elapsed, taken := 0 }
    let lines := s.lau.channels.map (·.enabled)
    if lines.la || lines.lb || lines.lc then s1.withLau { s1.lau with acq := some a, excitation := lines }
    else s1.burstComplete a

/-- A start is asked for: it is owed while an acquisition is in flight or in the second of the newest observation, and
taken at once otherwise (R21, R22). -/
def State.requestStart (s : State) : State :=
  if s.lau.acq.isSome || s.sameSecond then s.oweStart else s.startAcquisition

/-- A change of the interval in force, the former one given: a due point at or before the present asks for a start (R23). -/
def State.recheck (s : State) (former : Nat) : State := if s.interval ≠ former && s.overdue then s.requestStart else s

/-- The beginning of a station second releases an acquisition in COMPLETING, or the start that is owed (R15, R22, R30). -/
def State.release (s : State) : State :=
  match s.lau.acq with
  | some a => if a.phase = .completing && s.laterSecond then s.form a else s
  | none => if s.lau.startOwed && !s.sameSecond then s.startAcquisition else s

/-! ### Events of the acquisition -/

/-- DUE_POINT_REACHED (R21). -/
def State.dueReached (s : State) : State :=
  match s.duePoint with
  | none => s
  | some t => (s.advanceTo t).requestStart

/-- The reading of one channel at an instant; a sensor that delivers nothing gives 0 (R5). -/
def readingsOf (r : Readings) : PerChannel Nat :=
  ⟨(r.la.map (·.toNat)).getD 0, (r.lb.map (·.toNat)).getD 0, (r.lc.map (·.toNat)).getD 0⟩

/-- The readings of one instant are taken (R5). -/
def Acquisition.read (a : Acquisition) (r : Readings) : Acquisition :=
  { a with
    phase := .burst, taken := a.taken + 1
    capture :=
      PerChannel.zip (fun c n => c.map (fun (k : Captured) => { k with readings := k.readings ++ [n] })) a.capture
        (readingsOf r) }

/-- The elapsed value at which the next readings of the acquisition in flight are due (R5). -/
def Acquisition.nextReading (a : Acquisition) : Nat := after a.start a.warmUp + 25 * a.taken

/-- The readings due are taken, and the B-th of them completes the burst (R5). -/
def State.takeReadings (s : State) (a : Acquisition) (r : Readings) : State :=
  let s1 := s.advanceTo a.nextReading
  let a1 := a.read r
  if a1.burst ≤ a1.taken then s1.burstComplete a1 else s1.withLau { s1.lau with acq := some a1 }

/-- WARM_UP_EXPIRY (R5). -/
def State.warmUpExpiry (s : State) (r : Readings) : State :=
  match s.lau.acq with
  | some a => if a.phase = .warming then s.takeReadings a r else s
  | none => s

/-- BURST_READING (R5). -/
def State.burstReading (s : State) (r : Readings) : State :=
  match s.lau.acq with
  | some a => if a.phase = .burst then s.takeReadings a r else s
  | none => s

/-- STATION_SECOND: the next station second begins (R25). -/
def State.stationSecond (s : State) : State :=
  if s.clock.time < max32 then
    ({ s with
        elapsed := max s.elapsed (s.clock.phase + 100).toNat
        clock := { s.clock with time := s.clock.time + 1, phase := s.clock.phase + 100 } } : State).release
  else s

/-- HOLD_TIMER_EXPIRY (R35). -/
def State.holdExpiry (s : State) : State :=
  match s.lau.hold.state, s.lau.hold.timer with
  | .held, some t => (s.advanceTo t).leaveHeld .timeout .nobody
  | _, _ => s

end Sys2Proof.Machine
end

