-- ==== Sys2Proof/Machine/Schedule.lean ====
section
/-! DEFINITION. The requests that reach the LAU, the station clock, the service hold and the threshold records:
SET_CHANNEL, SET_ACQUISITION, ACQUIRE_NOW, READ_OBS, SET_TIME, ENTER_HOLD, LEAVE_HOLD, MANUAL_READING, SET_HOLD_LIMIT and
SET_THRESHOLD. -/

namespace Sys2Proof.Machine

/-! ### Settings (R2, R3, R32) -/

/-- The record of SET_CHANNEL within its ranges (R1; log entry 13). -/
def checkChannel (f : ChannelFields) : Option ChannelSettings :=
  f.enabled.bind (fun e =>
    if within 1 3 f.preference && decide (-30000 ≤ f.offset) && decide (f.offset ≤ 30000) && within 1 60000 f.gain then
      some { enabled := e, preference := f.preference, offset := f.offset, gain := f.gain }
    else none)

/-- Whether a record enables a channel with the preference of another enabled channel (R2). -/
def preferenceTaken (channels : PerChannel ChannelSettings) (c : Channel) (v : ChannelSettings) : Bool :=
  v.enabled &&
    channels.toList.any (fun x => decide (x.1 ≠ c) && x.2.enabled && decide (x.2.preference = v.preference))

/-- A channel's status after its record is replaced (R2). -/
def statusAfter (status : Option ChannelStatus) (was now : Bool) : Option ChannelStatus :=
  if now then (if was then status else some ⟨false, 0, 0⟩) else none

/-- An acquisition in flight after a channel is disabled: the channel has not stayed enabled (R9). -/
def Acquisition.disable (a : Acquisition) (c : Channel) : Acquisition :=
  { a with capture := a.capture.set c ((a.capture.get c).map (fun (k : Captured) => { k with stayed := false })) }

/-- The LAU with one channel's record replaced (R2). -/
def Lau.setChannel (l : Lau) (c : Channel) (v : ChannelSettings) : Lau :=
  { l with
    channels := l.channels.set c v
    status := l.status.set c (statusAfter (l.status.get c) (l.channels.get c).enabled v.enabled)
    acq := if v.enabled then l.acq else l.acq.map (fun a => a.disable c) }

/-- SET_CHANNEL (R2). R2 lists its refusals without an order of checks: the channel name is looked at first, so an unknown name
beside a field out of range is answered BAD_REQUEST (DESIGN CHOICE, log entry 39). -/
def State.setChannel (s : State) (p : Port) (f : ChannelFields) : State :=
  match f.channel with
  | none => s.reply p .badRequest
  | some c =>
    match checkChannel f with
    | none => s.reply p .range
    | some v =>
      if preferenceTaken s.lau.channels c v then s.reply p .range
      else (s.withLau (s.lau.setChannel c v)).writeThrough p (.channel c v)

/-- The ranges of the acquisition settings, an odd burst length, and the order of the intervals (R3). -/
def acquisitionValid (a : AcqSettings) : Bool :=
  decide (a.warmUp ≤ 10) && within 3 15 a.burst && decide (a.burst % 2 = 1) && within 300 3600 a.window
    && within 5 500 a.tolerance && within 15 3600 a.clear && within 15 3600 a.watch && within 15 3600 a.warn
    && within 15 3600 a.alarm && decide (a.watch ≤ a.clear) && decide (a.warn ≤ a.watch) && decide (a.alarm ≤ a.warn)

/-- SET_ACQUISITION (R3, R23). -/
def State.setAcquisition (s : State) (p : Port) (f : AcqSettings) : State :=
  if acquisitionValid f then
    ((s.withLau { s.lau with settings := f }).writeThrough p (.acquisition f)).recheck s.interval
  else s.reply p .range

/-- SET_HOLD_LIMIT (R32). -/
def State.setHoldLimit (s : State) (p : Port) (limit : Nat) : State :=
  if within 300 7200 limit then
    (s.withLau { s.lau with hold := { s.lau.hold with limit := limit } }).writeThrough p (.holdLimit limit)
  else s.reply p .range

/-! ### Acquisitions and observations (R19, R24) -/

/-- ACQUIRE_NOW (R24). -/
def State.acquireNow (s : State) (p : Port) : State :=
  (if s.lau.acq.isSome || s.lau.startOwed then s else s.requestStart).reply p .ok

/-- The observations that fit in one response: the oldest are left out until the rest fit (R19). -/
def fitting : List Observation → List Observation
  | [] => []
  | o :: l => if (payloadBytes (.observations (o :: l))).length ≤ 576 then o :: l else fitting l

/-- The newest observations of a series, oldest of them first. -/
def newest (n : Nat) (l : List Observation) : List Observation := l.drop (l.length - n)

/-- READ_OBS (R19). -/
def State.readObs (s : State) (p : Port) (n : Nat) : State :=
  if 64 < n then s.reply p .range
  else s.answer p .ok (.observations (fitting (newest (if n = 0 then 16 else n) s.lau.series)))

/-! ### Station time (R29, R30) -/

/-- SET_TIME (R29, R30). -/
def State.setTime (s : State) (p : Port) (time : Nat) : State :=
  if time < s.clock.floor then s.answer p .timeOrder (.floor s.clock.floor)
  else
    let s1 : State := { s with clock := { s.clock with time := time, quality := .set, phase := s.elapsed } }
    let s2 := s1.defer p false true false .empty
    (s2.hand (.time { before := s.clock.time, quality := s.clock.quality, after := time, port := p }) (s2.ownerOf p)).release

/-! ### The service hold (R33, R35, R38) -/

/-- ENTER_HOLD from Port F (R33). -/
def State.enterHold (s : State) (p : Port) : State :=
  match s.lau.hold.state with
  | .none =>
    if s.lau.acq.isSome then
      (s.withLau { s.lau with hold := { s.lau.hold with state := .pending } }).reply p .ok
    else
      let s1 := s.defer p false true false .empty
      s1.enterHeld .request (s1.ownerOf p)
  | .pending => s.reply p .ok
  | .held =>
    (s.withLau
      { s.lau with hold := { s.lau.hold with timer := some (after s.elapsed s.lau.hold.limit) } }).reply p .ok

/-- LEAVE_HOLD from Port F (R35). -/
def State.leaveHold (s : State) (p : Port) : State :=
  match s.lau.hold.state with
  | .none => s.reply p .notHeld
  | .pending => (s.withLau { s.lau with hold := { s.lau.hold with state := .none } }).reply p .ok
  | .held =>
    let s1 := s.defer p false true false .empty
    s1.leaveHeld .request (s1.ownerOf p)

/-- MANUAL_READING from Port F (R38). -/
def State.manualReading (s : State) (p : Port) (stage : Int) : State :=
  if s.lau.hold.state ≠ .held then s.reply p .notHeld
  else if !stageOk stage then s.reply p .range
  else
    let h : Hold := { s.lau.hold with manual := some stage, count := heldCount s.lau.hold.count }
    (s.withLau { s.lau with hold := h }).requestStart.reply p .ok

/-! ### Threshold records (R80, R81) -/

/-- The number of a threshold record, 1 to 8, as its place. -/
def thresholdPlace (n : Nat) : Option (Fin 8) := if h : 1 ≤ n ∧ n ≤ 8 then some ⟨n - 1, by omega⟩ else none

/-- The level range and least value of a quantity (R79). -/
def quantityRange : Quantity → Int × Int
  | .stage => (stageMin, stageMax)
  | .rise => (-30000, 30000)
  | .flow => (0, qMax)

/-- The record of SET_THRESHOLD with its place, when nothing in it is malformed (R80, check 1; log entry 13). -/
def readThresholdRecord (f : ThresholdFields) : Option (Fin 8 × ThresholdSettings) :=
  match thresholdPlace f.number, f.enabled, f.quantity, f.severity with
  | some n, some e, some q, some v =>
    some (n, { enabled := e, quantity := q, level := f.level, margin := f.margin, persistence := f.persistence, severity := v })
  | _, _, _, _ => none

/-- The ranges of a threshold record (R80, check 2). -/
def thresholdValid (t : ThresholdSettings) : Bool :=
  let r := quantityRange t.quantity
  decide (r.1 ≤ t.level) && decide (t.level ≤ r.2) && within 1 10 t.persistence && decide (0 ≤ t.margin)
    && decide (r.1 ≤ t.clearLevel)

/-- The warning unit with one record's settings replaced and its live state INACTIVE with count 0 (R81). -/
def Warning.setThreshold (w : Warning) (n : Fin 8) (t : ThresholdSettings) : Warning :=
  { w with settings := w.settings.set n t, live := w.live.set n ⟨false, 0⟩ }

/-- SET_THRESHOLD (R80, R81, R23). -/
def State.setThreshold (s : State) (p : Port) (f : ThresholdFields) : State :=
  match readThresholdRecord f with
  | none => s.reply p .badRequest
  | some (n, t) =>
    if !thresholdValid t then s.reply p .range
    else
      let w := s.warning.setThreshold n t
      let s1 := (({ s with warning := w } : State).defer p true (decide (w.formed ≠ w.level)) true .empty).write p
        (.threshold n t)
      (s1.changeLevel w.formed (.setThreshold (n.val + 1) p) (s1.ownerOf p)).recheck s.interval

end Sys2Proof.Machine
end

