-- ==== Sys2Proof/Machine/Reads.lean ====
section
/-! DEFINITION. The requests that read: STATUS, READ_SETTINGS, READ_DESCRIPTOR, READ_ARCHIVE and VERIFY_ARCHIVE. -/

namespace Sys2Proof.Machine

/-! ### STATUS (R186, and the rules that name its items) -/

/-- The whole seconds to the expiry of a timer that may be stopped. -/
def State.remaining (s : State) (timer : Option Nat) : Option Nat := timer.map (secondsLeft s.elapsed)

/-- The expiry of a deadline that is RUNNING. -/
def Deadline.expiry : Deadline → Option Nat
  | .running t => some t
  | .stopped | .expired => none

/-- The answer to STATUS: R9, R25, R27, R32, R82, R86, R92, R97, R106, R107 and R130. -/
def State.statusAnswer (s : State) : StatusAnswer :=
  { channels := s.lau.status.map (fun c => c.map (·.fault))
    time := s.clock.time
    elapsedSeconds := s.elapsed / 100
    holdRemaining := s.remaining s.lau.hold.timer
    manual := s.lau.hold.manual
    thresholds := s.warning.live
    level := s.warning.level
    firstTime := s.warning.firstTime
    deadline := s.warning.deadline.state
    deadlineRemaining := s.remaining s.warning.deadline.expiry
    silenceRemaining := if s.warning.silent then none else s.remaining s.warning.silenceTimer
    available := s.cable.available
    runState := s.cable.state
    holder := s.cable.holder
    vertical := s.cable.run.map (fun r => r.vertical + 1)
    pauseRemaining := if s.cable.state = .paused then s.remaining s.cable.pauseTimer else none
    endCause := s.cable.endCause
    gaugings := s.gauging.list.length
    newestGauging := s.gauging.list.getLast?.map (fun e => e.record.id)
    runVerticals := s.gauging.run.map (fun r => r.results.length) }

/-- STATUS. -/
def State.readStatus (s : State) (p : Port) : State := s.answer p .ok (.status s.statusAnswer)

/-! ### READ_SETTINGS (R198) -/

/-- A rating slot number, 1 to 4, as its place. -/
def slotPlace (n : Nat) : Option (Fin 4) := if h : 1 ≤ n ∧ n ≤ 4 then some ⟨n - 1, by omega⟩ else none

/-- The ACQUISITION section. -/
def State.acquisitionSection (s : State) : SettingsAnswer :=
  let m (c : Channel) := s.store.marked (.channel c) (s.lau.channels.get c)
  .acquisition ⟨m .LA, m .LB, m .LC⟩ (s.store.marked .acquisition s.lau.settings) (s.store.marked .holdLimit s.lau.hold.limit)

/-- The WARNING section. -/
def State.warningSection (s : State) : SettingsAnswer :=
  let m (n : Fin 8) := s.store.marked (.threshold n) (s.warning.settings.get n)
  .warning ⟨m 0, m 1, m 2, m 3, m 4, m 5, m 6, m 7⟩ (s.store.marked .warning s.warning.timers)

/-- The answer of a section; none when the RATING section has no slot from 1 to 4. -/
def State.section (s : State) (part : SettingsSection) (slot : Option Nat) : Option SettingsAnswer :=
  match part with
  | .acquisition => some s.acquisitionSection
  | .warning => some s.warningSection
  | .cableway => some (.cableway (s.store.marked .cableway s.cable.settings) s.cable.available)
  | .rating =>
    (slot.bind slotPlace).map (fun n =>
      .rating (s.store.marked (.slot n) (s.rating.slots.get n).version) s.rating.lastId s.rating.frozen)
  | .shifts => some (.shifts (s.store.marked .shifts s.rating.shifts))
  | .datum => some (.datum (s.store.marked .datum s.rating.elevation) s.rating.fixed)

/-- READ_SETTINGS. -/
def State.readSettings (s : State) (p : Port) (f : ReadSettingsFields) : State :=
  match f.part.bind (fun part => s.section part f.slot) with
  | none => s.reply p .badRequest
  | some a => s.answer p .ok (.settings a)

/-! ### READ_DESCRIPTOR (R199) -/

/-- READ_DESCRIPTOR. -/
def State.readDescriptor (s : State) (p : Port) : State :=
  s.answer p .ok
    (.descriptor
      { family := "FOLVARA", part := "FV-632", revision := Config.siliconRevision, available := s.cable.available
        elevation := s.rating.elevation, fixed := s.rating.fixed, healthy := s.archive.healthy, retired := s.archive.retired
        time := s.clock.time, quality := s.clock.quality })

/-! ### The archive (R168, R170) -/

/-- READ_ARCHIVE (R168). -/
def State.readArchive (s : State) (p : Port) (f : ReadArchiveFields) : State :=
  if 32 < f.count then s.reply p .range
  else if f.filter = .unknown then s.reply p .badRequest
  else s.answer p .ok (.archive (s.archive.read f.start (if f.count = 0 then 16 else f.count) f.filter))

/-- VERIFY_ARCHIVE: a range that holds no record is answered at once, any other is deferred (R170). -/
def State.verifyArchive (s : State) (p : Port) (f : VerifyFields) : State :=
  let count := if f.count = 0 then max16 else f.count
  let range := s.archive.verifyRange f.start count
  let v : Verification :=
    { remaining := range, checked := 0, passed := 0, earlierGone := earlierGone (s.archive.items f.start count) f.start }
  if range.isEmpty then
    s.answer p .ok (.verified { firstBad := none, checked := 0, passed := 0, earlierGone := v.earlierGone })
  else
    { s with
      archive := { s.archive with verifications := s.archive.verifications.set p (some v) }
      ports := s.ports.await p (fun o => { o with waitVerify := true }) }

end Sys2Proof.Machine
end

