-- ==== Sys2Proof/Machine/Ports.lean ====
section
/-! DEFINITION. The ports (09_ports_requests_and_notices.md): the checks of a request and its handing to its owner, the
slot, the frames of Port L, the messages of Ports T and F, and the sending of notice packets. -/

namespace Sys2Proof.Machine

/-! ### The checks of a request (R177) -/

/-- The ports a request kind is allowed from (R177). -/
def permitted (p : Port) : Request → Bool
  | .claimCableway _ | .loadPlan _ | .startRun _ | .holdAlive _ | .resume _ | .abortRun _ | .releaseCableway _ => decide (p ≠ .T)
  | .forceClaim _ | .enterHold _ | .leaveHold _ | .manualReading _ | .writeDatum _ | .fixDatum _ | .clearFault _
  | .setCableway _ => decide (p = .F)
  | .acceptShift _ | .ackLevel _ | .acquireNow _ | .commitRating _ | .deleteRating _ | .deleteShift _ | .freezeRating _
  | .readArchive _ | .readDescriptor _ | .readGauging _ | .readObs _ | .readSettings _ | .rejectShift _ | .setAcquisition _
  | .setChannel _ | .setHoldLimit _ | .setShift _ | .setThreshold _ | .setTime _ | .setWarningTimers _ | .status _
  | .verifyArchive _ => true

/-- A request with fields, its payload of the size they take; any other size is refused with BAD_REQUEST. -/
def State.withFields {α : Type} (s : State) (p : Port) (f : α → State) : Option α → State
  | some a => f a
  | none => s.reply p .badRequest

/-- A request without fields, its payload empty; any other size is refused with BAD_REQUEST. -/
def State.withoutFields (s : State) (p : Port) (f : State) (sized : Bool) : State :=
  if sized then f else s.reply p .badRequest

/-- A permitted request goes to its owning block (R177, steps 3 and 4). -/
def State.toOwner (s : State) (p : Port) : Request → State
  | .abortRun sized => s.withoutFields p (s.abortRun p) sized
  | .acceptShift id => s.withFields p (s.acceptShift p) id
  | .ackLevel level => s.withFields p (s.ackLevel p) level
  | .acquireNow sized => s.withoutFields p (s.acquireNow p) sized
  | .claimCableway sized => s.withoutFields p (s.claimCableway p) sized
  | .clearFault sized => s.withoutFields p (s.clearFault p) sized
  | .commitRating f => s.commitRating p f
  | .deleteRating id => s.withFields p (s.deleteRating p) id
  | .deleteShift time => s.withFields p (s.deleteShift p) time
  | .enterHold sized => s.withoutFields p (s.enterHold p) sized
  | .fixDatum sized => s.withoutFields p (s.fixDatum p) sized
  | .forceClaim sized => s.withoutFields p (s.forceClaim p) sized
  | .freezeRating sized => s.withoutFields p (s.freezeRating p) sized
  | .holdAlive sized => s.withoutFields p (s.holdAlive p) sized
  | .leaveHold sized => s.withoutFields p (s.leaveHold p) sized
  | .loadPlan f => s.loadPlan p f
  | .manualReading stage => s.withFields p (s.manualReading p) stage
  | .readArchive f => s.withFields p (s.readArchive p) f
  | .readDescriptor sized => s.withoutFields p (s.readDescriptor p) sized
  | .readGauging id => s.withFields p (s.readGauging p) id
  | .readObs count => s.withFields p (s.readObs p) count
  | .readSettings f => s.withFields p (s.readSettings p) f
  | .rejectShift id => s.withFields p (s.rejectShift p) id
  | .releaseCableway sized => s.withoutFields p (s.releaseCableway p) sized
  | .resume sized => s.withoutFields p (s.resumeRun p) sized
  | .setAcquisition f => s.withFields p (s.setAcquisition p) f
  | .setCableway f => s.withFields p (s.setCableway p) f
  | .setChannel f => s.withFields p (s.setChannel p) f
  | .setHoldLimit limit => s.withFields p (s.setHoldLimit p) limit
  | .setShift f => s.setShift p f
  | .setThreshold f => s.withFields p (s.setThreshold p) f
  | .setTime time => s.withFields p (s.setTime p) time
  | .setWarningTimers f => s.withFields p (s.setWarningTimers p) f
  | .startRun sized => s.withoutFields p (s.startRun p) sized
  | .status sized => s.withoutFields p (s.readStatus p) sized
  | .verifyArchive f => s.withFields p (s.verifyArchive p) f
  | .writeDatum elevation => s.withFields p (s.writeDatum p) elevation

/-! ### The slot (R178) -/

/-- A message that its port takes whole: a request, or a code that names none (R177). -/
inductive Arrival where
  | unknown (code tag : Byte)
  | request (tag : Byte) (r : Request)
deriving DecidableEq, Repr

/-- The code of an arrival. -/
def Arrival.code : Arrival → Byte
  | .unknown code _ => code
  | .request _ r => BitVec.ofNat 8 (requestCode r)

/-- The tag of an arrival. -/
def Arrival.tag : Arrival → Byte
  | .unknown _ tag => tag
  | .request tag _ => tag

/-- A request newly owed: nothing is awaited yet. -/
def Owed.new (id : Nat) (code tag : Byte) : Owed :=
  { id := id, code := code, tag := tag, waitWrite := false, waitRecord := false, waitGauging := none, waitVerify := false
    unfinished := false, dropped := false, strict := false, payload := .empty, answered := false }

/-- A FREE slot becomes OWED (R178). -/
def State.occupy (s : State) (p : Port) (code tag : Byte) : State :=
  { s with ports := { s.ports.setSlot p (some (Owed.new s.ports.nextId code tag)) with nextId := s.ports.nextId + 1 } }

/-- A message is taken and handed on, by the checks of R177 in order. -/
def State.take (s : State) (p : Port) (a : Arrival) : State :=
  let s1 := s.occupy p a.code a.tag
  match a with
  | .unknown _ _ => s1.reply p .badRequest
  | .request _ r => if permitted p r then s1.toOwner p r else s1.reply p .notPermitted

/-! ### Ports T and F (R183, R184) -/

/-- A BUSY or FRAME_ERROR response becomes ready, unless one is waiting unsent (R184; log entry 28). -/
def PortAsync.immediate (a : PortAsync) (code tag : Byte) (result : Result) : PortAsync :=
  if a.ready.any (fun r => !r.answers) then a
  else { a with ready := a.ready ++ [{ code := code, tag := tag, result := result, payload := .empty, answers := false }] }

/-- The state with an asynchronous port changed. -/
def State.onAsync (s : State) (p : AsyncPort) (f : PortAsync → PortAsync) : State :=
  { s with ports := s.ports.setAsync p (f (s.ports.async p)) }

/-- A port that is IDLE, without a message (R183). -/
def PortAsync.idle (a : PortAsync) : PortAsync := { a with receiving := false, heard := [] }

/-- A message has been received whole: the receive state becomes IDLE, and on Port T the silence timer restarts before
the request is taken (R97, R183). -/
def State.received (s : State) (p : AsyncPort) : State :=
  let s1 := s.onAsync p PortAsync.idle
  match p with
  | .T => s1.restartSilence
  | .F => s1

/-- Whether a message can arrive on an asynchronous port: it is RECEIVING, and the start-up sequence is over (R183, R197). -/
def State.hears (s : State) (p : AsyncPort) : Bool := !s.startingUp && (s.ports.async p).receiving

/-- A valid message on Port T or F: taken when the slot is FREE, answered BUSY otherwise (R184). -/
def State.arrive (s : State) (p : AsyncPort) (a : Arrival) : State :=
  if s.hears p then
    let s1 := s.received p
    if (s.ports.slot p.port).isNone then s1.take p.port a
    else s1.onAsync p (fun b => b.immediate a.code a.tag .busy)
  else s

/-- BREAK: a break begins a message (R183); none is received while the start-up sequence runs (R197). -/
def State.lineBreak (s : State) (p : AsyncPort) : State :=
  if s.startingUp then s else s.onAsync p (fun a => { a with receiving := true, heard := [] })

/-- LONG_GAP: a message that is being received is abandoned (R183). That this holds also before the message's first byte, where the
rule speaks only of a gap between two bytes, is the model's choice (log entry 36). -/
def State.longGap (s : State) (p : AsyncPort) : State := s.onAsync p PortAsync.idle

/-- FRAME_ERROR: characters arrive, and the message they end is judged (R183, R184). A faulty one is not taken, and answered
with a FRAME_ERROR response; a valid one is taken as its own command is, and one that has not ended is kept (log entry 36). -/
def State.frameError (s : State) (p : AsyncPort) (l : List Character) : State :=
  if s.hears p then
    let m := (s.ports.async p).heard ++ l
    match Inbound.judgeLine m with
    | .empty => s.onAsync p (fun a => { a with heard := m })
    | .faulty => s.onAsync p (fun a => a.idle.immediate 0 0 .frameError)
    | .unknown code tag => s.arrive p (.unknown code tag)
    | .request tag r => s.arrive p (.request tag r)
  else s

/-- BUSY: a valid message, whatever it carries, that finds the slot OWED (R184). -/
def State.busy (s : State) (p : AsyncPort) (code tag : Byte) : State :=
  if s.hears p && (s.ports.slot p.port).isSome then
    (s.received p).onAsync p (fun a => a.immediate code tag .busy)
  else s

/-- A port after a response has been sent completely: the marker is clear, and an answer frees the slot (R178, R187). -/
def PortAsync.sent (a : PortAsync) (r : Response) : PortAsync :=
  { a with sending := none, first := false, slot := if r.answers then none else a.slot }

/-- RESPONSE_SENT. -/
def State.responseSent (s : State) (p : AsyncPort) : State :=
  match (s.ports.async p).sending with
  | some (.response r) => s.onAsync p (fun a => a.sent r.response)
  | _ => s

/-- The list without the notice in transmission. -/
def dropSent : List Notice → List Notice
  | [] => []
  | n :: l => if n.inTransmission then l else n :: dropSent l

/-- NOTICE_PACKET_COMPLETE (R191). -/
def State.packetComplete (s : State) : State :=
  match s.ports.t.sending with
  | some (.notice n) =>
    { s with
      notices :=
        { held := dropSent s.notices.held
          overflowed := if n.overflowed && !n.lossSince then false else s.notices.overflowed }
      ports := { s.ports with t := { s.ports.t with sending := none } } }
  | _ => s

/-! ### Port L (R179 to R182) -/

/-- The response that a frame begins with: the ready answer, WAIT, FRAME_ERROR, or idle (R179). -/
def PortL.choose (l : PortL) : Response :=
  match l.slot with
  | some o =>
    match l.answer with
    | some r => r
    | none => { code := o.code, tag := o.tag, result := .wait, payload := .empty, answers := false }
  | none =>
    { code := 0, tag := 0, result := if l.frameError then .frameError else .ok, payload := .empty, answers := false }

/-- FRAME_BEGIN (R179, R181, R182, R186); during the start-up sequence a frame is not a frame of the port (R197). -/
def State.frameBegin (s : State) : State :=
  let l := s.ports.l
  if s.startingUp || l.frame.isSome then s
  else
    let m := s.summary l.first
    { s with
      ports :=
        { s.ports with
          l :=
            { l with
              frame := some { response := l.choose, discarded := l.discarded, summary := m }
              lastSummary := some m, frameError := false, discarded := false } } }

/-- Port L after its frame: the response counts as sent, and an answer frees the slot (R179, R187). -/
def PortL.sent (l : PortL) (r : Response) : PortL :=
  if r.answers then { l with frame := none, first := false, slot := none, answer := none }
  else { l with frame := none, first := false }

/-- What a frame of Port L carried inbound is judged against the slot (R179, R180, R181). -/
def State.judgeInbound (s : State) : Inbound → State
  | .empty => s
  | .faulty =>
    if s.ports.l.slot.isSome then { s with ports := { s.ports with l := { s.ports.l with discarded := true } } }
    else { s with ports := { s.ports with l := { s.ports.l with frameError := true } } }
  | .unknown code tag =>
    if s.ports.l.slot.isSome then { s with ports := { s.ports with l := { s.ports.l with discarded := true } } }
    else s.take .L (.unknown code tag)
  | .request tag r =>
    if s.ports.l.slot.isSome then { s with ports := { s.ports with l := { s.ports.l with discarded := true } } }
    else s.take .L (.request tag r)

/-- The end of the frame in progress on Port L (R179). -/
def State.frameEnd (s : State) (i : Inbound) : State :=
  match s.ports.l.frame with
  | none => s
  | some r => ({ s with ports := { s.ports with l := s.ports.l.sent r.response } } : State).judgeInbound i

/-! ### Any port -/

/-- A message as the frame of Port L that carries it. -/
def Arrival.inbound : Arrival → Inbound
  | .unknown code tag => .unknown code tag
  | .request tag r => .request tag r

/-- A whole message with a correct check reaches its port: on Port L as the end of the frame that carries it, on Ports T
and F as the end of the message (log entry 4). -/
def State.receive (s : State) (p : Port) (a : Arrival) : State :=
  match p with
  | .L => s.frameEnd a.inbound
  | .T => s.arrive .T a
  | .F => s.arrive .F a

/-- A request reaches its port. -/
def State.request (s : State) (p : Port) (tag : Byte) (r : Request) : State := s.receive p (.request tag r)

end Sys2Proof.Machine
end

