-- ==== Sys2Proof/Machine/StartUp.lean ====
section
/-! DEFINITION. Reset and start-up (10_settings_store_and_start_up.md, 08_the_archive.md section 8.7): what a reset finds
in the non-volatile storage, the archive scan, the restoration, the clock, the hold-at-start line, and the end of the
start-up sequence. -/

namespace Sys2Proof.Machine

/-! ### The storage as a reset finds it (R174, R194; log entry 7) -/

/-- The settings storage after the write in flight was cut off (R194). -/
def cutWrite (m : Medium) (left : Remnant) : List PendingWrite → Medium
  | [] => m
  | w :: _ =>
    match left with
    | .former => m
    | .done => m.put w.data true
    | .bad => m.put w.data false

/-- An item whose storage has been damaged fails its check (R193). -/
def spoil {α : Type} (i : Item α) : Item α := { i with ok := false }

/-- The settings storage with one item damaged. -/
def Medium.damage (m : Medium) : ItemId → Medium
  | .channel c => { m with channels := m.channels.set c (spoil (m.channels.get c)) }
  | .acquisition => { m with acquisition := spoil m.acquisition }
  | .holdLimit => { m with holdLimit := spoil m.holdLimit }
  | .threshold n => { m with thresholds := m.thresholds.set n (spoil (m.thresholds.get n)) }
  | .warning => { m with warning := spoil m.warning }
  | .cableway => { m with cableway := spoil m.cableway }
  | .slot n => { m with slots := m.slots.set n (spoil (m.slots.get n)) }
  | .shifts => { m with shifts := spoil m.shifts }
  | .datum => { m with datum := spoil m.datum }

/-- A page header that a reset finds after its programming was cut off. -/
def cutHeader (sequence : Nat) (elevation : Int) : Remnant → Page
  | .former => Page.blank
  | .done =>
    { status := .opened
      header := some { sequence := sequence, elevation := elevation, checkOk := true, closed := false, retiredMark := false }
      records := [] }
  | .bad =>
    { status := .retired
      header := some { sequence := sequence, elevation := elevation, checkOk := false, closed := false, retiredMark := false }
      records := [] }

/-- The pages after the archive's operation in flight was cut off (R174). -/
def Archive.cut (a : Archive) (left : Remnant) : List (Nat × Page) :=
  match a.op with
  | .idle => a.pages
  | .record n =>
    match a.queue, left with
    | q :: _, .done => Machine.setPage a.pages n ((pageAt a.pages n).append q true)
    | q :: _, .bad => Machine.setPage a.pages n ((pageAt a.pages n).append q false)
    | _, _ => a.pages
  | .header n elevation => Machine.setPage a.pages n (cutHeader (a.lastSequence + 1) elevation left)
  | .closedMark n => if left = .done then Machine.setPage a.pages n (pageAt a.pages n).markClosed else a.pages
  | .retiredMark n => if left = .done then Machine.setPage a.pages n (pageAt a.pages n).markRetired else a.pages
  | .erase n => Machine.setPage a.pages n ((pageAt a.pages n).afterErase left)

/-- A page whose header has been damaged. -/
def Page.damageHeader (p : Page) : Page := { p with header := p.header.map (fun h => { h with checkOk := false }) }

/-- A page whose records of some indexes have been damaged. -/
def Page.damageRecords (p : Page) (l : List Nat) : Page :=
  { p with records := p.records.map (fun r => if l.contains r.index then { r with intact := false } else r) }

/-- The pages with damaged headers and damaged records. -/
def damagePages (headers records : List Nat) (l : List (Nat × Page)) : List (Nat × Page) :=
  l.map (fun e => (e.1, if headers.contains e.1 then (e.2.damageRecords records).damageHeader else e.2.damageRecords records))

/-! ### The scan (R172, R173) -/

/-- Whether a page has a passing header and no retired mark. That a page with a retired mark does not count among the pages with a
passing header of R172, whatever its check, is the model's choice (log entry 18). -/
def Page.passing (p : Page) : Bool :=
  match p.header with
  | none => false
  | some h => h.checkOk && !h.retiredMark

/-- The newest page: the greatest sequence number among the passing ones (R172); of equal ones the higher page number, the
model's choice (log entry 19). -/
def newestPage : List (Nat × Page) → Option (Nat × Page)
  | [] => none
  | e :: l =>
    match newestPage l with
    | none => if e.2.passing then some e else none
    | some m => if e.2.passing && decide (m.2.sequence < e.2.sequence) then some e else some m

/-- Whether a page carries its retired mark. -/
def Page.marked (p : Page) : Bool := (p.header.map (·.retiredMark)).getD false

/-- The page after the newest in the ring, when its header fails its check: an erase cut off by the reset (R172). -/
def eraseCutOff (l : List (Nat × Page)) (newest : Nat) : Option Nat :=
  let next := ((List.range (pageCount - 1)).map (fun k => (newest + 1 + k) % pageCount)).find? (fun k => !(pageAt l k).marked)
  next.bind (fun k =>
    match (pageAt l k).header with
    | none => none
    | some h => if h.checkOk then none else some k)

/-- The state a page is judged to have (R172). A page whose erase was cut off is not retired; the spec gives it no state until it
is erased again, and FULL is the model's choice (log entry 19). -/
def judgedStatus (newest again : Option Nat) (n : Nat) (h : PageHeader) : PageStatus :=
  if h.retiredMark then .retired
  else if !h.checkOk then (if again = some n then .full else .retired)
  else if h.closed then .full
  else if newest = some n then .opened
  else .full

/-- The pages with the states judged; a wholly erased header is an ERASED page (R172). -/
def judgePages (newest again : Option Nat) : List (Nat × Page) → List (Nat × Page)
  | [] => []
  | (n, p) :: l =>
    match p.header with
    | none => judgePages newest again l
    | some h => (n, { p with status := judgedStatus newest again n h }) :: judgePages newest again l

/-- The records of a page up to the first that fails its check (R172). -/
def Page.walked (p : Page) : List StoredRecord := p.records.takeWhile (·.intact)

/-- Whether the walk of a page ends at a record that fails its check (R172). -/
def Page.cutOff (p : Page) : Bool := decide (p.walked.length < p.records.length)

/-- The lowest-numbered page that is erased. -/
def lowestErased (l : List (Nat × Page)) : Option Nat :=
  (List.range pageCount).find? (fun k => decide ((pageAt l k).status = .erased))

/-- The greatest sequence number among the headers that pass their check (log entry 18). -/
def greatestSequence (l : List (Nat × Page)) : Nat :=
  l.foldl (fun n e => match e.2.header with | some h => if h.checkOk then max n h.sequence else n | none => n) 0

/-- The first operation after start-up (R172). -/
def firstOperation (l : List (Nat × Page)) (newest : Option (Nat × Page)) (again : Option Nat) : FirstOp :=
  match newest with
  | none =>
    match lowestErased l with
    | some k => .openFirst k
    | none => .nothing
  | some (n, p) =>
    let closed := (p.header.map (·.closed)).getD false
    if p.cutOff then (if closed then .takeNext n else .close n)
    else if closed then .takeNext n
    else
      match again with
      | some k => .eraseAgain k
      | none => .nothing

/-- What the scan finds (R172, R173). -/
structure Scan where
  archive : Archive
  newestTime : Option Nat
  floor : Nat
  observation : Option Nat
  gauging : Option Nat
deriving DecidableEq, Repr

/-- The observation number that an OBS record or a GAP record with dropped observations gives (R173). -/
def Record.lastObservation : Record → Option Nat
  | .obs o => some o.number
  | .gap g => if 0 < g.obsCount then some g.last else none
  | _ => none

/-- Whether a record is of kind OBS or GAP (R173). -/
def Record.isObsOrGap : Record → Bool
  | .obs _ | .gap _ => true
  | _ => false

/-- The id of a GAUGING record. -/
def Record.gaugingId : Record → Option Nat
  | .gauging g => some g.id
  | _ => none

/-- The next archive index: one more than the newest record's, two more after a cut-off record, 0 without a record (R173). -/
def nextIndexOf (newest : Option StoredRecord) (cut : Bool) : Nat :=
  match newest with
  | none => 0
  | some r => r.index + (if cut then 2 else 1)

/-- The archive scan over the pages as the reset finds them (R172, R173, R174). That the first and the last observation number
dropped begin at 0 is the model's choice (log entry 37); so is that an archive whose only headers passing their check carry a retired
mark has no passing header, so that its next page is opened with sequence number 1 (R157, R172; log entry 18). -/
def scan (found : List (Nat × Page)) : Scan :=
  let newest := newestPage found
  let again := newest.bind (fun e => eraseCutOff found e.1)
  let pages := judgePages (newest.map (·.1)) again found
  let records := (heldPages pages).flatMap (fun e => e.2.walked)
  let last := records.getLast?
  let next := nextIndexOf last ((newest.map (fun e => e.2.cutOff)).getD false)
  let a : Archive :=
    { pages := pages
      state := .normal
      nextIndex := next
      indexEnd := last.isSome && decide (max32 < next)
      queue := []
      waiting := []
      op := .idle
      firstOp := firstOperation pages newest again
      lastSequence := if newest.isSome then greatestSequence found else 0
      obsDropped := 0
      firstDropped := 0
      lastDropped := 0
      othersDropped := 0
      verifications := PerPort.all none }
  { archive := { a with state := a.freshState }
    newestTime := last.map (·.time)
    floor := (records.filter (fun r => r.record.isObsOrGap)).foldl (fun n r => max n r.time) 0
    observation := (records.filterMap (fun r => r.record.lastObservation)).getLast?
    gauging := (records.filterMap (fun r => r.record.gaugingId)).getLast? }

/-! ### Restoration (R195, R40, R57) -/

/-- An item's content when its check passes, its factory default otherwise (R195). -/
def Item.restore {α : Type} (i : Item α) (factory : α) : α := if i.ok then i.value else factory

/-- The items that fail their check; the datum item is not tested when the cell reads FIXED (R195). -/
def Medium.failing (m : Medium) : List ItemId :=
  (m.channels.toList.filterMap (fun x => if x.2.ok then none else some (ItemId.channel x.1)))
    ++ (if m.acquisition.ok then [] else [.acquisition]) ++ (if m.holdLimit.ok then [] else [.holdLimit])
    ++ (([0, 1, 2, 3, 4, 5, 6, 7] : List (Fin 8)).filterMap
      (fun n => if (m.thresholds.get n).ok then none else some (ItemId.threshold n)))
    ++ (if m.warning.ok then [] else [.warning]) ++ (if m.cableway.ok then [] else [.cableway])
    ++ (m.slots.toList.filterMap (fun x => if x.2.ok then none else some (ItemId.slot x.1)))
    ++ (if m.shifts.ok then [] else [.shifts]) ++ (if m.datum.ok || m.cell.isSome then [] else [.datum])

/-- The last assigned id: that of the slot item with the greatest write number, 0 when that number is 0 (R57). -/
def restoredLastId (slots : Four SlotItem) : Nat :=
  (slots.toList.foldl (fun (best : Nat × Nat) x => if best.1 < x.2.writeNumber then (x.2.writeNumber, x.2.lastId) else best)
    (0, 0)).2

/-- The rating store as it is restored (R40, R57, R60). -/
def Medium.rating (m : Medium) : RatingStore :=
  let slots := m.slots.map (fun i => i.restore Factory.slot)
  { elevation := match m.cell with | some e => e | none => m.datum.restore 0
    fixed := m.cell.isSome
    slots := slots
    lastId := restoredLastId slots
    frozen := false
    shifts := m.shifts.restore [] }

/-- The level acquisition unit after a reset (R1, R9, R11, R14, R17, R32). That there is no last start, and so no due point, until
the first acquisition of start-up sets it is the model's choice (R20; log entry 38). -/
def Medium.lau (m : Medium) (observation : Option Nat) : Lau :=
  let channels : PerChannel ChannelSettings :=
    PerChannel.zip (fun (i : Item ChannelSettings) f => i.restore f) m.channels Factory.channels
  { channels := channels
    status := channels.map (fun c => if c.enabled then some ⟨false, 0, 0⟩ else none)
    excitation := PerChannel.all false
    settings := m.acquisition.restore Factory.acquisition
    acq := none
    startOwed := false
    lastStart := none
    disagree := ⟨false, 0, 0⟩
    nextObs := match observation with | some n => nextObsNumber n | none => 1
    series := []
    hold := { state := .none, timer := none, manual := none, count := 0, limit := m.holdLimit.restore Factory.holdLimit } }

/-- The warning unit after a reset (R79, R100, R102); the silence timer is started with the restored time (R97). -/
def Medium.warningUnit (m : Medium) : Warning :=
  let timers := m.warning.restore Factory.warning
  { settings := m.thresholds.map (fun i => i.restore Factory.threshold)
    live := Eight.all ⟨false, 0⟩
    level := .clear
    owed := false
    firstTime := none
    deadline := .stopped
    silent := false
    silenceTimer := some (after 0 timers.silence)
    relay := false
    timers := timers }

/-- The cableway controller after a reset (R106, R107, R129); the encoders read what they read. -/
def Medium.cablewayUnit (m : Medium) (lines : Encoders) : Cableway :=
  let settings := m.cableway.restore Factory.cableway
  { settings := settings
    state := .idle
    holder := none
    plan := none
    run := none
    endCause := none
    latestHold := none
    remembered := none
    window := none
    motionTimer := none
    exposureTimer := none
    pauseTimer := none
    available := decide (0 < settings.span)
    drive := .off
    target := none
    lines := lines }

/-- The gauging unit after a reset (R130, R144). -/
def Gauging.reset (found : Option Nat) : Gauging :=
  { run := none, exposure := none, kept := [], result := .none, computing := none, list := []
    nextId := match found with | some n => nextGaugingId n | none => 1 }

/-! ### The two resets and the end of the start-up sequence (R196) -/

/-- The station time that power-on sets from the scan (R31). -/
def powerOnTime : Option Nat → Nat
  | none => 0
  | some t => if t < max32 then t + 1 else max32

/-- A reset and the first four steps of the start-up sequence, the clock given by the kind of reset (R196). -/
def State.resetWith (s : State) (r : ResetInputs) (clock : Scan → Clock) : State :=
  let medium := r.damagedItems.foldl Medium.damage (cutWrite s.store.medium r.settingsWrite s.store.queue)
  let x := scan (damagePages r.damagedHeaders r.damagedRecords (s.archive.cut r.archiveOp))
  let s1 : State :=
    { elapsed := 0
      startingUp := true
      clock := clock x
      lau := medium.lau x.observation
      rating := medium.rating
      warning := medium.warningUnit
      cable := medium.cablewayUnit s.cable.lines
      gauging := Gauging.reset x.gauging
      notices := { held := [], overflowed := false }
      archive := x.archive
      store := { medium := medium, queue := [], defaulted := medium.failing }
      ports := { l := PortL.reset, t := PortAsync.reset, f := PortAsync.reset, nextId := 0 }
      pending := s.pending }
  if r.holdLine then s1.enterHeld .startLine .nobody else s1

/-- POWER_ON (R31, R196). -/
def State.powerOn (s : State) (r : ResetInputs) : State :=
  s.resetWith r (fun x => { time := powerOnTime x.newestTime, quality := .uncertain, floor := x.floor, phase := 0 })

/-- PIN_RESET: the station time, its quality and the phase of the second are kept (R31, R196). -/
def State.pinReset (s : State) (r : ResetInputs) : State :=
  s.resetWith r (fun x =>
    { time := s.clock.time, quality := s.clock.quality, floor := x.floor, phase := s.clock.phase - s.elapsed })

/-- The archive's first operation after start-up (R172, R196). -/
def Archive.beginFirst (a : Archive) (elevation : Int) : Archive :=
  let b : Archive := { a with firstOp := .nothing }
  if a.state.isFailed then b
  else
    match a.firstOp with
    | .nothing => b.begin
    | .takeNext n => b.takeNext n elevation
    | .close n => { b with op := .closedMark n }
    | .openFirst n => { b with op := .header n elevation }
    | .eraseAgain n => { b with op := .erase n }

/-- START_UP_SEQUENCE_END: the ports begin to take messages, the archive's first operation begins, and the first
acquisition starts (R196, R197). -/
def State.startUpEnd (s : State) : State :=
  if s.startingUp then
    ({ s with startingUp := false, archive := s.archive.beginFirst s.rating.elevation } : State).startAcquisition
  else s

end Sys2Proof.Machine
end

