-- ==== Sys2Proof/Machine/Requests.lean ====
section
/-! DEFINITION. The meanings of the request commands: a request reaches its port whole (R177 to R184), the encoder lines
read first where its effect can read them, and the command ends with the lines pumped (R185). -/

namespace Sys2Proof.Machine

/-- A request's meaning with the encoder lines of its moment. -/
def State.requestAt (s : State) (p : Port) (tag : Byte) (r : Request) (x : Encoders) : Host.Outcome State Fault Refusal :=
  ((s.sample x).request p tag r).done

/-- A request's meaning. -/
def State.requestDone (s : State) (p : Port) (tag : Byte) (r : Request) : Host.Outcome State Fault Refusal :=
  (s.request p tag r).done

/-- ABORT_RUN (R124). -/
def execAbortRun (p : Port) (tag : Byte) (sized : Bool) (x : Encoders) (s : State) : Host.Outcome State Fault Refusal :=
  s.requestAt p tag (.abortRun sized) x

/-- ACCEPT_SHIFT (R154). -/
def execAcceptShift (p : Port) (tag : Byte) (id : Option Nat) (s : State) : Host.Outcome State Fault Refusal :=
  s.requestDone p tag (.acceptShift id)

/-- ACK_LEVEL (R93). -/
def execAckLevel (p : Port) (tag : Byte) (level : Option (Option Level)) (s : State) : Host.Outcome State Fault Refusal :=
  s.requestDone p tag (.ackLevel level)

/-- ACQUIRE_NOW (R24). -/
def execAcquireNow (p : Port) (tag : Byte) (sized : Bool) (x : Encoders) (s : State) : Host.Outcome State Fault Refusal :=
  s.requestAt p tag (.acquireNow sized) x

/-- CLAIM_CABLEWAY (R109). -/
def execClaimCableway (p : Port) (tag : Byte) (sized : Bool) (s : State) : Host.Outcome State Fault Refusal :=
  s.requestDone p tag (.claimCableway sized)

/-- CLEAR_FAULT (R127). -/
def execClearFault (p : Port) (tag : Byte) (sized : Bool) (s : State) : Host.Outcome State Fault Refusal :=
  s.requestDone p tag (.clearFault sized)

/-- COMMIT_RATING (R46). -/
def execCommitRating (p : Port) (tag : Byte) (f : Option RatingFields) (s : State) : Host.Outcome State Fault Refusal :=
  s.requestDone p tag (.commitRating f)

/-- DELETE_RATING (R50). -/
def execDeleteRating (p : Port) (tag : Byte) (id : Option Nat) (s : State) : Host.Outcome State Fault Refusal :=
  s.requestDone p tag (.deleteRating id)

/-- DELETE_SHIFT (R63). -/
def execDeleteShift (p : Port) (tag : Byte) (time : Option Nat) (s : State) : Host.Outcome State Fault Refusal :=
  s.requestDone p tag (.deleteShift time)

/-- ENTER_HOLD (R33). -/
def execEnterHold (p : Port) (tag : Byte) (sized : Bool) (s : State) : Host.Outcome State Fault Refusal :=
  s.requestDone p tag (.enterHold sized)

/-- FIX_DATUM (R42). -/
def execFixDatum (p : Port) (tag : Byte) (sized : Bool) (s : State) : Host.Outcome State Fault Refusal :=
  s.requestDone p tag (.fixDatum sized)

/-- FORCE_CLAIM (R110). -/
def execForceClaim (p : Port) (tag : Byte) (sized : Bool) (x : Encoders) (s : State) : Host.Outcome State Fault Refusal :=
  s.requestAt p tag (.forceClaim sized) x

/-- FREEZE_RATING (R51). -/
def execFreezeRating (p : Port) (tag : Byte) (sized : Bool) (s : State) : Host.Outcome State Fault Refusal :=
  s.requestDone p tag (.freezeRating sized)

/-- HOLD_ALIVE (R120). -/
def execHoldAlive (p : Port) (tag : Byte) (sized : Bool) (s : State) : Host.Outcome State Fault Refusal :=
  s.requestDone p tag (.holdAlive sized)

/-- LEAVE_HOLD (R35). -/
def execLeaveHold (p : Port) (tag : Byte) (sized : Bool) (s : State) : Host.Outcome State Fault Refusal :=
  s.requestDone p tag (.leaveHold sized)

/-- LOAD_PLAN (R113). -/
def execLoadPlan (p : Port) (tag : Byte) (f : Option PlanFields) (s : State) : Host.Outcome State Fault Refusal :=
  s.requestDone p tag (.loadPlan f)

/-- MANUAL_READING (R38). -/
def execManualReading (p : Port) (tag : Byte) (stage : Option Int) (x : Encoders) (s : State) : Host.Outcome State Fault Refusal :=
  s.requestAt p tag (.manualReading stage) x

/-- READ_ARCHIVE (R168). -/
def execReadArchive (p : Port) (tag : Byte) (f : Option ReadArchiveFields) (s : State) : Host.Outcome State Fault Refusal :=
  s.requestDone p tag (.readArchive f)

/-- READ_DESCRIPTOR (R199). -/
def execReadDescriptor (p : Port) (tag : Byte) (sized : Bool) (s : State) : Host.Outcome State Fault Refusal :=
  s.requestDone p tag (.readDescriptor sized)

/-- READ_GAUGING (R152). -/
def execReadGauging (p : Port) (tag : Byte) (id : Option Nat) (s : State) : Host.Outcome State Fault Refusal :=
  s.requestDone p tag (.readGauging id)

/-- READ_OBS (R19). -/
def execReadObs (p : Port) (tag : Byte) (count : Option Nat) (s : State) : Host.Outcome State Fault Refusal :=
  s.requestDone p tag (.readObs count)

/-- READ_SETTINGS (R198). -/
def execReadSettings (p : Port) (tag : Byte) (f : Option ReadSettingsFields) (s : State) : Host.Outcome State Fault Refusal :=
  s.requestDone p tag (.readSettings f)

/-- REJECT_SHIFT (R155). -/
def execRejectShift (p : Port) (tag : Byte) (id : Option Nat) (s : State) : Host.Outcome State Fault Refusal :=
  s.requestDone p tag (.rejectShift id)

/-- RELEASE_CABLEWAY (R111). -/
def execReleaseCableway (p : Port) (tag : Byte) (sized : Bool) (x : Encoders) (s : State) : Host.Outcome State Fault Refusal :=
  s.requestAt p tag (.releaseCableway sized) x

/-- RESUME (R122). -/
def execResume (p : Port) (tag : Byte) (sized : Bool) (x : Encoders) (s : State) : Host.Outcome State Fault Refusal :=
  s.requestAt p tag (.resume sized) x

/-- SET_ACQUISITION (R3). -/
def execSetAcquisition (p : Port) (tag : Byte) (f : Option AcqSettings) (x : Encoders) (s : State) : Host.Outcome State Fault Refusal :=
  s.requestAt p tag (.setAcquisition f) x

/-- SET_CABLEWAY (R104). -/
def execSetCableway (p : Port) (tag : Byte) (f : Option CablewaySettings) (s : State) : Host.Outcome State Fault Refusal :=
  s.requestDone p tag (.setCableway f)

/-- SET_CHANNEL (R2). -/
def execSetChannel (p : Port) (tag : Byte) (f : Option ChannelFields) (s : State) : Host.Outcome State Fault Refusal :=
  s.requestDone p tag (.setChannel f)

/-- SET_HOLD_LIMIT (R32). -/
def execSetHoldLimit (p : Port) (tag : Byte) (limit : Option Nat) (s : State) : Host.Outcome State Fault Refusal :=
  s.requestDone p tag (.setHoldLimit limit)

/-- SET_SHIFT (R61). -/
def execSetShift (p : Port) (tag : Byte) (f : Option ShiftFields) (s : State) : Host.Outcome State Fault Refusal :=
  s.requestDone p tag (.setShift f)

/-- SET_THRESHOLD (R80). -/
def execSetThreshold (p : Port) (tag : Byte) (f : Option ThresholdFields) (x : Encoders) (s : State) : Host.Outcome State Fault Refusal :=
  s.requestAt p tag (.setThreshold f) x

/-- SET_TIME (R29). -/
def execSetTime (p : Port) (tag : Byte) (time : Option Nat) (x : Encoders) (s : State) : Host.Outcome State Fault Refusal :=
  s.requestAt p tag (.setTime time) x

/-- SET_WARNING_TIMERS (R101). -/
def execSetWarningTimers (p : Port) (tag : Byte) (f : Option WarningTimers) (s : State) : Host.Outcome State Fault Refusal :=
  s.requestDone p tag (.setWarningTimers f)

/-- START_RUN (R114). -/
def execStartRun (p : Port) (tag : Byte) (sized : Bool) (x : Encoders) (s : State) : Host.Outcome State Fault Refusal :=
  s.requestAt p tag (.startRun sized) x

/-- STATUS (R186). -/
def execStatus (p : Port) (tag : Byte) (sized : Bool) (s : State) : Host.Outcome State Fault Refusal :=
  s.requestDone p tag (.status sized)

/-- VERIFY_ARCHIVE (R170). -/
def execVerifyArchive (p : Port) (tag : Byte) (f : Option VerifyFields) (s : State) : Host.Outcome State Fault Refusal :=
  s.requestDone p tag (.verifyArchive f)

/-- WRITE_DATUM (R41). -/
def execWriteDatum (p : Port) (tag : Byte) (elevation : Option Int) (s : State) : Host.Outcome State Fault Refusal :=
  s.requestDone p tag (.writeDatum elevation)

/-- CODE_NAMES_NO_REQUEST (R177, step 1). -/
def execCodeNamesNoRequest (p : Port) (code tag : Byte) (s : State) : Host.Outcome State Fault Refusal :=
  (s.receive p (.unknown code tag)).done

end Sys2Proof.Machine
end

