-- ==== Sys2Proof/Machine/Events.lean ====
section
/-! DEFINITION. The meanings of the event commands: each is its block's operation on the state, the encoder lines read first
where the event reads them, and the command ends with the lines pumped (R185). -/

namespace Sys2Proof.Machine

/-- POWER_ON (R196). -/
def execPowerOn (r : ResetInputs) (s : State) : Host.Outcome State Fault Refusal :=
  (s.powerOn r).done

/-- PIN_RESET (R196). -/
def execPinReset (r : ResetInputs) (s : State) : Host.Outcome State Fault Refusal :=
  (s.pinReset r).done

/-- DUE_POINT_REACHED (R21). -/
def execDuePointReached (x : Encoders) (s : State) : Host.Outcome State Fault Refusal :=
  ((s.sample x).dueReached).done

/-- WARM_UP_EXPIRY (R5). -/
def execWarmUpExpiry (r : Readings) (x : Encoders) (s : State) : Host.Outcome State Fault Refusal :=
  ((s.sample x).warmUpExpiry r).done

/-- BURST_READING (R5). -/
def execBurstReading (r : Readings) (x : Encoders) (s : State) : Host.Outcome State Fault Refusal :=
  ((s.sample x).burstReading r).done

/-- STATION_SECOND (R25). -/
def execStationSecond (x : Encoders) (s : State) : Host.Outcome State Fault Refusal :=
  ((s.sample x).stationSecond).done

/-- HOLD_TIMER_EXPIRY (R35). -/
def execHoldTimerExpiry (s : State) : Host.Outcome State Fault Refusal :=
  (s.holdExpiry).done

/-- DEADLINE_EXPIRY (R95). -/
def execDeadlineExpiry (s : State) : Host.Outcome State Fault Refusal :=
  (s.deadlineExpiry).done

/-- SILENCE_TIMER_EXPIRY (R98). -/
def execSilenceTimerExpiry (s : State) : Host.Outcome State Fault Refusal :=
  (s.silenceExpiry).done

/-- TRAVERSE_ARRIVAL (R105). -/
def execTraverseArrival (x : Encoders) (s : State) : Host.Outcome State Fault Refusal :=
  ((s.sample x).traverseArrival).done

/-- REEL_ARRIVAL (R105). -/
def execReelArrival (x : Encoders) (s : State) : Host.Outcome State Fault Refusal :=
  ((s.sample x).reelArrival).done

/-- SURFACE_CONTACT (R116). -/
def execSurfaceContact (x : Encoders) (s : State) : Host.Outcome State Fault Refusal :=
  ((s.sample x).surfaceContact).done

/-- BOTTOM_CONTACT (R116). -/
def execBottomContact (x : Encoders) (s : State) : Host.Outcome State Fault Refusal :=
  ((s.sample x).bottomContact).done

/-- REEL_DEPTH_REACHES_25000 (R116). -/
def execReelDepthReaches25000 (x : Encoders) (s : State) : Host.Outcome State Fault Refusal :=
  ((s.sample x).reelLimit).done

/-- METER_PULSE (R132). -/
def execMeterPulse (s : State) : Host.Outcome State Fault Refusal :=
  (s.meterPulse).done

/-- EXPOSURE_TIMER_EXPIRY (R118). -/
def execExposureTimerExpiry (x : Encoders) (s : State) : Host.Outcome State Fault Refusal :=
  ((s.sample x).exposureExpiry).done

/-- MOTION_TIMER_EXPIRY (R125). -/
def execMotionTimerExpiry (x : Encoders) (s : State) : Host.Outcome State Fault Refusal :=
  ((s.sample x).motionExpiry).done

/-- OVERLOAD (R125). -/
def execOverload (x : Encoders) (s : State) : Host.Outcome State Fault Refusal :=
  ((s.sample x).overloaded).done

/-- DEAD_MAN_WINDOW_EXPIRY (R121). -/
def execDeadManWindowExpiry (x : Encoders) (s : State) : Host.Outcome State Fault Refusal :=
  ((s.sample x).windowExpiry).done

/-- PAUSE_TIMER_EXPIRY (R122). -/
def execPauseTimerExpiry (x : Encoders) (s : State) : Host.Outcome State Fault Refusal :=
  ((s.sample x).pauseExpiry).done

/-- RECORD_PROGRAMMED (R161). -/
def execRecordProgrammed (s : State) : Host.Outcome State Fault Refusal :=
  (s.withWake s.wake.recordProgrammed).done

/-- ERASE_COMPLETE (R162). -/
def execEraseComplete (s : State) : Host.Outcome State Fault Refusal :=
  (s.withWake s.wake.eraseComplete).done

/-- PROGRAM_FAILURE (R163). -/
def execProgramFailure (left : Remnant) (s : State) : Host.Outcome State Fault Refusal :=
  (s.withWake (s.wake.programFailure left)).done

/-- ERASE_FAILURE (R163). -/
def execEraseFailure (left : Remnant) (s : State) : Host.Outcome State Fault Refusal :=
  (s.withWake (s.wake.eraseFailure left)).done

/-- VERIFICATION_END (R170). -/
def execVerificationEnd (p : Port) (s : State) : Host.Outcome State Fault Refusal :=
  (s.withWake (s.wake.verificationEnd p)).done

/-- SETTINGS_WRITE_COMPLETE (R194). -/
def execSettingsWriteComplete (s : State) : Host.Outcome State Fault Refusal :=
  (s.writeComplete).done

/-- READ_BACK_FAILED (R194). -/
def execReadBackFailed (s : State) : Host.Outcome State Fault Refusal :=
  (s.readBackFailed).done

/-- FRAME_BEGIN (R179). -/
def execFrameBegin (s : State) : Host.Outcome State Fault Refusal :=
  (s.frameBegin).done

/-- FRAME_END (R179). -/
def execFrameEnd (inbound : List Byte) (x : Encoders) (s : State) : Host.Outcome State Fault Refusal :=
  ((s.sample x).frameEnd (Inbound.judge inbound)).done

/-- BREAK (R183). -/
def execLineBreak (p : AsyncPort) (s : State) : Host.Outcome State Fault Refusal :=
  (s.lineBreak p).done

/-- LONG_GAP (R183). -/
def execLongGap (p : AsyncPort) (s : State) : Host.Outcome State Fault Refusal :=
  (s.longGap p).done

/-- FRAME_ERROR (R183). -/
def execFrameError (l : LineInput) (s : State) : Host.Outcome State Fault Refusal :=
  ((s.sample l.lines).frameError l.port l.characters).done

/-- BUSY (R184). -/
def execBusy (p : AsyncPort) (code tag : Byte) (s : State) : Host.Outcome State Fault Refusal :=
  (s.busy p code tag).done

/-- RESPONSE_SENT (R178). -/
def execResponseSent (p : AsyncPort) (s : State) : Host.Outcome State Fault Refusal :=
  (s.responseSent p).done

/-- NOTICE_PACKET_COMPLETE (R191). -/
def execNoticePacketComplete (s : State) : Host.Outcome State Fault Refusal :=
  (s.packetComplete).done

/-- START_UP_SEQUENCE_END (R196). -/
def execStartUpSequenceEnd (s : State) : Host.Outcome State Fault Refusal :=
  (s.startUpEnd).done

/-- PAGE_HEADER_PROGRAMMED (R162). -/
def execPageHeaderProgrammed (s : State) : Host.Outcome State Fault Refusal :=
  (s.withWake s.wake.pageHeaderProgrammed).done

/-- VERIFY_RECORD_CHECKED (R171). -/
def execVerifyRecordChecked (p : Port) (s : State) : Host.Outcome State Fault Refusal :=
  ({ s with archive := s.archive.verifyChecked p } : State).done

end Sys2Proof.Machine
end

