-- ==== Sys2Proof/Machine/Dispatch.lean ====
section
/-! DEFINITION. The dispatch: one arm for each command, each a direct call of the command's meaning. -/

namespace Sys2Proof.Machine

/-- The effect of a command on everything but the queue. -/
def exec (i : Instr) (s : State) : Host.Outcome State Fault Refusal :=
  match i with
  | .abortRun p tag sized x => Sys2Proof.Machine.execAbortRun p tag sized x s
  | .acceptShift p tag id => Sys2Proof.Machine.execAcceptShift p tag id s
  | .ackLevel p tag level => Sys2Proof.Machine.execAckLevel p tag level s
  | .acquireNow p tag sized x => Sys2Proof.Machine.execAcquireNow p tag sized x s
  | .claimCableway p tag sized => Sys2Proof.Machine.execClaimCableway p tag sized s
  | .clearFault p tag sized => Sys2Proof.Machine.execClearFault p tag sized s
  | .commitRating p tag f => Sys2Proof.Machine.execCommitRating p tag f s
  | .deleteRating p tag id => Sys2Proof.Machine.execDeleteRating p tag id s
  | .deleteShift p tag time => Sys2Proof.Machine.execDeleteShift p tag time s
  | .enterHold p tag sized => Sys2Proof.Machine.execEnterHold p tag sized s
  | .fixDatum p tag sized => Sys2Proof.Machine.execFixDatum p tag sized s
  | .forceClaim p tag sized x => Sys2Proof.Machine.execForceClaim p tag sized x s
  | .freezeRating p tag sized => Sys2Proof.Machine.execFreezeRating p tag sized s
  | .holdAlive p tag sized => Sys2Proof.Machine.execHoldAlive p tag sized s
  | .leaveHold p tag sized => Sys2Proof.Machine.execLeaveHold p tag sized s
  | .loadPlan p tag f => Sys2Proof.Machine.execLoadPlan p tag f s
  | .manualReading p tag stage x => Sys2Proof.Machine.execManualReading p tag stage x s
  | .readArchive p tag f => Sys2Proof.Machine.execReadArchive p tag f s
  | .readDescriptor p tag sized => Sys2Proof.Machine.execReadDescriptor p tag sized s
  | .readGauging p tag id => Sys2Proof.Machine.execReadGauging p tag id s
  | .readObs p tag count => Sys2Proof.Machine.execReadObs p tag count s
  | .readSettings p tag f => Sys2Proof.Machine.execReadSettings p tag f s
  | .rejectShift p tag id => Sys2Proof.Machine.execRejectShift p tag id s
  | .releaseCableway p tag sized x => Sys2Proof.Machine.execReleaseCableway p tag sized x s
  | .resume p tag sized x => Sys2Proof.Machine.execResume p tag sized x s
  | .setAcquisition p tag f x => Sys2Proof.Machine.execSetAcquisition p tag f x s
  | .setCableway p tag f => Sys2Proof.Machine.execSetCableway p tag f s
  | .setChannel p tag f => Sys2Proof.Machine.execSetChannel p tag f s
  | .setHoldLimit p tag limit => Sys2Proof.Machine.execSetHoldLimit p tag limit s
  | .setShift p tag f => Sys2Proof.Machine.execSetShift p tag f s
  | .setThreshold p tag f x => Sys2Proof.Machine.execSetThreshold p tag f x s
  | .setTime p tag time x => Sys2Proof.Machine.execSetTime p tag time x s
  | .setWarningTimers p tag f => Sys2Proof.Machine.execSetWarningTimers p tag f s
  | .startRun p tag sized x => Sys2Proof.Machine.execStartRun p tag sized x s
  | .status p tag sized => Sys2Proof.Machine.execStatus p tag sized s
  | .verifyArchive p tag f => Sys2Proof.Machine.execVerifyArchive p tag f s
  | .writeDatum p tag elevation => Sys2Proof.Machine.execWriteDatum p tag elevation s
  | .codeNamesNoRequest p code tag => Sys2Proof.Machine.execCodeNamesNoRequest p code tag s
  | .powerOn r => Sys2Proof.Machine.execPowerOn r s
  | .pinReset r => Sys2Proof.Machine.execPinReset r s
  | .duePointReached x => Sys2Proof.Machine.execDuePointReached x s
  | .warmUpExpiry r x => Sys2Proof.Machine.execWarmUpExpiry r x s
  | .burstReading r x => Sys2Proof.Machine.execBurstReading r x s
  | .stationSecond x => Sys2Proof.Machine.execStationSecond x s
  | .holdTimerExpiry => Sys2Proof.Machine.execHoldTimerExpiry s
  | .deadlineExpiry => Sys2Proof.Machine.execDeadlineExpiry s
  | .silenceTimerExpiry => Sys2Proof.Machine.execSilenceTimerExpiry s
  | .traverseArrival x => Sys2Proof.Machine.execTraverseArrival x s
  | .reelArrival x => Sys2Proof.Machine.execReelArrival x s
  | .surfaceContact x => Sys2Proof.Machine.execSurfaceContact x s
  | .bottomContact x => Sys2Proof.Machine.execBottomContact x s
  | .reelDepthReaches25000 x => Sys2Proof.Machine.execReelDepthReaches25000 x s
  | .meterPulse => Sys2Proof.Machine.execMeterPulse s
  | .exposureTimerExpiry x => Sys2Proof.Machine.execExposureTimerExpiry x s
  | .motionTimerExpiry x => Sys2Proof.Machine.execMotionTimerExpiry x s
  | .overload x => Sys2Proof.Machine.execOverload x s
  | .deadManWindowExpiry x => Sys2Proof.Machine.execDeadManWindowExpiry x s
  | .pauseTimerExpiry x => Sys2Proof.Machine.execPauseTimerExpiry x s
  | .recordProgrammed => Sys2Proof.Machine.execRecordProgrammed s
  | .eraseComplete => Sys2Proof.Machine.execEraseComplete s
  | .programFailure left => Sys2Proof.Machine.execProgramFailure left s
  | .eraseFailure left => Sys2Proof.Machine.execEraseFailure left s
  | .verificationEnd p => Sys2Proof.Machine.execVerificationEnd p s
  | .settingsWriteComplete => Sys2Proof.Machine.execSettingsWriteComplete s
  | .readBackFailed => Sys2Proof.Machine.execReadBackFailed s
  | .frameBegin => Sys2Proof.Machine.execFrameBegin s
  | .frameEnd inbound x => Sys2Proof.Machine.execFrameEnd inbound x s
  | .lineBreak p => Sys2Proof.Machine.execLineBreak p s
  | .longGap p => Sys2Proof.Machine.execLongGap p s
  | .frameError l => Sys2Proof.Machine.execFrameError l s
  | .busy p code tag => Sys2Proof.Machine.execBusy p code tag s
  | .responseSent p => Sys2Proof.Machine.execResponseSent p s
  | .noticePacketComplete => Sys2Proof.Machine.execNoticePacketComplete s
  | .startUpSequenceEnd => Sys2Proof.Machine.execStartUpSequenceEnd s
  | .pageHeaderProgrammed => Sys2Proof.Machine.execPageHeaderProgrammed s
  | .verifyRecordChecked p => Sys2Proof.Machine.execVerifyRecordChecked p s

end Sys2Proof.Machine
end

