-- ==== Sys2Proof/Machine/Step.lean ====
section
/-! DEFINITION. One step of the part: the command at the front of the queue, or a tick of the elapsed-time base. -/

namespace Sys2Proof.Machine

/-- One step: the command at the front of the queue is taken out and carried out. On an empty queue one hundredth of a
second passes (log entry 1). -/
def step (s : State) : Host.Outcome State Fault Refusal :=
  match s.pending with
  | [] => .next { s with elapsed := s.elapsed + 1 }
  | c :: rest => exec c { s with pending := rest }

/-- The state with the command that a word spells in front of its queue; no word spells one (Decode.lean). -/
def State.withFetchWord (s : State) (nbits w : Nat) : State :=
  match decodeTableWord nbits w with
  | none => s
  | some c => { s with pending := c :: s.pending }

end Sys2Proof.Machine
end

