-- ==== Sys2Proof/WellFormed.lean ====
section
/-! DEFINITION. The commands that can occur: every operand fits the field that carries it (R200), a code that names no
request is one (R200), and a page number is one of the 256 (R157). -/

namespace Sys2Proof

/-- A value that fits an unsigned field of `n` bytes. -/
def fits (n v : Nat) : Bool := decide (v < 256 ^ n)

/-- A value that fits a signed field of `n` bytes. -/
def fitsInt (n : Nat) (v : Int) : Bool :=
  decide (-((256 ^ n : Nat) : Int) ≤ 2 * v) && decide (2 * v < ((256 ^ n : Nat) : Int))

/-- An optional operand that fits when it is present. -/
def fitsOpt {α : Type} (f : α → Bool) : Option α → Bool
  | none => true
  | some a => f a

/-- The fields of SET_CHANNEL fit. -/
def ChannelFields.fits (f : ChannelFields) : Bool :=
  Sys2Proof.fits 1 f.preference && fitsInt 2 f.offset && Sys2Proof.fits 2 f.gain

/-- The fields of SET_ACQUISITION fit. -/
def AcqSettings.fits (f : AcqSettings) : Bool :=
  Sys2Proof.fits 1 f.warmUp && Sys2Proof.fits 1 f.burst && Sys2Proof.fits 2 f.window && Sys2Proof.fits 2 f.tolerance
    && Sys2Proof.fits 2 f.clear && Sys2Proof.fits 2 f.watch && Sys2Proof.fits 2 f.warn && Sys2Proof.fits 2 f.alarm

/-- The fields of SET_THRESHOLD fit. -/
def ThresholdFields.fits (f : ThresholdFields) : Bool :=
  Sys2Proof.fits 1 f.number && fitsInt 4 f.level && fitsInt 4 f.margin && Sys2Proof.fits 1 f.persistence

/-- The fields of SET_CABLEWAY fit. -/
def CablewaySettings.fits (f : CablewaySettings) : Bool :=
  Sys2Proof.fits 3 f.span && fitsInt 2 f.attendedLimit && fitsInt 2 f.unattendedLimit && Sys2Proof.fits 2 f.weightOffset
    && Sys2Proof.fits 2 f.twoPointMinimum && Sys2Proof.fits 1 f.deadMan && Sys2Proof.fits 2 f.pauseLimit
    && Sys2Proof.fits 2 f.traverseTimeout && Sys2Proof.fits 2 f.reelTimeout

/-- The fields of COMMIT_RATING fit, and its points fit one payload of 576 bytes (R175). -/
def RatingFields.fits (f : RatingFields) : Bool :=
  Sys2Proof.fits 4 f.effective && decide (5 + 6 * f.points.length ≤ 576)
    && f.points.all (fun q => fitsInt 2 q.stage && Sys2Proof.fits 4 q.discharge)

/-- The fields of LOAD_PLAN fit, and its verticals fit one payload of 576 bytes (R175). -/
def PlanFields.fits (f : PlanFields) : Bool :=
  Sys2Proof.fits 2 f.a && Sys2Proof.fits 1 f.b && decide (4 + 7 * f.verticals.length ≤ 576)
    && f.verticals.all (fun v => Sys2Proof.fits 3 v.distance && Sys2Proof.fits 1 v.exposure && Sys2Proof.fits 2 v.edgeDepth)

/-- The fields of a request fit its payload (R200). -/
def Request.fits : Request → Bool
  | .abortRun _ | .acquireNow _ | .claimCableway _ | .clearFault _ | .enterHold _ | .fixDatum _ | .forceClaim _
  | .freezeRating _ | .holdAlive _ | .leaveHold _ | .readDescriptor _ | .releaseCableway _ | .resume _ | .startRun _
  | .status _ | .ackLevel _ => true
  | .acceptShift id | .readGauging id | .rejectShift id => fitsOpt (Sys2Proof.fits 2) id
  | .commitRating f => fitsOpt RatingFields.fits f
  | .deleteRating id => fitsOpt (Sys2Proof.fits 1) id
  | .deleteShift time | .setTime time => fitsOpt (Sys2Proof.fits 4) time
  | .loadPlan f => fitsOpt PlanFields.fits f
  | .manualReading stage => fitsOpt (fitsInt 2) stage
  | .readArchive f => fitsOpt (fun f => Sys2Proof.fits 4 f.start && Sys2Proof.fits 1 f.count) f
  | .readObs count => fitsOpt (Sys2Proof.fits 1) count
  | .readSettings f => fitsOpt (fun f => fitsOpt (Sys2Proof.fits 1) f.slot) f
  | .setAcquisition f => fitsOpt AcqSettings.fits f
  | .setCableway f => fitsOpt CablewaySettings.fits f
  | .setChannel f => fitsOpt ChannelFields.fits f
  | .setHoldLimit limit => fitsOpt (Sys2Proof.fits 2) limit
  | .setShift f => fitsOpt (fun f => Sys2Proof.fits 4 f.time && fitsInt 2 f.shift) f
  | .setThreshold f => fitsOpt ThresholdFields.fits f
  | .setWarningTimers f => fitsOpt (fun f => Sys2Proof.fits 2 f.deadline && Sys2Proof.fits 4 f.silence) f
  | .verifyArchive f => fitsOpt (fun f => Sys2Proof.fits 4 f.start && Sys2Proof.fits 2 f.count) f
  | .writeDatum elevation => fitsOpt (fitsInt 4) elevation

/-- The port, the tag and the request of a request command; none for an event. -/
def Instr.sent : Instr → Option (Port × Byte × Request)
  | .abortRun p tag sized _ => some (p, tag, .abortRun sized)
  | .acceptShift p tag id => some (p, tag, .acceptShift id)
  | .ackLevel p tag level => some (p, tag, .ackLevel level)
  | .acquireNow p tag sized _ => some (p, tag, .acquireNow sized)
  | .claimCableway p tag sized => some (p, tag, .claimCableway sized)
  | .clearFault p tag sized => some (p, tag, .clearFault sized)
  | .commitRating p tag f => some (p, tag, .commitRating f)
  | .deleteRating p tag id => some (p, tag, .deleteRating id)
  | .deleteShift p tag time => some (p, tag, .deleteShift time)
  | .enterHold p tag sized => some (p, tag, .enterHold sized)
  | .fixDatum p tag sized => some (p, tag, .fixDatum sized)
  | .forceClaim p tag sized _ => some (p, tag, .forceClaim sized)
  | .freezeRating p tag sized => some (p, tag, .freezeRating sized)
  | .holdAlive p tag sized => some (p, tag, .holdAlive sized)
  | .leaveHold p tag sized => some (p, tag, .leaveHold sized)
  | .loadPlan p tag f => some (p, tag, .loadPlan f)
  | .manualReading p tag stage _ => some (p, tag, .manualReading stage)
  | .readArchive p tag f => some (p, tag, .readArchive f)
  | .readDescriptor p tag sized => some (p, tag, .readDescriptor sized)
  | .readGauging p tag id => some (p, tag, .readGauging id)
  | .readObs p tag count => some (p, tag, .readObs count)
  | .readSettings p tag f => some (p, tag, .readSettings f)
  | .rejectShift p tag id => some (p, tag, .rejectShift id)
  | .releaseCableway p tag sized _ => some (p, tag, .releaseCableway sized)
  | .resume p tag sized _ => some (p, tag, .resume sized)
  | .setAcquisition p tag f _ => some (p, tag, .setAcquisition f)
  | .setCableway p tag f => some (p, tag, .setCableway f)
  | .setChannel p tag f => some (p, tag, .setChannel f)
  | .setHoldLimit p tag limit => some (p, tag, .setHoldLimit limit)
  | .setShift p tag f => some (p, tag, .setShift f)
  | .setThreshold p tag f _ => some (p, tag, .setThreshold f)
  | .setTime p tag time _ => some (p, tag, .setTime time)
  | .setWarningTimers p tag f => some (p, tag, .setWarningTimers f)
  | .startRun p tag sized _ => some (p, tag, .startRun sized)
  | .status p tag sized => some (p, tag, .status sized)
  | .verifyArchive p tag f => some (p, tag, .verifyArchive f)
  | .writeDatum p tag elevation => some (p, tag, .writeDatum elevation)
  | .codeNamesNoRequest .. | .powerOn _ | .pinReset _ | .duePointReached _ | .warmUpExpiry .. | .burstReading ..
  | .stationSecond _ | .holdTimerExpiry | .deadlineExpiry | .silenceTimerExpiry | .traverseArrival _ | .reelArrival _
  | .surfaceContact _ | .bottomContact _ | .reelDepthReaches25000 _ | .meterPulse | .exposureTimerExpiry _
  | .motionTimerExpiry _ | .overload _ | .deadManWindowExpiry _ | .pauseTimerExpiry _ | .recordProgrammed | .eraseComplete
  | .programFailure _ | .eraseFailure _ | .verificationEnd _ | .settingsWriteComplete | .readBackFailed | .frameBegin
  | .frameEnd .. | .lineBreak _ | .longGap _ | .frameError _ | .busy .. | .responseSent _ | .noticePacketComplete
  | .startUpSequenceEnd | .pageHeaderProgrammed | .verifyRecordChecked _ => none

/-- The request that a request command carries; none for an event. -/
def Instr.request (i : Instr) : Option Request := i.sent.map (fun x => x.2.2)

/-- The encoder lines that a command reads; none for a command that reads none. -/
def Instr.lines : Instr → Option Encoders
  | .abortRun _ _ _ x => some x
  | .acquireNow _ _ _ x => some x
  | .forceClaim _ _ _ x => some x
  | .manualReading _ _ _ x => some x
  | .releaseCableway _ _ _ x => some x
  | .resume _ _ _ x => some x
  | .setAcquisition _ _ _ x => some x
  | .setThreshold _ _ _ x => some x
  | .setTime _ _ _ x => some x
  | .startRun _ _ _ x => some x
  | .warmUpExpiry _ x | .burstReading _ x | .frameEnd _ x => some x
  | .frameError l => some l.lines
  | .duePointReached x | .stationSecond x | .traverseArrival x | .reelArrival x | .surfaceContact x | .bottomContact x
  | .reelDepthReaches25000 x | .exposureTimerExpiry x | .motionTimerExpiry x | .overload x | .deadManWindowExpiry x
  | .pauseTimerExpiry x => some x
  | .acceptShift .. | .ackLevel .. | .claimCableway .. | .clearFault .. | .commitRating .. | .deleteRating .. | .deleteShift ..
  | .enterHold .. | .fixDatum .. | .freezeRating .. | .holdAlive .. | .leaveHold .. | .loadPlan .. | .readArchive ..
  | .readDescriptor .. | .readGauging .. | .readObs .. | .readSettings .. | .rejectShift .. | .setCableway .. | .setChannel ..
  | .setHoldLimit .. | .setShift .. | .setWarningTimers .. | .status .. | .verifyArchive .. | .writeDatum ..
  | .codeNamesNoRequest .. | .powerOn _ | .pinReset _ | .holdTimerExpiry | .deadlineExpiry | .silenceTimerExpiry | .meterPulse
  | .recordProgrammed | .eraseComplete | .programFailure _ | .eraseFailure _ | .verificationEnd _ | .settingsWriteComplete
  | .readBackFailed | .frameBegin | .lineBreak _ | .longGap _ | .busy .. | .responseSent _
  | .noticePacketComplete | .startUpSequenceEnd | .pageHeaderProgrammed | .verifyRecordChecked _ => none

/-- A code that names no request: 0, or 38 to 254 (R200). -/
def noRequestCode (code : Byte) : Bool := decide (code = 0) || (decide (38 ≤ code.toNat) && decide (code.toNat ≤ 254))

/-- The pages that a reset finds damaged are pages of the archive. -/
def ResetInputs.wellFormed (r : ResetInputs) : Bool := r.damagedHeaders.all (fun n => decide (n < 256))

/-- The commands that can occur. -/
def Instr.wellFormed (i : Instr) : Bool :=
  match i.request with
  | some r => r.fits
  | none =>
    match i with
    | .codeNamesNoRequest _ code _ => noRequestCode code
    | .powerOn r => r.wellFormed
    | .pinReset r => r.wellFormed
    | .busy _ code _ => decide (code ≠ 255)
    | _ => true

end Sys2Proof
end

