-- ==== Sys2Proof/Safety.lean ====
section
/-! DEFINITION. The invariants of the part that the spec states of its blocks, and the small words the statements are written
in: when a port takes a message, when programming has begun, what a read of the archive answers, and what a command leaves as it
was. -/

namespace Sys2Proof.Machine

/-! ### Invariants -/

/-- Whether the times of a list of observations strictly increase. -/
def timesIncrease : List Observation → Bool
  | [] => true
  | [_] => true
  | a :: b :: l => decide (a.time < b.time) && timesIncrease (b :: l)

/-- The stage series holds at most 256 observations, their times strictly increase, and neither the observation floor nor
the station time lies before the newest of them (R17, R28). While the start-up sequence runs the series is empty, and no
acquisition is in flight, owed or on record (R196; log entry 38). -/
def SeriesOk (s : State) : Prop :=
  s.lau.series.length ≤ seriesCapacity ∧ timesIncrease s.lau.series = true ∧
    (∀ o, s.lau.series.getLast? = some o → o.time ≤ s.clock.floor ∧ o.time ≤ s.clock.time) ∧
    (s.startingUp = true →
      s.lau.series = [] ∧ s.lau.acq = none ∧ s.lau.startOwed = false ∧ s.lau.lastStart = none ∧ s.ports.l.frame = none)

/-- The level is the one the records give (R85); the relay is in its required state (R99); an acknowledgement is owed
exactly when the deadline is not STOPPED, and only above CLEAR (R92); the silence timer runs exactly while the link is
LIVE (R97, R98). -/
def WarningOk (s : State) : Prop :=
  s.warning.level = s.warning.formed ∧ s.warning.relay = s.warning.relayRequired ∧
    (s.warning.owed = true ↔ s.warning.deadline ≠ .stopped) ∧ (s.warning.owed = true → s.warning.level ≠ .clear) ∧
    s.warning.firstTime.isSome = s.warning.owed ∧ (s.warning.silent = true ↔ s.warning.silenceTimer = none)

/-- Whether a run state is one in which the drives can be energised (R105). -/
def RunState.drives : RunState → Bool
  | .traversing | .sounding | .positioning | .raising | .retrieving => true
  | .idle | .claimed | .counting | .paused | .faulted | .stuck => false

/-- Whether a run is in progress in a run state: the measuring and moving states and PAUSED (R107). -/
def RunState.running (st : RunState) : Bool := st.measuring || decide (st = .paused)

/-- Whether a run state can have a holder: every state but IDLE and STUCK, and RETRIEVING may have one or not (R109). -/
def RunState.held : RunState → Option Bool
  | .idle | .stuck => some false
  | .retrieving => none
  | .claimed | .traversing | .sounding | .positioning | .counting | .raising | .paused | .faulted => some true

/-- The drives are energised only in the five states of R105; a run is in progress exactly in the measuring and moving
states and PAUSED (R107), with its run record (R130); a holder is present as the state asks, and it is Port L or Port F
(R107, R109); the window is open only in a measuring or moving state of an attended hold (R120); only an attended hold is
PAUSED (R120, R121), and the state remembered then is a measuring or moving one (R121); the motion timer runs exactly while a
motion state lasts; an exposure is open exactly in COUNTING (R118, R132). -/
def CablewayOk (s : State) : Prop :=
  (s.cable.drive ≠ .off → s.cable.state.drives = true) ∧
    s.cable.run.isSome = s.cable.state.running ∧ s.gauging.run.isSome = s.cable.run.isSome ∧
    (∀ b, s.cable.state.held = some b → s.cable.holder.isSome = b) ∧ s.cable.holder ≠ some .T ∧
    (∀ r, s.cable.run = some r → s.cable.holder.map holdKind = some r.kind) ∧
    (s.cable.window.isSome = true → s.cable.state.measuring = true ∧ s.cable.holder = some .F) ∧
    (s.cable.state = .paused → s.cable.holder = some .F) ∧
    (∀ m, s.cable.remembered = some m → m.state.measuring = true) ∧ s.cable.motionTimer.isSome = s.cable.state.drives ∧
    s.gauging.exposure.isSome = decide (s.cable.state = .counting)

/-- The number of notices of a list that satisfy a test. -/
def countNotices (f : Notice → Bool) (l : List Notice) : Nat := (l.filter f).length

/-- The notice queue holds at most 16 notices, at most one LEVEL notice, and at most one in transmission, which none is
unless Port T sends a packet (R188). -/
def NoticesOk (s : State) : Prop :=
  s.notices.held.length ≤ noticeCapacity ∧ countNotices Notice.isLevel s.notices.held ≤ 1 ∧
    countNotices (·.inTransmission) s.notices.held ≤ 1 ∧
    (countNotices (·.inTransmission) s.notices.held = 1 → ∃ n, s.ports.t.sending = some (.notice n))

/-- The page an operation works on. -/
def ArchiveOp.page : ArchiveOp → Option Nat
  | .idle => none
  | .record n | .header n _ | .closedMark n | .retiredMark n | .erase n => some n

/-- The page the first operation after start-up works on. -/
def FirstOp.page : FirstOp → Option Nat
  | .nothing => none
  | .takeNext n | .close n | .openFirst n | .eraseAgain n => some n

/-- The page list is canonical, and the operations name pages of the archive (R157); the write queue holds at most 32
records and the waiting line at most 16 free ones (R160, R167). -/
def ArchiveOk (s : State) : Prop :=
  pagesWf s.archive.pages = true ∧ (∀ n, s.archive.op.page = some n → n < pageCount) ∧
    (∀ n, s.archive.firstOp.page = some n → n < pageCount) ∧ s.archive.queue.length ≤ queueCapacity ∧
    freeCount s.archive.waiting ≤ freeCapacity

/-- Whether the times of a shift table strictly increase. -/
def shiftsIncrease : List ShiftEntry → Bool
  | [] => true
  | [_] => true
  | a :: b :: l => decide (a.time < b.time) && shiftsIncrease (b :: l)

/-- A shift table holds at most 16 entries in strictly increasing order of time (R59). -/
def tableOk (l : List ShiftEntry) : Prop := l.length ≤ shiftCapacity ∧ shiftsIncrease l = true

/-- The shift table is in order (R59), and so is every copy of it that the settings store holds or is about to hold. -/
def ShiftsOk (s : State) : Prop :=
  tableOk s.rating.shifts ∧ (s.store.medium.shifts.ok = true → tableOk s.store.medium.shifts.value) ∧
    ∀ w ∈ s.store.queue, ∀ l, w.data = .shifts l → tableOk l

/-! ### When a port takes a message -/

/-- Whether a message that arrives now on a port is taken: on Port L a frame is in progress and the slot is FREE at its end
(R179); on Ports T and F a message is being received after the start-up sequence and the slot is FREE (R183, R184, R197). -/
def State.takes (s : State) : Port → Bool
  | .L =>
    match s.ports.l.frame with
    | none => false
    | some r => r.response.answers || s.ports.l.slot.isNone
  | .T => s.hears .T && s.ports.t.slot.isNone
  | .F => s.hears .F && s.ports.f.slot.isNone

/-- The state in which a message that arrives on a port is taken: on Port L the frame has ended, on Ports T and F the message
has been received, which on Port T restarts the silence timer (R97, R179, R183). -/
def State.heard (s : State) : Port → State
  | .L =>
    match s.ports.l.frame with
    | none => s
    | some r => { s with ports := { s.ports with l := s.ports.l.sent r.response } }
  | .T => s.received .T
  | .F => s.received .F

/-- The state with the encoder lines that a command reads first (log entry 5). -/
def State.sampled (s : State) (i : Instr) : State :=
  match i.lines with
  | none => s
  | some x => s.sample x

/-! ### Answers -/

/-- A response is ready to go out on its port, or is being sent. -/
def Answers (t : State) (r : Response) : Port → Prop
  | .L => t.ports.l.answer = some r
  | .T => r ∈ t.ports.t.ready ∨ ∃ m, t.ports.t.sending = some (.response m) ∧ m.response = r
  | .F => r ∈ t.ports.f.ready ∨ ∃ m, t.ports.f.sending = some (.response m) ∧ m.response = r

/-- The request of a code and tag, owed on a port, has been answered with a result and a payload. -/
def Answered (t : State) (p : Port) (code : Nat) (tag : Byte) (result : Result) (payload : Payload) : Prop :=
  Answers t { code := BitVec.ofNat 8 code, tag := tag, result := result, payload := payload, answers := true } p ∧
    ∃ o, t.ports.slot p = some o ∧ o.answered = true

/-- The request of a code and tag is owed on a port and not answered: what its answer waits for, and its payload then. -/
def Owes (t : State) (p : Port) (code : Nat) (tag : Byte) (write record : Bool) (payload : Payload) : Prop :=
  ∃ o, t.ports.slot p = some o ∧ o.code = BitVec.ofNat 8 code ∧ o.tag = tag ∧ o.answered = false ∧ o.waitWrite = write ∧
    o.waitRecord = record ∧ o.payload = payload

/-! ### Records and writes handed on -/

/-- What a record in the queue is, without the index it may take. -/
def QueuedRecord.content (q : QueuedRecord) : Record × Nat × Owner := (q.record, q.time, q.owner)

/-- Whether a record handed now enters the write queue at once: the archive is not FAILED, the queue has room, and nothing
waits before it (R160). -/
def Archive.hasRoom (a : Archive) : Bool :=
  !a.state.isFailed && decide (a.queue.length < queueCapacity) && a.waiting.isEmpty

/-- Of the archive, one record has joined the write queue as its newest, with its header time; but for programming that may
have begun, with the index it gives the queue's head, nothing else has changed. -/
def RecordQueued (s t : State) (r : Record) : Prop :=
  t.archive.queue.map (fun q => (q.record, q.time)) = s.archive.queue.map (fun q => (q.record, q.time)) ++ [(r, t.clock.time)] ∧
    { t.archive with queue := s.archive.queue, op := s.archive.op, nextIndex := s.archive.nextIndex } = s.archive

/-- Of the settings store, one write for a port has joined the queue as its newest, and nothing else has changed. -/
def WriteQueued (s t : State) (p : Port) (d : WriteData) : Prop :=
  t.store.queue.map (fun w => (w.data, w.port, w.failures)) =
      s.store.queue.map (fun w => (w.data, w.port, w.failures)) ++ [(d, p, 0)] ∧
    { t.store with queue := s.store.queue } = s.store

/-- Whether a record and a notice that are handed now enter their queues at once: the archive takes the record, the notice
queue is not full, and it holds no LEVEL notice that a new one would replace (R160, R189, R190). -/
def State.hasRoom (s : State) : Bool :=
  s.archive.hasRoom && decide (s.notices.held.length < noticeCapacity) && !s.notices.held.any Notice.isLevel

/-- The state with a notice as the newest of its queue. -/
def State.told (s : State) (b : NoticeBody) : State :=
  { s with
    notices := { s.notices with held := s.notices.held ++ [{ time := s.clock.time, body := b, inTransmission := false }] } }

/-! ### Programming that begins -/

/-- The programming of the queue's head has begun on the OPEN page. Where the record fits in what the page's header of 16 bytes and
its records leave of 4,096, it is the record's own, with the next archive index unless it took one at an earlier attempt; where it
does not fit, it is that of the page's closed mark, and the record stays at the head (R159, R161, R162). -/
def ProgrammingBegun (a b : Archive) (n : Nat) (q : QueuedRecord) (rest : List QueuedRecord) : Prop :=
  ∀ used, used = 16 + ((pageAt a.pages n).records.map (fun r => r.record.length)).sum →
    (used + q.record.length ≤ 4096 →
      (∀ k, q.index = some k → b = { a with op := .record n, queue := q :: rest }) ∧
      (q.index = none →
        b = { a with op := .record n, queue := { q with index := some a.nextIndex } :: rest, nextIndex := a.nextIndex + 1 })) ∧
    (4096 < used + q.record.length → b = { a with op := .closedMark n, queue := q :: rest })

/-! ### What a read of the archive meets and answers -/

/-- The records that reading meets: those standing on the held pages, each page's up to the first that fails its check, the pages
in order of their sequence numbers, and none behind the last that passes its check, which is the newest durable one (log entry
20); a record that fails its check with an index one above that of the record before it (R168, R169). A page is held when it is
OPEN or FULL with a header that passes its check. -/
def ItemsOf (a : Archive) (items : List StoredRecord) : Prop :=
  ∃ held : List (Nat × Page),
    held.Perm
        (a.pages.filter (fun e =>
          (decide (e.2.status = .opened) || decide (e.2.status = .full)) && (e.2.header.map (·.checkOk)).getD false)) ∧
      held.Pairwise (fun e f => e.2.sequence ≤ f.2.sequence) ∧
      ∀ readable,
        readable =
          held.flatMap (fun e =>
            e.2.records.take ((e.2.records.takeWhile (·.intact)).length + 1)) →
      ∀ standing beyond,
        readable = standing ++ beyond → (∀ r ∈ beyond, r.intact = false) →
        (∀ r, standing.getLast? = some r → r.intact = true) →
        items.length = standing.length ∧
          ∀ i r, standing[i]? = some r →
            (r.intact = true → items[i]? = some r) ∧
            (r.intact = false →
              ∃ k, items[i]? = some { r with index := k } ∧
                ((∃ q ∈ standing.take i, q.intact = true) → ∃ q, items[i - 1]? = some q ∧ k = q.index + 1))

/-- The answer to a read of the records met, from a start index with a count and a filter. The records met from the start index on
are examined, in order, those that fail their check set aside, until the count has been returned, 4,096 have been examined, the
next to be returned does not fit, or none is left; those that match the filter are returned, whole, in no more than 565 bytes. The
next index is one more than that of the last record examined, or the index of the record that did not fit, or the start index. The
marks: EARLIER_GONE where the oldest record met that passes its check lies above the start index, INDEX_JUMP where two records
examined in succession are not consecutive, DAMAGED with the index of the first damaged one met (R168, R169). -/
def ReadAnswers (items : List StoredRecord) (start count : Nat) (f : KindFilter) (x : ArchiveAnswer) : Prop :=
  ∀ l, l = items.filter (fun r => start ≤ r.index) →
  ∀ returned : List StoredRecord → List StoredRecord, returned = List.filter (fun r => r.intact && kindMatches f r.record) →
  ∀ bytes : List StoredRecord → Nat, bytes = (fun m => (m.map (fun r => r.record.length)).sum) →
  ∃ k, k ≤ l.length ∧ ∀ met, met = l.take k → ∀ examined, examined = met.filter (·.intact) →
    x.records = returned met ∧ bytes x.records ≤ 565 ∧
    (∀ j, j < k → (returned (l.take j)).length < count ∧ ((l.take j).filter (·.intact)).length < 4096) ∧
    (∀ r, l[k]? = some r → x.records.length < count → examined.length < 4096 →
      r.intact = true ∧ kindMatches f r.record = true ∧ 565 < bytes x.records + r.record.length ∧ x.nextIndex = r.index) ∧
    (k = l.length ∨ count ≤ x.records.length ∨ 4096 ≤ examined.length →
      x.nextIndex = match examined.getLast? with | none => start | some r => r.index + 1) ∧
    (x.earlierGone = true ↔ ∃ r, items.find? (·.intact) = some r ∧ start < r.index) ∧
    (x.indexJump = true ↔ ∃ before r r' after, examined = before ++ r :: r' :: after ∧ r.index + 1 ≠ r'.index) ∧
    (x.damaged = true ↔ ∃ r ∈ met, r.intact = false) ∧
    x.damagedIndex = (met.find? (fun r => !r.intact)).map (·.index)

/-! ### What a command leaves as it was -/

/-- Everything but the ports and the notice queue's transmission marks is as it was: what a request that only reads or is
refused leaves, beside what hearing it did. -/
def SameBlocks (s t : State) : Prop :=
  t.elapsed = s.elapsed ∧ t.startingUp = s.startingUp ∧ t.clock = s.clock ∧ t.lau = s.lau ∧ t.rating = s.rating ∧
    t.warning = s.warning ∧ t.cable = s.cable ∧ t.gauging = s.gauging ∧ t.archive = s.archive ∧ t.store = s.store ∧
    t.pending = s.pending ∧ t.notices.overflowed = s.notices.overflowed ∧
    t.notices.held.map (fun n => (n.time, n.body)) = s.notices.held.map (fun n => (n.time, n.body))

/-- The other ports keep their slots, and Port L keeps everything when the request is not its own. -/
def SamePorts (s t : State) (p : Port) : Prop :=
  (∀ q, q ≠ p → t.ports.slot q = s.ports.slot q) ∧ (p ≠ .L → t.ports.l = s.ports.l) ∧
    t.ports.t.receiving = s.ports.t.receiving ∧ t.ports.f.receiving = s.ports.f.receiving ∧
    t.ports.t.heard = s.ports.t.heard ∧ t.ports.f.heard = s.ports.f.heard ∧
    t.ports.t.first = s.ports.t.first ∧ t.ports.f.first = s.ports.f.first

/-- Of Port T or F nothing has changed, but that a free line has begun the oldest waiting response or, on Port T, a notice
packet (R184, R185). -/
def SameAsync (a b : PortAsync) : Prop :=
  b.receiving = a.receiving ∧ b.heard = a.heard ∧ b.slot = a.slot ∧ b.first = a.first ∧
    (∀ m, a.sending = some m → b.sending = some m ∧ b.ready = a.ready) ∧
    (a.sending = none → a.ready = [] → b.ready = [] ∧ ∀ m, b.sending = some m → ∃ n, m = .notice n) ∧
    (a.sending = none → ∀ r rest, a.ready = r :: rest →
      b.ready = rest ∧ ∃ m, b.sending = some (.response m) ∧ m.response = r)

/-- The state is the expected one but for one record handed to the archive. -/
def Recorded (s t : State) (r : Record) : Prop := SameBlocks { s with archive := t.archive } t ∧ RecordQueued s t r

/-- The state is the expected one but for one write handed to the settings store. -/
def Stored (s t : State) (p : Port) (d : WriteData) : Prop := SameBlocks { s with store := t.store } t ∧ WriteQueued s t p d

/-- The state is the expected one but for one write handed to the settings store and one record handed to the archive. -/
def StoredAndRecorded (s t : State) (p : Port) (d : WriteData) (r : Record) : Prop :=
  SameBlocks { s with archive := t.archive, store := t.store } t ∧ WriteQueued s t p d ∧ RecordQueued s t r

/-! ### The end of a run -/

/-- The cableway after a run's end: all drives off, no run and no timer, the dead-man window closed (R119). -/
def Cableway.ended (c : Cableway) (cause : EndCause) : Cableway :=
  { c with
    drive := .off, target := none, motionTimer := none, run := none, endCause := some cause, remembered := none
    window := none, exposureTimer := none, pauseTimer := none }

/-- A run has ended in a state: the gauging unit holds the formed record and is COMPUTING, the record is in the write
queue, a cause but COMPLETE has given its CABLEWAY notice, and the cableway is the one given (R119, R128, R135, R146). -/
def RunEnded (s t : State) (cause : EndCause) (c : Cableway) : Prop :=
  ∃ run, s.cable.run = some run ∧ ∃ rr, s.gauging.run = some rr ∧
    Recorded
      { (match endEvent cause with
          | none => s
          | some e => s.told (.cableway e cause s.cable.latestHold (some (run.vertical + 1)) s.cable.lines)) with
        cable := c
        gauging :=
          { s.gauging with
            run := none, exposure := none, kept := [], result := .computing, computing := some (s.formRecord rr cause)
            nextId := nextGaugingId s.gauging.nextId } }
      t (.gauging (s.formRecord rr cause))

/-! ### The steps of a run that a stowed weight begins -/

/-- A run at a vertical of which nothing is recorded yet (R115, R116). -/
def Run.fresh (r : Run) (vertical : Nat) : Run :=
  { r with
    vertical := vertical, sample := 0, zs := none, zb := none, sounded := .searching, points := [], methodChanged := false
    depthLimited := false, homing := false }

/-- From a state with the weight stowed, the carriage has been sent to the run's present vertical: TRAVERSING toward it, or
SOUNDING at once when it stands within 50 mm of it (R105, R115, R116). -/
def SentToVertical (s t : State) (r : Run) : Prop :=
  ∀ d : Int, d = ((s.cable.vertical r.vertical).distance : Nat) →
    (50 < (s.cable.lines.carriage - d).natAbs →
      SameBlocks
        { s with
          cable :=
            { s.cable with
              run := some r, state := .traversing, target := some (.carriage d)
              drive := if s.cable.lines.carriage < d then .traverseOut else .traverseIn
              motionTimer := some (s.elapsed + 100 * s.cable.settings.traverseTimeout) } } t) ∧
    ((s.cable.lines.carriage - d).natAbs ≤ 50 →
      SameBlocks
        { s with
          cable :=
            { s.cable with
              run := some (r.fresh r.vertical), state := .sounding, target := none, drive := .reelDown
              motionTimer := some (s.elapsed + 100 * s.cable.settings.reelTimeout) } } t)

/-- The weight of a run is stowed at the end of a RAISING. One that only brought it home sends the carriage to the present
vertical. Any other completes the vertical: its result is added with the station time of the completion, and the carriage is sent to
the next measured vertical of the plan, or, where there is none, the run ends with cause COMPLETE and retrieves (R115, R119,
R126, R134). -/
def StowedInRun (s t : State) (r : Run) : Prop :=
  (r.homing = true → SentToVertical s t { r with homing := false }) ∧
  (r.homing = false → ∀ rr, s.gauging.run = some rr →
    ∀ g : Gauging,
      g =
        { s.gauging with
          run := some { rr with results := rr.results ++ [formResult rr s.gauging.kept r], lastCompletion := some s.clock.time }
          kept := [] } →
    (∀ k, s.cable.nextMeasured (r.vertical + 1) = some k → SentToVertical { s with gauging := g } t (r.fresh k)) ∧
    (s.cable.nextMeasured (r.vertical + 1) = none → s.hasRoom = true →
      RunEnded { s with gauging := g } t .complete ((s.cable.ended .complete).retrieve s.elapsed)))

/-- Whether the stowed weight of a run leaves the ports as they are for certain: everywhere but at the end of a run without room for
its record, whose report can answer reads (R148, R165). -/
def State.stowsQuietly (s : State) (r : Run) : Bool :=
  r.homing || (s.cable.nextMeasured (r.vertical + 1)).isSome || s.hasRoom

/-! ### An acquisition started -/

/-- The level acquisition unit after a start that powers the sensors: the records of the enabled channels captured, their
excitation on, the start noted (R4). -/
def Lau.started (l : Lau) (now : Nat) : Lau :=
  { l with
    acq :=
      some
        { phase := if l.settings.warmUp = 0 then .burst else .warming
          capture := l.channels.map (fun c => if c.enabled then some { settings := c, readings := [], stayed := true } else none)
          warmUp := l.settings.warmUp, burst := l.settings.burst, start := now, taken := 0 }
    excitation := l.channels.map (fun c => c.enabled)
    lastStart := some now
    startOwed := false }

/-- What a held acquisition finds: the manual reading in force, or nothing (R37). -/
def Lau.heldFound (l : Lau) : Found :=
  { stage := l.hold.manual, source := if l.hold.manual.isSome then some .manual else none, range := false
    manual := l.hold.manual.isSome, events := [] }

/-- What an acquisition without a channel finds: a MISSING observation (R4, R10). -/
def nothingFound : Found := { stage := none, source := none, range := false, manual := false, events := [] }

/-! ### An observation formed -/

/-- What a level change from one level to the level that stands has made of the acknowledgement owed, its first time and its
deadline: an escalation owes one and starts a STOPPED deadline, a de-escalation to CLEAR drops it (R87, R88). -/
def AcknowledgementFollows (s t : State) : Prop :=
  (levelRank s.warning.level < levelRank t.warning.level →
    t.warning.owed = true ∧
    (s.warning.deadline = .stopped →
      t.warning.firstTime = some s.clock.time ∧
        t.warning.deadline = .running (s.elapsed + 100 * s.warning.timers.deadline)) ∧
    (s.warning.deadline ≠ .stopped →
      t.warning.firstTime = s.warning.firstTime ∧ t.warning.deadline = s.warning.deadline)) ∧
  (levelRank t.warning.level < levelRank s.warning.level →
    (t.warning.level = .clear → t.warning.owed = false ∧ t.warning.firstTime = none ∧ t.warning.deadline = .stopped) ∧
    (t.warning.level ≠ .clear →
      t.warning.owed = s.warning.owed ∧ t.warning.firstTime = s.warning.firstTime ∧ t.warning.deadline = s.warning.deadline))

/-- What the append of an observation has done beyond its record. Without a level change the warning unit has only its records
evaluated. A change has the effects of R87 and R88 on the acknowledgement, the relay follows (R99), the LEVEL notice comes after the
SENSOR notices and the LEVEL record after the OBS record (R89, R90; log entry 8), and a due point that the new interval brings to
the present or the past owes a start (R22, R23; log entry 10). Without a run in progress the cableway and the gauging unit are as
they were, and so is a run that neither the stage nor the level ends (R91, R123). -/
def AppendEffects (s t : State) (f : Found) (o : Observation) : Prop :=
  (t.warning.level = s.warning.level → t.warning = { s.warning with live := t.warning.live }) ∧
  (t.warning.level ≠ s.warning.level →
    t.warning =
        { s.warning with
          live := t.warning.live, level := t.warning.level, owed := t.warning.owed, firstTime := t.warning.firstTime
          deadline := t.warning.deadline, relay := t.warning.relayRequired } ∧
      AcknowledgementFollows s t ∧
      (s.archive.hasRoom = true → s.archive.queue.length + 2 ≤ 32 →
        (s.archive.queue.map (fun q => (q.record, q.time)) ++
            [(.obs o, s.clock.time),
              (.level (t.warning.body (.changed s.warning.level (.observation o.number))), s.clock.time)]) <+:
          t.archive.queue.map (fun q => (q.record, q.time))) ∧
      (s.notices.held.length + f.events.length ≤ 12 → s.notices.held.any Notice.isLevel = false →
        (s.notices.held.map (fun n => (n.time, n.body)) ++
            f.events.map (fun e => (s.clock.time, .sensor e.1 e.2.1 e.2.2 o.number)) ++
            [(s.clock.time,
              .level t.warning.level s.warning.level
                (if levelRank s.warning.level < levelRank t.warning.level then t.warning.level else s.warning.level))]) <+:
          t.notices.held.map (fun n => (n.time, n.body)))) ∧
  (t.interval ≠ s.interval → (∃ n, t.lau.lastStart = some n ∧ n + 100 * t.interval ≤ s.elapsed) → t.lau.startOwed = true) ∧
  ((∀ r, s.cable.run = some r →
      levelBars r.kind t.warning.level = false ∧ ∀ h, f.stage = some h → h ≤ stageLimit s.cable.settings r.kind) →
    t.cable = s.cable ∧ t.gauging = s.gauging)

/-- A run in progress that an observation has ended with cause FLOOD_LIMIT: the cableway retrieves, and where the archive has room
the gauging unit holds the formed record, whose GAUGING record comes after the observation's records; the CABLEWAY notice comes after
the SENSOR and the LEVEL notices (R91, R119, R123, R128, R135, R146; log entry 8). -/
def FloodEndsRun (s t : State) (f : Found) (r : Run) (rr : RunRecord) : Prop :=
  t.cable = (s.cable.ended .floodLimit).retrieve s.elapsed ∧
    ∀ g, g = ({ s with lau := { s.lau with series := t.lau.series } } : State).formRecord rr .floodLimit →
    ∀ o, t.lau.series.getLast? = some o →
    (s.archive.hasRoom = true → s.archive.queue.length + 3 ≤ 32 →
      t.gauging =
          { s.gauging with
            run := none, exposure := none, kept := [], result := .computing, computing := some g
            nextId := nextGaugingId s.gauging.nextId } ∧
        (s.archive.queue.map (fun q => (q.record, q.time)) ++ [(.obs o, s.clock.time)] ++
            (if t.warning.level = s.warning.level then []
              else [(.level (t.warning.body (.changed s.warning.level (.observation o.number))), s.clock.time)]) ++
            [(.gauging g, s.clock.time)]) <+:
          t.archive.queue.map (fun q => (q.record, q.time))) ∧
    (s.notices.held.length + f.events.length ≤ 12 → s.notices.held.any Notice.isLevel = false →
      (s.notices.held.map (fun n => (n.time, n.body)) ++
          f.events.map (fun e => (s.clock.time, .sensor e.1 e.2.1 e.2.2 o.number)) ++
          (if t.warning.level = s.warning.level then []
            else
              [(s.clock.time,
                .level t.warning.level s.warning.level
                  (if levelRank s.warning.level < levelRank t.warning.level then t.warning.level else s.warning.level))]) ++
          [(s.clock.time,
            .cableway .runEnded .floodLimit s.cable.latestHold (some (r.vertical + 1)) s.cable.lines)]) <+:
        t.notices.held.map (fun n => (n.time, n.body)))

/-- An observation has been formed from what an acquisition found, with the channel statuses and the DISAGREE condition it
left: its fields, its place at the end of the series, its evaluation, its record, its SENSOR notices in their order where the
notice queue has room for all that the observation can bring, and what its append does (R12, R14 to R18, R23, R83, R85, R87 to
R91, R99, R123). -/
def ObservationFormed (s t : State) (l : Lau) (f : Found) : Prop :=
  (∀ o, t.lau.series.getLast? = some o →
    t.lau.series = appendObservation s.lau.series o ∧ o.number = s.lau.nextObs ∧ o.time = s.clock.time ∧
      o.quality = s.clock.quality ∧ o.stage = f.stage ∧ o.source = f.source ∧ o.range = f.range ∧ o.manual = f.manual ∧
      o.disagree = l.disagree.isSet ∧
      o.rate = f.stage.bind (fun h => rateOfRise s.lau.series h s.clock.time s.lau.settings.window) ∧
      (∀ h, f.stage = some h →
        ({ discharge := o.discharge, flags := o.flags, ratingId := o.ratingId, shift := o.shift } : Rated) =
          s.rating.rate h s.clock.time) ∧
      (f.stage = none → o.discharge = none ∧ o.flags = DischargeFlags.none ∧ o.ratingId = none ∧ o.shift = none) ∧
      t.warning.live = Eight.zip (evaluateRecord o) s.warning.settings s.warning.live ∧
      (s.archive.hasRoom = true →
        (s.archive.queue.map (fun q => (q.record, q.time)) ++ [(.obs o, s.clock.time)]) <+:
          t.archive.queue.map (fun q => (q.record, q.time))) ∧
      (s.notices.held.length + f.events.length ≤ 12 → s.notices.held.any Notice.isLevel = false →
        (s.notices.held.map (fun n => (n.time, n.body)) ++
            f.events.map (fun e => (o.time, .sensor e.1 e.2.1 e.2.2 o.number))) <+:
          t.notices.held.map (fun n => (n.time, n.body))) ∧
      AppendEffects s t f o) ∧
    t.lau.series ≠ [] ∧ t.lau.nextObs = (s.lau.nextObs + 1) % 4294967296 ∧ t.lau.acq = none ∧ t.lau.status = l.status ∧
    t.lau.disagree = l.disagree ∧ t.lau.channels = s.lau.channels ∧ t.lau.settings = s.lau.settings ∧
    t.clock = { s.clock with floor := s.clock.time } ∧ t.elapsed = s.elapsed ∧ t.startingUp = s.startingUp ∧
    t.rating = s.rating ∧ t.store = s.store ∧ t.pending = s.pending ∧ t.warning.level = t.warning.formed ∧
    t.warning.settings = s.warning.settings ∧ t.warning.timers = s.warning.timers ∧ t.warning.silent = s.warning.silent

/-- An acquisition has started that powers no sensor, and its observation has been formed at once: a held acquisition, whose
stage is the manual reading in force (R37), or one with no channel enabled, whose observation is MISSING (R4, R10). -/
def ObservedWithoutSensors (s t : State) : Prop :=
  t.lau.lastStart = some s.elapsed ∧
    (s.lau.hold.state = .held →
      t.lau.hold = s.lau.hold ∧ t.lau.excitation = s.lau.excitation ∧ ObservationFormed s t s.lau s.lau.heldFound) ∧
    (s.lau.hold.state = .none →
      t.lau.hold = s.lau.hold ∧ t.lau.excitation = ⟨false, false, false⟩ ∧ ObservationFormed s t s.lau nothingFound)

/-- Whether a start now powers no sensor: the hold is HELD, or it is NONE and no channel is enabled (R4, R37). -/
def Lau.startsWithoutSensors (l : Lau) : Bool :=
  decide (l.hold.state = .held) ||
    (decide (l.hold.state = .none) && !l.channels.la.enabled && !l.channels.lb.enabled && !l.channels.lc.enabled)

end Sys2Proof.Machine
end

