-- ==== Sys2Proof/Certificates/Slice0/Obligations.lean ====
section
/-! DEFINITION. The statements for the provers, by block: the step, the bytes, the invariants, the ports, and then what each
command does, every one as an equation of exec with a next state. -/

open Sys2Proof Sys2Proof.Machine

/-! ### The step -/

/-- A step with a command at the front of the queue is that command on the queue's rest. -/
def Obligations.StepRunsTheFrontCommand : Prop :=
  ∀ (c : Instr) (rest : List Instr) (s : State),
    step { s with pending := c :: rest } = exec c { s with pending := rest }

/-- A step on an empty queue is one hundredth of a second: the model's choice (log entry 1). -/
def Obligations.StepOnAnEmptyQueueIsOneHundredth : Prop :=
  ∀ s : State, s.pending = [] → step s = .next { s with elapsed := s.elapsed + 1 }

/-- Every command answers a next state in every state, and none changes the queue of commands. That this holds also of states
that the invariants rule out, and of operands that no sender gives, is the model's choice of log entry 32; that an event which the
state rules out is such a step, one that changes nothing, is that of log entry 2. Of this the spec says only that every command is
one step. -/
def Obligations.EveryCommandAnswersNextAndKeepsTheQueue : Prop :=
  ∀ (c : Instr) (s : State), ∃ t, exec c s = .next t ∧ t.pending = s.pending

/-! ### The bytes -/

/-- A request whose fields fit, sent as a message on Port L, is judged to be that request with its tag; and so it is on Ports T
and F, where each byte is a character with its parity bit. The two layouts, of writing and of reading, follow R200 as log entry
12 completes it. -/
def Obligations.RequestsReadBackFromTheirBytes : Prop :=
  ∀ (r : Request) (tag : Byte) (l : List Byte), r.fits = true → requestPayload r = some l →
    l.length ≤ 576 ∧ Inbound.judge (message (BitVec.ofNat 8 (requestCode r)) tag l) = .request tag r ∧
      Inbound.judgeLine ((message (BitVec.ofNat 8 (requestCode r)) tag l).map Character.of) = .request tag r

/-- The example of R176, and three messages written out byte by byte from R200 and R201; the first of them on Port T or F as well,
and the levels of its first byte on the line (R183). And what the part sends and stores: the numbers of the enumerations, fields
most significant byte first and in two's complement, flags from bit 0 on (R200); the response, the notice packet and the four bytes
of the status summary (R201); the page header, the archive record with its check, a page with its records and its erased space, and
the bodies that have a table (R202); each with messages, packets, records and headers written out byte by byte. The model's choices
in it: log entries 12 (the layout of the SET_SHIFT fields), 14 (the numbers of a hold's causes), 16 (that a damaged record keeps the
room it had, and a header that fails its check its other fields) and 36 (that a start bit is space and a stop bit mark). -/
def Obligations.MessagesWrittenOutAreJudged : Prop :=
  crc [0x00#8] = 0xC4#8 ∧
    Inbound.judge [0x23#8, 0x09#8, 0x00#8, 0x00#8, crc [0x23#8, 0x09#8, 0x00#8, 0x00#8]] = .request 0x09#8 (.status true) ∧
    Inbound.judge
        [0x20#8, 0x01#8, 0x00#8, 0x04#8, 0x00#8, 0x01#8, 0x00#8, 0x02#8,
          crc [0x20#8, 0x01#8, 0x00#8, 0x04#8, 0x00#8, 0x01#8, 0x00#8, 0x02#8]] = .request 0x01#8 (.setTime (some 65538)) ∧
    Inbound.judge
        [0x1E#8, 0x07#8, 0x00#8, 0x06#8, 0x00#8, 0x00#8, 0x10#8, 0x00#8, 0xFF#8, 0x9C#8,
          crc [0x1E#8, 0x07#8, 0x00#8, 0x06#8, 0x00#8, 0x00#8, 0x10#8, 0x00#8, 0xFF#8, 0x9C#8]]
      = .request 0x07#8 (.setShift (some { time := 4096, shift := -100 })) ∧
    Inbound.judgeLine
        [⟨0x23#8, true⟩, ⟨0x09#8, false⟩, ⟨0x00#8, false⟩, ⟨0x00#8, false⟩,
          Character.of (crc [0x23#8, 0x09#8, 0x00#8, 0x00#8])] = .request 0x09#8 (.status true) ∧
    (Character.of 0x23#8).levels = [false, true, true, false, false, false, true, false, false, true, true] ∧
    (∀ n v k : Nat, (be n v).length = n ∧ (k < n → (be n v)[k]? = some (BitVec.ofNat 8 (v / 256 ^ (n - 1 - k))))) ∧
    (∀ n k : Nat, (2 * k < 256 ^ n → beInt n k = be n k) ∧
      (0 < k → 2 * k ≤ 256 ^ n → beInt n (-(k : Int)) = be n (256 ^ n - k))) ∧
    (∀ (l : List Bool) (i : Nat), (bits l).testBit i = l.getD i false ∧ bitByte l = be 1 (bits l)) ∧
    [Port.L, .T, .F].map portCode = List.range 3 ∧ [Level.clear, .watch, .warn, .alarm].map levelRank = List.range 4 ∧
    [Source.channel .LA, .channel .LB, .channel .LC, .manual].map sourceCode = List.range 4 ∧
    [Method.edge, .onePoint, .twoPoint].map methodCode = List.range 3 ∧
    [EndCause.complete, .aborted, .released, .takenOver, .floodLimit, .pauseLimit, .overload, .motionTimeout].map causeCode =
      List.range 8 ∧
    [Disposition.pending, .accepted, .rejected, .none].map dispositionCode = List.range 4 ∧
    [DeadlineState.stopped, .running, .expired].map deadlineCode = List.range 3 ∧
    [HoldCause.request, .startLine, .timeout].map holdCauseCode = List.range 3 ∧
    [HoldState.none, .pending, .held].map holdStateCode = List.range 3 ∧
    [Coarse.idle, .claimed, .running, .paused, .faulted, .retrieving, .stuck].map coarseCode = List.range 7 ∧
    [Option.none, some Port.L, some .F].map holderCode = List.range 3 ∧
    [ResultState.none, .computing, .ready].map resultStateCode = List.range 3 ∧
    [ArchiveHealth.normal, .degraded, .failed].map healthCode = List.range 3 ∧
    [SensorEvent.channelFault, .channelOk, .disagreeSet, .disagreeClear].map sensorEventCode = List.range 4 ∧
    [CablewayEvent.runEnded, .faulted, .stuck].map cablewayEventCode = List.range 3 ∧
    [Result.ok, .wait, .busy, .frameError, .notPermitted, .badRequest, .range, .frozen, .ratingFull, .duplicateTime, .inForce,
        .notFound, .timeOrder, .notHeld, .fixed, .claimedElsewhere, .notHolder, .barred, .unavailable, .wrongState, .tooEarly,
        .resultPending, .stale, .notOwed, .archiveFailed, .storeFailed].map resultCode = List.range 26 ∧
    [RecordKind.obs, .gauging, .level, .rating, .shift, .hold, .time, .datum, .gap].map recordKindCode =
      (List.range 9).map (· + 1) ∧
    (∀ b : NoticeBody,
      noticeKind b =
        match b with
        | .level .. => 1
        | .cableway .. => 2
        | .sensor .. => 3
        | .gauging .. => 4
        | .hold .. => 5
        | .archive .. => 6) ∧
    (∀ r : SentResponse, ∀ b, b = payloadBytes r.response.payload →
      ∀ m, m =
          r.summary.bytes ++ [r.response.code, r.response.tag] ++ be 1 (resultCode r.response.result) ++
            [if r.discarded then 1#8 else 0#8] ++ be 2 b.length ++ b →
        r.bytes = m ++ [crc m]) ∧
    (∀ n : Packet, ∀ b, b = noticeBytes n.body →
      ∀ m, m = [254#8] ++ be 1 (noticeKind n.body) ++ be 4 n.time ++ [if n.overflowed then 1#8 else 0#8] ++ be 2 b.length ++ b →
        n.bytes = m ++ [crc m]) ∧
    (∀ m : Summary, m.notices ≤ 16 →
      ∃ a b c d : Byte, m.bytes = [a, b, c, d] ∧
        a.toNat / 64 = levelRank m.level ∧ a.getLsbD 5 = m.owed ∧ a.getLsbD 4 = m.relay ∧ a.getLsbD 3 = m.silent ∧
        a.toNat / 2 % 4 = holdStateCode m.hold ∧ a.getLsbD 0 = m.first ∧
        b.toNat / 32 = coarseCode m.cableway ∧ b.toNat / 8 % 4 = holderCode m.holder ∧
        b.toNat / 2 % 4 = resultStateCode m.result ∧ b.getLsbD 0 = m.pendingDispositions ∧
        c.toNat / 8 = m.notices ∧ c.toNat / 2 % 4 = healthCode m.archive ∧ c.getLsbD 0 = decide (m.quality = .set) ∧
        d.getLsbD 7 = m.disagree ∧ d.getLsbD 6 = m.frozen ∧ d.getLsbD 5 = m.defaulted ∧ d.toNat % 32 = 0) ∧
    (∀ new previous peak : Level, noticeBytes (.level new previous peak) =
      be 1 (levelRank new) ++ be 1 (levelRank previous) ++ be 1 (levelRank peak)) ∧
    (∀ (id : Nat) (cause : EndCause) (q : Option Nat) (c : Option Int) (na : Bool), noticeBytes (.gauging id cause q c na) =
      be 2 id ++ be 1 (causeCode cause) ++ bitByte [q.isSome, c.isSome, na] ++ be 4 (q.getD 0) ++ beInt 2 (c.getD 0)) ∧
    (∀ (sequence : Nat) (elevation : Int) (closed retired : Bool),
      ∀ m, m = be 4 sequence ++ beInt 4 elevation →
        PageHeader.bytes { sequence := sequence, elevation := elevation, checkOk := true, closed := closed, retiredMark := retired } =
          m ++ [crc m, if closed then 0#8 else 255#8, if retired then 0#8 else 255#8] ++ List.replicate 5 255#8) ∧
    (∀ (sequence : Nat) (elevation : Int) (closed retired : Bool), 1 ≤ sequence → sequence ≤ 4294967295 →
      -9999999 ≤ elevation → elevation ≤ 9999999 →
      ∀ m, m = be 4 sequence ++ beInt 4 elevation →
      ∀ b, b =
          PageHeader.bytes
            { sequence := sequence, elevation := elevation, checkOk := false, closed := closed, retiredMark := retired } →
        b ≠ List.replicate 16 255#8 ∧
          ∃ check, check ≠ crc m ∧
            b = m ++ [check, if closed then 0#8 else 255#8, if retired then 0#8 else 255#8] ++ List.replicate 5 255#8) ∧
    (∀ p : Page, ∀ used, used = 16 + (p.records.map (fun r => r.record.length)).sum → used ≤ 4096 →
      p.bytes.length = 4096 ∧ p.bytes.take 16 = p.headerBytes ∧ (p.header = none → p.headerBytes = List.replicate 16 255#8) ∧
      p.bytes.drop used = List.replicate (4096 - used) 255#8 ∧
      ∀ before r after, p.records = before ++ r :: after →
        ∀ l, l = p.bytes.drop (16 + (before.map (fun r => r.record.length)).sum) →
        (r.intact = true → l.take r.record.length = recordBytes r.record r.index r.time) ∧
        (r.intact = false →
          ∃ kind high low check : Byte, l[0]? = some kind ∧ l[1]? = some high ∧ l[2]? = some low ∧ l[11]? = some check ∧
            kind ≠ 255#8 ∧ check ≠ crc ((l.take (256 * high.toNat + low.toNat)).eraseIdx 11))) ∧
    (∀ (r : Record) (index time : Nat),
      ∀ m, m = be 1 (recordKindCode r.kind) ++ be 2 (12 + r.body.length) ++ be 4 index ++ be 4 time →
        recordBytes r index time = m ++ [crc (m ++ r.body)] ++ r.body) ∧
    (∀ o : Observation, (Record.obs o).body.length = 19 ∧ (Record.obs o).body =
      be 4 o.number ++ bitByte [decide (o.quality = .set), o.range, o.disagree, o.manual] ++
        bitByte [o.stage.isSome, o.rate.isSome, o.discharge.isSome, o.ratingId.isSome] ++ beInt 2 (o.stage.getD 0) ++
        be 1 ((o.source.map sourceCode).getD 0) ++ beInt 2 (o.rate.getD 0) ++ be 4 (o.discharge.getD 0) ++
        bitByte [o.flags.belowRating, o.flags.aboveRating, o.flags.saturated, o.flags.noRating, o.flags.stageClamped] ++
        be 1 (o.ratingId.getD 0) ++ beInt 2 (o.shift.getD 0)) ∧
    (∀ g : GaugingRecord, ∃ b : Byte, b.getLsbD 7 = decide (g.holdPort = .F) ∧ b.toNat / 16 % 8 = causeCode g.cause ∧
      b.toNat % 16 = dispositionCode g.disposition ∧ (Record.gauging g).body =
        be 2 g.id ++ [b] ++ be 4 g.startTime ++ beInt 4 g.elevation ++ be 2 g.a ++ be 1 g.b ++
          bitByte [g.qMeas.isSome, g.height.isSome, g.qRated.isSome, g.ratingId.isSome, g.percent.isSome, g.candidate.isSome] ++
          bitByte [g.ratedFlags.belowRating, g.ratedFlags.aboveRating, g.ratedFlags.saturated, g.ratedFlags.noRating,
            g.ratedFlags.stageClamped] ++
          be 2 (bits [g.flags.incompleteSection, g.flags.skippedVerticals, g.flags.qSaturated, g.flags.manualHeight,
            g.flags.seriesShort, g.flags.timeChanged, g.flags.pctClamped, g.flags.shiftClamped, g.flags.notArchived]) ++
          be 4 (g.qMeas.getD 0) ++ beInt 2 (g.height.getD 0) ++ be 4 (g.qRated.getD 0) ++ be 1 (g.ratingId.getD 0) ++
          beInt 2 (g.shift.getD 0) ++ beInt 3 (g.percent.getD 0) ++ beInt 2 (g.candidate.getD 0) ++
          be 5 (bits ((List.range 40).map (fun i => g.results.any (fun v => v.index = i + 1)))) ++
          g.results.flatMap verticalEntry) ∧
    (∀ v : VerticalResult, ∃ b : Byte, b.toNat % 4 = methodCode v.method ∧ b.getLsbD 2 = v.flags.dry ∧
      b.getLsbD 3 = v.flags.skipped ∧ b.getLsbD 4 = v.flags.methodChanged ∧ b.getLsbD 5 = v.flags.depthLimited ∧
      b.getLsbD 6 = v.flags.countSaturated ∧ b.getLsbD 7 = v.flags.velocityClamped ∧
      (v.flags.skipped = true → verticalEntry v = be 3 v.distance ++ [b]) ∧
      (v.flags.skipped = false → v.method = .edge → verticalEntry v = be 3 v.distance ++ [b] ++ be 2 (v.depth.getD 0)) ∧
      (v.flags.skipped = false → v.method ≠ .edge → v.flags.dry = true →
        verticalEntry v = be 3 v.distance ++ [b] ++ be 2 (v.depth.getD 0) ++ be 2 (v.velocity.getD 0)) ∧
      (v.flags.skipped = false → v.method ≠ .edge → v.flags.dry = false →
        verticalEntry v =
          be 3 v.distance ++ [b] ++ be 2 (v.depth.getD 0) ++ be 2 (v.velocity.getD 0) ++ be 1 v.exposure ++
            v.counts.flatMap (fun c => be 2 c.n))) ∧
    (∀ l : LevelBody, ∃ b : Byte, b.toNat / 64 = levelRank l.level ∧ b.getLsbD 5 = l.owed ∧
      b.toNat / 8 % 4 = deadlineCode l.deadline ∧ b.getLsbD 2 = l.silent ∧ b.getLsbD 1 = l.relay ∧ b.getLsbD 0 = false ∧
      ∃ e rest, (Record.level l).body =
          [e, b] ++
            bitByte [l.active.t1, l.active.t2, l.active.t3, l.active.t4, l.active.t5, l.active.t6, l.active.t7, l.active.t8] ++
            be 4 (l.firstTime.getD 0) ++ rest ∧
        match l.event with
        | .changed previous (.observation n) => e = 0#8 ∧ rest = be 1 (levelRank previous) ++ [0#8] ++ be 4 n
        | .changed previous (.setThreshold n p) => e = 0#8 ∧ rest = be 1 (levelRank previous) ++ [1#8] ++ be 1 n ++ be 1 (portCode p)
        | .acknowledged p named => e = 1#8 ∧ rest = be 1 (portCode p) ++ be 1 (levelRank named)
        | .deadlineExpired => e = 2#8 ∧ rest = []
        | .linkSilent => e = 3#8 ∧ rest = []
        | .linkLive => e = 4#8 ∧ rest = []) ∧
    (∀ g : GapBody,
      (g.obsCount ≠ 0 → (Record.gap g).body = be 2 g.obsCount ++ be 4 g.first ++ be 4 g.last ++ be 2 g.others) ∧
      (g.obsCount = 0 → (Record.gap g).body = List.replicate 10 0#8 ++ be 2 g.others)) ∧
    (∀ m : Summary,
      m =
        { level := .warn, owed := true, relay := true, silent := false, hold := .held, cableway := .running, holder := some .F
          result := .computing, pendingDispositions := true, notices := 5, archive := .degraded, quality := .set
          disagree := true, frozen := false, defaulted := true, first := true } →
      SentResponse.bytes
          { response := { code := 0x23#8, tag := 0x09#8, result := .busy, payload := .empty, answers := false }
            discarded := true, summary := m } =
          [0xB5#8, 0x53#8, 0x2B#8, 0xA0#8, 0x23#8, 0x09#8, 0x02#8, 0x01#8, 0x00#8, 0x00#8, 0xB1#8] ∧
        SentResponse.bytes
            { response := { code := 0x20#8, tag := 0x01#8, result := .timeOrder, payload := .floor 65538, answers := true }
              discarded := false, summary := m } =
          [0xB5#8, 0x53#8, 0x2B#8, 0xA0#8, 0x20#8, 0x01#8, 0x0C#8, 0x00#8, 0x00#8, 0x04#8, 0x00#8, 0x01#8, 0x00#8, 0x02#8, 0x92#8]) ∧
    Packet.bytes { time := 65538, body := .level .warn .clear .alarm, overflowed := true, lossSince := false } =
      [0xFE#8, 0x01#8, 0x00#8, 0x01#8, 0x00#8, 0x02#8, 0x01#8, 0x00#8, 0x03#8, 0x02#8, 0x00#8, 0x03#8, 0x20#8] ∧
    Packet.bytes
        { time := 65538, body := .gauging 258 .pauseLimit (some 40000000) (some (-100)) true, overflowed := false
          lossSince := false } =
      [0xFE#8, 0x04#8, 0x00#8, 0x01#8, 0x00#8, 0x02#8, 0x00#8, 0x00#8, 0x0A#8, 0x01#8, 0x02#8, 0x05#8, 0x07#8, 0x02#8, 0x62#8,
        0x5A#8, 0x00#8, 0xFF#8, 0x9C#8, 0xB6#8] ∧
    recordBytes
        (.obs
          { number := 7, time := 65538, quality := .set, stage := some (-100), source := some .manual, range := true
            disagree := false, manual := true, rate := none, discharge := some 12500
            flags := { belowRating := false, aboveRating := true, saturated := false, noRating := false, stageClamped := true }
            ratingId := some 5, shift := some (-45) })
        16909060 65538 =
      [0x01#8, 0x00#8, 0x1F#8, 0x01#8, 0x02#8, 0x03#8, 0x04#8, 0x00#8, 0x01#8, 0x00#8, 0x02#8, 0xA9#8, 0x00#8, 0x00#8, 0x00#8,
        0x07#8, 0x0B#8, 0x0D#8, 0xFF#8, 0x9C#8, 0x03#8, 0x00#8, 0x00#8, 0x00#8, 0x00#8, 0x30#8, 0xD4#8, 0x12#8, 0x05#8, 0xFF#8,
        0xD3#8] ∧
    recordBytes
        (.level
          { event := .changed .clear (.observation 7), level := .warn
            active := ⟨true, false, false, false, false, false, false, true⟩, owed := true, firstTime := some 65538
            deadline := .running, silent := false, relay := false })
        42 65538 =
      [0x03#8, 0x00#8, 0x19#8, 0x00#8, 0x00#8, 0x00#8, 0x2A#8, 0x00#8, 0x01#8, 0x00#8, 0x02#8, 0xC2#8, 0x00#8, 0xA8#8, 0x81#8,
        0x00#8, 0x01#8, 0x00#8, 0x02#8, 0x00#8, 0x00#8, 0x00#8, 0x00#8, 0x00#8, 0x07#8] ∧
    recordBytes (.gap { obsCount := 2, first := 7401, last := 7402, others := 1 }) 42 65538 =
      [0x09#8, 0x00#8, 0x18#8, 0x00#8, 0x00#8, 0x00#8, 0x2A#8, 0x00#8, 0x01#8, 0x00#8, 0x02#8, 0x55#8, 0x00#8, 0x02#8, 0x00#8,
        0x00#8, 0x1C#8, 0xE9#8, 0x00#8, 0x00#8, 0x1C#8, 0xEA#8, 0x00#8, 0x01#8] ∧
    PageHeader.bytes { sequence := 5, elevation := -2, checkOk := true, closed := true, retiredMark := false } =
      [0x00#8, 0x00#8, 0x00#8, 0x05#8, 0xFF#8, 0xFF#8, 0xFF#8, 0xFE#8, 0xF9#8, 0x00#8, 0xFF#8, 0xFF#8, 0xFF#8, 0xFF#8, 0xFF#8,
        0xFF#8]

/-! ### Invariants that every step keeps -/

/-- The stage series stays in order, and never ahead of the observation floor or the station time (R17, R28). That there is no last
start while the start-up sequence runs is the model's choice (log entry 38). -/
def Obligations.TheStageSeriesStaysInOrder : Prop :=
  ∀ s t : State, SeriesOk s → step s = .next t → SeriesOk t

/-- The warning unit stays consistent: level, relay, acknowledgement, deadline and silence timer (R85, R92, R97, R99). -/
def Obligations.TheWarningUnitStaysConsistent : Prop :=
  ∀ s t : State, WarningOk s → step s = .next t → WarningOk t

/-- The cableway keeps its lock: drives only in the five states, a run only with its holder, a pause only of an attended hold
(R105, R107, R109, R120, R121). -/
def Obligations.TheCablewayKeepsItsLock : Prop :=
  ∀ s t : State, CablewayOk s → step s = .next t → CablewayOk t

/-- The notice queue keeps its bounds (R188). -/
def Obligations.TheNoticeQueueKeepsItsBounds : Prop :=
  ∀ s t : State, NoticesOk s → step s = .next t → NoticesOk t

/-- The archive keeps its page list canonical and its queues within their bounds (R157, R160, R167). -/
def Obligations.TheArchiveKeepsItsForm : Prop :=
  ∀ s t : State, ArchiveOk s → step s = .next t → ArchiveOk t

/-- The shift table stays in order, with every copy of it (R59, R62). -/
def Obligations.TheShiftTableStaysInOrder : Prop :=
  ∀ s t : State, ShiftsOk s → step s = .next t → ShiftsOk t

/-- The state after power-on of a factory part meets the six invariants. That its pages are all erased (log entry 6), and that it has
no last start (log entry 38), are the model's choices. -/
def Obligations.ResetMeetsTheInvariants : Prop :=
  SeriesOk State.reset ∧ WarningOk State.reset ∧ CablewayOk State.reset ∧ NoticesOk State.reset ∧ ArchiveOk State.reset ∧
    ShiftsOk State.reset

/-! ### The ports -/

/-- A request from a port that R177 does not allow changes nothing and is answered NOT_PERMITTED: CLAIM_CABLEWAY and the six requests
of the holder from Port T, and FORCE_CLAIM, ENTER_HOLD, LEAVE_HOLD, MANUAL_READING, WRITE_DATUM, FIX_DATUM, CLEAR_FAULT and
SET_CABLEWAY from Ports L and T; every other request is allowed from every port. The encoder lines that some
requests sample, and keep when they are refused, are log entries 5 and 35. -/
def Obligations.ARequestFromAPortNotAllowedIsRefused : Prop :=
  (∀ (p : Port) (r : Request),
    permitted p r = false ↔
      (p = .T ∧
        match r with
        | .claimCableway _ | .loadPlan _ | .startRun _ | .holdAlive _ | .resume _ | .abortRun _ | .releaseCableway _ => True
        | _ => False) ∨
      ((p = .L ∨ p = .T) ∧
        match r with
        | .forceClaim _ | .enterHold _ | .leaveHold _ | .manualReading _ | .writeDatum _ | .fixDatum _ | .clearFault _
        | .setCableway _ => True
        | _ => False)) ∧
  ∀ (s : State) (i : Instr), ∀ p tag r, i.sent = some (p, tag, r) → s.takes p = true → permitted p r = false →
    ∃ t, exec i s = .next t ∧ Answered t p (requestCode r) tag .notPermitted .empty ∧
      SameBlocks ((s.sampled i).heard p) t ∧ SamePorts ((s.sampled i).heard p) t p

/-- A permitted request whose payload has the wrong size changes nothing and is answered BAD_REQUEST; LOAD_PLAN apart, whose
holder and state are checked first. CODE_NAMES_NO_REQUEST is answered BAD_REQUEST in the same way (R112, R113, R177). The
model's choices in it: log entries 5 and 35 (the encoder lines that a refused request sampled) and 32 (the command's code,
whatever it is). -/
def Obligations.MalformedRequestsAreRefused : Prop :=
  (∀ (s : State) (i : Instr), ∀ p tag r, i.sent = some (p, tag, r) → s.takes p = true → permitted p r = true →
    requestPayload r = none → r ≠ .loadPlan none →
    ∃ t, exec i s = .next t ∧ Answered t p (requestCode r) tag .badRequest .empty ∧
      SameBlocks ((s.sampled i).heard p) t ∧ SamePorts ((s.sampled i).heard p) t p) ∧
  (∀ (s : State) (p : Port) (code tag : Byte), s.takes p = true →
    ∃ t, exec (.codeNamesNoRequest p code tag) s = .next t ∧ Answered t p code.toNat tag .badRequest .empty ∧
      SameBlocks (s.heard p) t ∧ SamePorts (s.heard p) t p)

/-- A valid message on Port T or F that finds the slot OWED is not taken: with no immediate answer waiting it is answered BUSY,
and the owed request keeps its place. The message is the BUSY command, or any request command on that port (R184). On Port T a
valid message, taken or not, restarts the silence timer; it makes a SILENT link LIVE, with the relay brought to its state and a
LEVEL record (R97, R98, R99). The model's choices in it: log entries 28 (a response being sent is no longer waiting), and 5 and
35 (the encoder lines of a request not taken). -/
def Obligations.AMessageOnAnOwedSlotIsAnsweredBusy : Prop :=
  (∀ s : State,
    s.received .F = { s with ports := { s.ports with f := { s.ports.f with receiving := false, heard := [] } } } ∧
    (s.warning.silent = false →
      s.received .T =
        { s with
          ports := { s.ports with t := { s.ports.t with receiving := false, heard := [] } }
          warning := { s.warning with silenceTimer := some (s.elapsed + 100 * s.warning.timers.silence) } }) ∧
    (s.warning.silent = true → s.archive.hasRoom = true → ∀ u, u = s.received .T →
      u.ports = { s.ports with t := { s.ports.t with receiving := false, heard := [] } } ∧
        u.warning.relay = u.warning.relayRequired ∧
        Recorded
          { s with
            warning :=
              { s.warning with
                silent := false, silenceTimer := some (s.elapsed + 100 * s.warning.timers.silence)
                relay := u.warning.relay } }
          u (.level (u.warning.body .linkLive)))) ∧
  ∀ (s : State) (p : AsyncPort), s.hears p = true → (s.ports.slot p.port).isSome = true →
    (s.ports.async p).ready.all (·.answers) = true →
    (∀ code tag : Byte, ∃ t, exec (.busy p code tag) s = .next t ∧
      Answers t { code := code, tag := tag, result := .busy, payload := .empty, answers := false } p.port ∧
      SameBlocks (s.received p) t ∧ ∀ q, t.ports.slot q = s.ports.slot q) ∧
    (∀ i : Instr, ∀ tag r, i.sent = some (p.port, tag, r) →
      ∃ t, exec i s = .next t ∧
        Answers t
          { code := BitVec.ofNat 8 (requestCode r), tag := tag, result := .busy, payload := .empty, answers := false } p.port ∧
        SameBlocks ((s.sampled i).received p) t ∧ ∀ q, t.ports.slot q = s.ports.slot q)

/-- A request that a frame of Port L carries while the slot stays OWED is discarded, with the mark for the next response; beside
the end of the frame it changes nothing else (R179, R181, R187). That the command of a request on Port L is also the end of its
frame is log entry 4; the encoder lines that it samples are log entry 5. -/
def Obligations.ARequestInAFrameOfAnOwedSlotIsDiscarded : Prop :=
  ∀ (s : State) (i : Instr), ∀ tag r, i.sent = some (.L, tag, r) → ∀ m, s.ports.l.frame = some m →
    m.response.answers = false → s.ports.l.slot.isSome = true →
    ∃ t, exec i s = .next t ∧ t.ports.l = { s.ports.l with frame := none, first := false, discarded := true } ∧
      SameAsync s.ports.t t.ports.t ∧ SameAsync s.ports.f t.ports.f ∧ SameBlocks (s.sampled i) t

/-- FRAME_BEGIN chooses the response: the ready answer, WAIT, FRAME_ERROR, or idle; its summary is taken at this moment, and
the attention line falls. The line is asserted until the first frame after a reset begins, and from then on exactly while some item
of the present summary, the first-response marker left out, is not what the last response carried (R179, R180, R181, R182,
R186). -/
def Obligations.AFrameBeginsWithTheResponseItFinds : Prop :=
  (∀ s : State,
    (s.ports.l.lastSummary = none → s.attention = true) ∧
    ∀ m, s.ports.l.lastSummary = some m →
      (s.attention = false ↔
        m.level = s.warning.level ∧ m.owed = s.warning.owed ∧ m.relay = s.warning.relay ∧ m.silent = s.warning.silent ∧
          m.hold = s.lau.hold.state ∧ m.cableway = coarse s.cable.state ∧ m.holder = s.cable.holder ∧
          m.result = s.gauging.result ∧
          (m.pendingDispositions = true ↔ ∃ e ∈ s.gauging.list, e.record.disposition = .pending) ∧
          m.notices = s.notices.held.length ∧ m.archive = s.archive.state.health ∧ m.quality = s.clock.quality ∧
          m.disagree = s.lau.disagree.isSet ∧ m.frozen = s.rating.frozen ∧
          (m.defaulted = true ↔ s.store.defaulted ≠ []))) ∧
  ∀ s : State, s.startingUp = false → s.ports.l.frame = none →
    ∃ t, exec .frameBegin s = .next t ∧ ∃ m, t.ports.l.frame = some m ∧ m.summary = s.summary s.ports.l.first ∧
      m.discarded = s.ports.l.discarded ∧ t.ports.l.discarded = false ∧ t.ports.l.frameError = false ∧
      t.ports.l.lastSummary = some m.summary ∧ t.attention = false ∧ t.ports.l.slot = s.ports.l.slot ∧ SameBlocks s t ∧
      (∀ o, s.ports.l.slot = some o → ∀ r, s.ports.l.answer = some r → m.response = r) ∧
      (∀ o, s.ports.l.slot = some o → s.ports.l.answer = none →
        m.response = { code := o.code, tag := o.tag, result := .wait, payload := .empty, answers := false }) ∧
      (s.ports.l.slot = none → s.ports.l.frameError = true →
        m.response = { code := 0, tag := 0, result := .frameError, payload := .empty, answers := false }) ∧
      (s.ports.l.slot = none → s.ports.l.frameError = false →
        m.response = { code := 0, tag := 0, result := .ok, payload := .empty, answers := false })

/-- FRAME_END: the response counts as sent, and an answer frees the slot. What the frame carried is then judged: an empty frame
does nothing more; with the slot OWED anything else is discarded, with the mark for the next response; with the slot FREE a
faulty message asks for a FRAME_ERROR, a code that names no request is answered BAD_REQUEST, and a request is taken, with the
effect of its own command at this end of the frame (R177, R179, R180, R181, R187). Inbound bytes are empty when there is none or
the first is all ones; a message is faulty when it ends within its fixed fields or before its check byte, when its length field is
above 576, or when its check fails, and is else a request or a code that names none; bytes after the check byte are ignored. The
model's choices in it: log entries 4 (a request's command on Port L is the end of the frame that carries it) and 5 (the encoder
lines). -/
def Obligations.AFrameEndsWithItsResponseSent : Prop :=
  Inbound.judge [] = .empty ∧ (∀ l : List Byte, Inbound.judge (255#8 :: l) = .empty) ∧
  (∀ (code : Byte) (l : List Byte), code ≠ 255#8 → l.length < 3 → Inbound.judge (code :: l) = .faulty) ∧
  (∀ (code tag h k : Byte) (body : List Byte), code ≠ 255#8 → ∀ n, n = 256 * h.toNat + k.toNat →
    (576 < n → Inbound.judge (code :: tag :: h :: k :: body) = .faulty) ∧
    (body.length ≤ n → Inbound.judge (code :: tag :: h :: k :: body) = .faulty) ∧
    (n ≤ 576 → ∀ payload check more, body = payload ++ check :: more → payload.length = n →
      (crc (code :: tag :: h :: k :: payload) ≠ check → Inbound.judge (code :: tag :: h :: k :: body) = .faulty) ∧
      (crc (code :: tag :: h :: k :: payload) = check →
        Inbound.judge (code :: tag :: h :: k :: body) = Inbound.ofMessage code tag payload))) ∧
  (∀ (code tag : Byte) (payload : List Byte),
    (code.toNat = 0 ∨ 37 < code.toNat → Inbound.ofMessage code tag payload = .unknown code tag) ∧
      (1 ≤ code.toNat → code.toNat ≤ 37 →
        ∃ r, Inbound.ofMessage code tag payload = .request tag r ∧ requestCode r = code.toNat)) ∧
  ∀ (s : State) (inbound : List Byte) (x : Encoders), ∀ m, s.ports.l.frame = some m → ∀ l : PortL,
    l =
      { s.ports.l with
        frame := none, first := false, slot := if m.response.answers then none else s.ports.l.slot
        answer := if m.response.answers then none else s.ports.l.answer } →
    (Inbound.judge inbound = .empty →
      ∃ t, exec (.frameEnd inbound x) s = .next t ∧ t.ports.l = l ∧ SameAsync s.ports.t t.ports.t ∧
        SameAsync s.ports.f t.ports.f ∧ SameBlocks (s.sample x) t) ∧
    (Inbound.judge inbound ≠ .empty → l.slot.isSome = true →
      ∃ t, exec (.frameEnd inbound x) s = .next t ∧ t.ports.l = { l with discarded := true } ∧
        SameAsync s.ports.t t.ports.t ∧ SameAsync s.ports.f t.ports.f ∧ SameBlocks (s.sample x) t) ∧
    (Inbound.judge inbound = .faulty → l.slot = none →
      ∃ t, exec (.frameEnd inbound x) s = .next t ∧ t.ports.l = { l with frameError := true } ∧
        SameAsync s.ports.t t.ports.t ∧ SameAsync s.ports.f t.ports.f ∧ SameBlocks (s.sample x) t) ∧
    (∀ code tag : Byte, Inbound.judge inbound = .unknown code tag → l.slot = none →
      ∃ t, exec (.frameEnd inbound x) s = .next t ∧ Answered t .L code.toNat tag .badRequest .empty ∧
        t.ports.l = { l with slot := t.ports.l.slot, answer := t.ports.l.answer } ∧
        SameAsync s.ports.t t.ports.t ∧ SameAsync s.ports.f t.ports.f ∧ SameBlocks (s.sample x) t) ∧
    (∀ (tag : Byte) (r : Request), Inbound.judge inbound = .request tag r → l.slot = none →
      ∀ i : Instr, i.sent = some (.L, tag, r) → (∀ y, i.lines = some y → y = x) →
      ∃ t, exec (.frameEnd inbound x) s = .next t ∧ exec i (s.sample x) = .next t)

/-- BREAK begins a message and LONG_GAP abandons one; FRAME_ERROR carries the characters a port hears, and the message they end
is judged (R183, R184). A character is a start bit, eight data bits least significant first, an even parity bit and a stop bit.
The message ends with its check byte, whose place the length field gives, or at a length field above 576, and what follows it is
ignored. A message with a parity error, a wrong check or such a length field is not taken, and answered with a FRAME_ERROR response
of the idle code and tag, unless an immediate answer is waiting; any other is taken as its own command takes it; and one that has
not ended is kept. The model's choices in it: log entries 36 (the levels of the start and stop bits, and the characters as the
command's operand), 4 (a message as a command), 28 (a response being sent is no longer waiting) and 5 (the encoder lines). -/
def Obligations.BreaksGapsAndFaultsEndAMessage : Prop :=
  (∀ c : Character,
    c.levels = [false] ++ (List.range 8).map c.data.getLsbD ++ [c.parity, true] ∧ Character.ofLevels c.levels = some c ∧
      (c.sound = true ↔ ((List.range 8).map c.data.getLsbD ++ [c.parity]).count true % 2 = 0)) ∧
  (∀ b : Byte, (Character.of b).data = b ∧ (Character.of b).sound = true) ∧
  (∀ l : List Character, l.length < 4 → Inbound.judgeLine l = .empty) ∧
  (∀ (code tag h k : Character) (body : List Character), ∀ n, n = 256 * h.data.toNat + k.data.toNat →
    (576 < n → Inbound.judgeLine (code :: tag :: h :: k :: body) = .faulty) ∧
    (n ≤ 576 → body.length ≤ n → Inbound.judgeLine (code :: tag :: h :: k :: body) = .empty) ∧
    (n ≤ 576 → ∀ payload check more, body = payload ++ check :: more → payload.length = n →
      ∀ m, m = code :: tag :: h :: k :: payload →
        ((∃ c ∈ m ++ [check], c.sound = false) ∨ crc (m.map (·.data)) ≠ check.data →
          Inbound.judgeLine (m ++ check :: more) = .faulty) ∧
        ((∀ c ∈ m ++ [check], c.sound = true) → crc (m.map (·.data)) = check.data →
          Inbound.judgeLine (m ++ check :: more) = Inbound.ofMessage code.data tag.data (payload.map (·.data))))) ∧
  (∀ (code tag : Byte) (payload : List Byte),
    (code.toNat = 0 ∨ 37 < code.toNat → Inbound.ofMessage code tag payload = .unknown code tag) ∧
      (1 ≤ code.toNat → code.toNat ≤ 37 →
        ∃ r, Inbound.ofMessage code tag payload = .request tag r ∧ requestCode r = code.toNat)) ∧
  ∀ (s : State) (p : AsyncPort), ∀ a, a = s.ports.async p →
    (s.startingUp = false →
      ∃ t, exec (.lineBreak p) s = .next t ∧ SameAsync { a with receiving := true, heard := [] } (t.ports.async p) ∧
        SameBlocks s t ∧ ∀ q, t.ports.slot q = s.ports.slot q) ∧
    (s.startingUp = true →
      ∃ t, exec (.lineBreak p) s = .next t ∧ SameAsync a (t.ports.async p) ∧ SameBlocks s t ∧
        ∀ q, t.ports.slot q = s.ports.slot q) ∧
    (∃ t, exec (.longGap p) s = .next t ∧ SameAsync { a with receiving := false, heard := [] } (t.ports.async p) ∧
      SameBlocks s t ∧ ∀ q, t.ports.slot q = s.ports.slot q) ∧
    ∀ (l : List Character) (x : Encoders),
      (s.hears p = false →
        ∃ t, exec (.frameError ⟨p, l, x⟩) s = .next t ∧ SameAsync a (t.ports.async p) ∧ SameBlocks (s.sample x) t ∧
          ∀ q, t.ports.slot q = s.ports.slot q) ∧
      (s.hears p = true → ∀ m, m = a.heard ++ l →
        (Inbound.judgeLine m = .empty →
          ∃ t, exec (.frameError ⟨p, l, x⟩) s = .next t ∧ SameAsync { a with heard := m } (t.ports.async p) ∧
            SameBlocks (s.sample x) t ∧ ∀ q, t.ports.slot q = s.ports.slot q) ∧
        (Inbound.judgeLine m = .faulty → a.ready.all (·.answers) = true →
          ∃ t, exec (.frameError ⟨p, l, x⟩) s = .next t ∧
            SameAsync
              { a with
                receiving := false, heard := []
                ready :=
                  a.ready ++ [{ code := 0, tag := 0, result := .frameError, payload := .empty, answers := false }] }
              (t.ports.async p) ∧
            SameBlocks (s.sample x) t ∧ ∀ q, t.ports.slot q = s.ports.slot q) ∧
        (Inbound.judgeLine m = .faulty → a.ready.all (·.answers) = false →
          ∃ t, exec (.frameError ⟨p, l, x⟩) s = .next t ∧
            SameAsync { a with receiving := false, heard := [] } (t.ports.async p) ∧ SameBlocks (s.sample x) t ∧
            ∀ q, t.ports.slot q = s.ports.slot q) ∧
        (∀ code tag, Inbound.judgeLine m = .unknown code tag →
          ∃ t, exec (.frameError ⟨p, l, x⟩) s = .next t ∧ exec (.codeNamesNoRequest p.port code tag) (s.sample x) = .next t) ∧
        (∀ tag r, Inbound.judgeLine m = .request tag r → ∀ i : Instr, i.sent = some (p.port, tag, r) →
          (∀ y, i.lines = some y → y = x) →
          ∃ t, exec (.frameError ⟨p, l, x⟩) s = .next t ∧ exec i (s.sample x) = .next t))

/-- RESPONSE_SENT clears the first-response marker, and frees the slot when the response answered it (R178, R187). -/
def Obligations.AResponseSentFreesItsSlot : Prop :=
  ∀ (s : State) (p : AsyncPort), ∀ m, (s.ports.async p).sending = some (.response m) →
    ∃ t, exec (.responseSent p) s = .next t ∧ (t.ports.async p).first = false ∧
      t.ports.slot p.port = (if m.response.answers then none else s.ports.slot p.port) ∧
      (∀ q, q ≠ p.port → t.ports.slot q = s.ports.slot q) ∧ SameBlocks s t

/-- NOTICE_PACKET_COMPLETE removes the notice in transmission, and clears the overflowed marker when the packet carried it and
nothing was lost since; with no response waiting the next packet carries the notice of highest priority and greatest age, and the
marker as it then stands (R185, R191). A notice handed to the queue joins it, a LEVEL notice in place of a held one with the
higher of the two peaks; in a full queue a LEVEL notice displaces the oldest of the lowest priority, any other is dropped, and
the marker is set (R188, R189, R190). -/
def Obligations.ANoticePacketRemovesItsNotice : Prop :=
  (∀ s : State, ∀ n, s.ports.t.sending = some (.notice n) →
    ∃ t, exec .noticePacketComplete s = .next t ∧
      t.notices.held.map (fun m => (m.time, m.body)) = (dropSent s.notices.held).map (fun m => (m.time, m.body)) ∧
      t.notices.overflowed = (if n.overflowed && !n.lossSince then false else s.notices.overflowed) ∧
      (∀ q, t.ports.slot q = s.ports.slot q) ∧ SameBlocks { s with notices := t.notices } t ∧
      (∀ m, t.ports.t.sending = some (.notice m) → m.overflowed = t.notices.overflowed ∧ m.lossSince = false) ∧
      (s.ports.t.ready = [] → ∀ before m after, dropSent s.notices.held = before ++ m :: after → m.inTransmission = false →
        (∀ k ∈ before, k.inTransmission = true ∨ noticeKind m.body < noticeKind k.body) →
        (∀ k ∈ after, k.inTransmission = true ∨ noticeKind m.body ≤ noticeKind k.body) →
        t.ports.t.sending =
            some (.notice { time := m.time, body := m.body, overflowed := t.notices.overflowed, lossSince := false }) ∧
          t.notices.held = before ++ { m with inTransmission := true } :: after)) ∧
  (∀ (q : NoticeQueue) (time : Nat) (body : NoticeBody), ∀ n : Notice, n = { time := time, body := body, inTransmission := false } →
    (q.held.length < 16 → (∀ m ∈ q.held, n.isLevel = true → m.isLevel = false) →
      q.hand time body = ({ q with held := q.held ++ [n] }, false)) ∧
    (∀ new previous peak, body = .level new previous peak → ∀ before old after, q.held = before ++ old :: after →
      (∀ m ∈ before ++ after, m.isLevel = false) → ∀ new' previous' peak', old.body = .level new' previous' peak' →
      ∀ top, (levelRank peak' ≤ levelRank peak → top = peak) → (levelRank peak < levelRank peak' → top = peak') →
      q.hand time body =
        ({ q with held := before ++ { time := time, body := .level new previous top, inTransmission := false } :: after },
          false)) ∧
    (16 ≤ q.held.length → n.isLevel = false → q.hand time body = ({ q with overflowed := true }, true)) ∧
    (16 ≤ q.held.length → n.isLevel = true → (∀ m ∈ q.held, m.isLevel = false) →
      ∀ before old after, q.held = before ++ old :: after → old.inTransmission = false →
      (∀ k ∈ before, k.inTransmission = true ∨ noticeKind k.body < noticeKind old.body) →
      (∀ k ∈ after, k.inTransmission = true ∨ noticeKind k.body ≤ noticeKind old.body) →
      q.hand time body = ({ held := before ++ after ++ [n], overflowed := true }, true)))

/-! ### Requests that read -/

/-- STATUS, READ_DESCRIPTOR, READ_SETTINGS, READ_OBS and READ_ARCHIVE are answered OK at once and change nothing else. The
observations that READ_OBS carries are the longest run of the newest ones chosen that fits in 576 bytes (R19). READ_ARCHIVE
examines the records held from the start index on, in order, up to the newest durable one, and returns those that match, with the
next index and the marks, in a payload of at most 576 bytes (R168, R169). STATUS carries the items that the blocks' rules name (R9,
R25, R27, R32, R82, R86, R92, R97, R106, R107, R130). READ_SETTINGS carries the items of its section with their marks (R198). READ_OBS above
64 and READ_ARCHIVE above 32 are refused with RANGE; a kind or a section that is none, and a RATING section without a slot from 1
to 4, with BAD_REQUEST. The model's choices in it: log entries 14 (the STATUS payload), 20 (corners of READ_ARCHIVE: the order of
its refusals, the newest durable record, damaged records not counted as examined, EARLIER_GONE, and the one count at the front), 22
(the revision, a free value), 23 (remaining seconds are rounded down) and 24 (the present vertical is counted from 1). -/
def Obligations.ReadsAreAnsweredAtOnce : Prop :=
  (∀ (a : Archive) (start width : Nat), ItemsOf a (a.items start width)) ∧
  (∀ (a : Archive) (start count : Nat) (f : KindFilter),
    ReadAnswers (a.items start 4294967296) start count f (a.read start count f) ∧
      (payloadBytes (.archive (a.read start count f))).length ≤ 576) ∧
  (∀ (s : State) (part : SettingsSection) (slot : Option Nat),
    s.section part slot = none ↔ part = .rating ∧ ∀ n, slot = some n → n = 0 ∨ 4 < n) ∧
  (∀ (st : Store) (i : ItemId),
    ((st.marks i).defaulted = true ↔ i ∈ st.defaulted) ∧ ((st.marks i).pending = true ↔ ∃ w ∈ st.queue, w.data.item = i)) ∧
  (∀ s : State, ∀ m : ItemId → Marks, m = s.store.marks →
    (∀ slot, s.section .acquisition slot =
      some
        (.acquisition
          ⟨⟨s.lau.channels.la, m (.channel .LA)⟩, ⟨s.lau.channels.lb, m (.channel .LB)⟩, ⟨s.lau.channels.lc, m (.channel .LC)⟩⟩
          ⟨s.lau.settings, m .acquisition⟩ ⟨s.lau.hold.limit, m .holdLimit⟩)) ∧
    (∀ slot, ∃ th, s.section .warning slot = some (.warning th ⟨s.warning.timers, m .warning⟩) ∧
      ∀ n : Fin 8, th.get n = ⟨s.warning.settings.get n, m (.threshold n)⟩) ∧
    (∀ slot, s.section .cableway slot = some (.cableway ⟨s.cable.settings, m .cableway⟩ s.cable.available)) ∧
    (∀ n : Fin 4, s.section .rating (some (n.val + 1)) =
      some (.rating ⟨(s.rating.slots.get n).version, m (.slot n)⟩ s.rating.lastId s.rating.frozen)) ∧
    (∀ slot, s.section .shifts slot = some (.shifts ⟨s.rating.shifts, m .shifts⟩)) ∧
    ∀ slot, s.section .datum slot = some (.datum ⟨s.rating.elevation, m .datum⟩ s.rating.fixed)) ∧
  (∀ s : State, ∀ a, a = s.statusAnswer →
    ∀ left : Nat → Nat, left = (fun expiry => (expiry - s.elapsed) / 100) →
    (∀ c : Channel, (s.lau.status.get c = none → a.channels.get c = none) ∧
      ∀ st, s.lau.status.get c = some st → a.channels.get c = some st.fault) ∧
    a.time = s.clock.time ∧ a.elapsedSeconds = s.elapsed / 100 ∧
    (s.lau.hold.timer = none → a.holdRemaining = none) ∧
    (∀ e, s.lau.hold.timer = some e → a.holdRemaining = some (left e)) ∧ a.manual = s.lau.hold.manual ∧
    a.thresholds = s.warning.live ∧ a.level = s.warning.level ∧ a.firstTime = s.warning.firstTime ∧
    (s.warning.deadline = .stopped → a.deadline = .stopped ∧ a.deadlineRemaining = none) ∧
    (∀ e, s.warning.deadline = .running e → a.deadline = .running ∧ a.deadlineRemaining = some (left e)) ∧
    (s.warning.deadline = .expired → a.deadline = .expired ∧ a.deadlineRemaining = none) ∧
    (s.warning.silent = true → a.silenceRemaining = none) ∧
    (s.warning.silent = false → ∀ e, s.warning.silenceTimer = some e → a.silenceRemaining = some (left e)) ∧
    a.available = s.cable.available ∧ a.runState = s.cable.state ∧ a.holder = s.cable.holder ∧
    a.endCause = s.cable.endCause ∧ (s.cable.run = none → a.vertical = none) ∧
    (∀ r, s.cable.run = some r → a.vertical = some (r.vertical + 1)) ∧
    (s.cable.state ≠ .paused → a.pauseRemaining = none) ∧
    (s.cable.state = .paused → ∀ e, s.cable.pauseTimer = some e → a.pauseRemaining = some (left e)) ∧
    a.gaugings = s.gauging.list.length ∧ (s.gauging.list = [] → a.newestGauging = none) ∧
    (∀ e, s.gauging.list.getLast? = some e → a.newestGauging = some e.record.id) ∧
    (s.gauging.run = none → a.runVerticals = none) ∧
    ∀ rr, s.gauging.run = some rr → a.runVerticals = some rr.results.length) ∧
  (∀ (n : Nat) (l : List Observation), newest n l = l.drop (l.length - n)) ∧
  (∀ l : List Observation, ∃ k, fitting l = l.drop k ∧ (payloadBytes (.observations (fitting l))).length ≤ 576 ∧
    ∀ j, j < k → 576 < (payloadBytes (.observations (l.drop j))).length) ∧
  ∀ (s : State) (p : Port) (tag : Byte), s.takes p = true →
    (∃ t, exec (.status p tag true) s = .next t ∧ Answered t p 35 tag .ok (.status (s.heard p).statusAnswer) ∧
      SameBlocks (s.heard p) t ∧ SamePorts (s.heard p) t p) ∧
    (∃ t, exec (.readDescriptor p tag true) s = .next t ∧
      Answered t p 19 tag .ok
        (.descriptor
          { family := "FOLVARA", part := "FV-632", revision := Config.siliconRevision, available := s.cable.available
            elevation := s.rating.elevation, fixed := s.rating.fixed
            healthy := (s.heard p).archive.healthy, retired := (s.heard p).archive.retired
            time := s.clock.time, quality := s.clock.quality }) ∧
      SameBlocks (s.heard p) t ∧ SamePorts (s.heard p) t p) ∧
    (∀ (part : SettingsSection) (slot : Option Nat) (a : SettingsAnswer), (s.heard p).section part slot = some a →
      ∃ t, exec (.readSettings p tag (some { part := some part, slot := slot })) s = .next t ∧
        Answered t p 22 tag .ok (.settings a) ∧ SameBlocks (s.heard p) t ∧ SamePorts (s.heard p) t p) ∧
    (∀ n : Nat, n ≤ 64 →
      ∃ t, exec (.readObs p tag (some n)) s = .next t ∧
        Answered t p 21 tag .ok (.observations (fitting (newest (if n = 0 then 16 else n) s.lau.series))) ∧
        SameBlocks (s.heard p) t ∧ SamePorts (s.heard p) t p) ∧
    (∀ f : ReadArchiveFields, f.count ≤ 32 → f.filter ≠ .unknown →
      ∃ t, exec (.readArchive p tag (some f)) s = .next t ∧
        Answered t p 18 tag .ok
          (.archive ((s.heard p).archive.read f.start (if f.count = 0 then 16 else f.count) f.filter)) ∧
        SameBlocks (s.heard p) t ∧ SamePorts (s.heard p) t p) ∧
    (∀ n : Nat, 64 < n →
      ∃ t, exec (.readObs p tag (some n)) s = .next t ∧ Answered t p 21 tag .range .empty ∧ SameBlocks (s.heard p) t ∧
        SamePorts (s.heard p) t p) ∧
    (∀ f : ReadArchiveFields, 32 < f.count →
      ∃ t, exec (.readArchive p tag (some f)) s = .next t ∧ Answered t p 18 tag .range .empty ∧ SameBlocks (s.heard p) t ∧
        SamePorts (s.heard p) t p) ∧
    (∀ f : ReadArchiveFields, f.count ≤ 32 → f.filter = .unknown →
      ∃ t, exec (.readArchive p tag (some f)) s = .next t ∧ Answered t p 18 tag .badRequest .empty ∧
        SameBlocks (s.heard p) t ∧ SamePorts (s.heard p) t p) ∧
    (∀ f : ReadSettingsFields, (f.part = none ∨ (f.part = some .rating ∧ ∀ n, f.slot = some n → n = 0 ∨ 4 < n)) →
      ∃ t, exec (.readSettings p tag (some f)) s = .next t ∧ Answered t p 22 tag .badRequest .empty ∧
        SameBlocks (s.heard p) t ∧ SamePorts (s.heard p) t p)

/-- READ_GAUGING: the record, or NOT_FOUND, at once; deferred while the result state is COMPUTING (R152, R153). A read so deferred
is answered at the end of COMPUTING, from the list as it then stands: when the record is durable, and when the archive fails and
drops it, flagged NOT_ARCHIVED and without an index (R147, R148, R151, R153, R161, R165). -/
def Obligations.ReadGaugingAnswersFromTheList : Prop :=
  (∀ (s : State) (p : Port) (id : Nat) (o : Owed), s.ports.slot p = some o → o.waitGauging = some id → o.answered = false →
    ∀ g, s.gauging.computing = some g →
    ∀ (na : Bool) (index : Option Nat) (list : List GaugingEntry),
      list =
        s.gauging.list.drop (s.gauging.list.length - 7) ++
          [{ record := { g with flags := { g.flags with notArchived := na } }, index := index }] →
    ∀ found, found = (if id = 0 then list.getLast? else list.find? (fun e => e.record.id = id)) →
    ∀ ends : State → Prop,
      ends =
        (fun t =>
          t.gauging = { s.gauging with computing := none, list := list, result := .ready } ∧
            (∀ e, found = some e → Answered t p o.code.toNat o.tag .ok (.gauging e)) ∧
            (found = none → Answered t p o.code.toNat o.tag .notFound .empty)) →
    (∀ n, s.archive.op = .record n → ∀ q, s.archive.queue.head? = some q → q.owner = .gauging → index = q.index → na = false →
      ∃ t, exec .recordProgrammed s = .next t ∧ ends t) ∧
    (∀ (i : Instr) (left : Remnant) (n : Nat),
      ((i = .programFailure left ∧ (s.archive.op = .record n ∨ s.archive.op = .closedMark n ∨ ∃ v, s.archive.op = .header n v)) ∨
        (i = .eraseFailure left ∧ s.archive.op = .erase n)) →
      s.archive.state.isFailed = false → (∃ q ∈ s.archive.queue ++ s.archive.waiting, q.owner = .gauging) → index = none →
      na = true →
      ∃ t, exec i s = .next t ∧ (t.archive.state.isFailed = true → ends t))) ∧
  ∀ (s : State) (p : Port) (tag : Byte) (id : Nat), s.takes p = true →
    (s.gauging.result ≠ .computing →
      ∀ e, (if id = 0 then s.gauging.list.getLast? else s.gauging.list.find? (fun e => e.record.id = id)) = some e →
      ∃ t, exec (.readGauging p tag (some id)) s = .next t ∧ Answered t p 20 tag .ok (.gauging e) ∧
        SameBlocks (s.heard p) t ∧ SamePorts (s.heard p) t p) ∧
    (s.gauging.result ≠ .computing →
      (if id = 0 then s.gauging.list.getLast? else s.gauging.list.find? (fun e => e.record.id = id)) = none →
      ∃ t, exec (.readGauging p tag (some id)) s = .next t ∧ Answered t p 20 tag .notFound .empty ∧
        SameBlocks (s.heard p) t ∧ SamePorts (s.heard p) t p) ∧
    (s.gauging.result = .computing →
      ∃ t, exec (.readGauging p tag (some id)) s = .next t ∧ ∃ o, t.ports.slot p = some o ∧ o.waitGauging = some id ∧
        o.answered = false ∧ SameBlocks (s.heard p) t ∧ SamePorts (s.heard p) t p)

/-- VERIFY_ARCHIVE fixes its range and is deferred, an empty range is answered at once; the range is those of the records that
reading meets, up to the newest durable one, whose index lies within the count from the start index, and without a durable record
it is empty. VERIFY_RECORD_CHECKED counts the next record of the range
that is still held, passing over those that have left the archive; VERIFICATION_END answers with the index of the first record
still held that fails its check, or with none at the end of the range (R170, R171). The model's choices in it: log entries 20
and 21. -/
def Obligations.AVerificationChecksItsRange : Prop :=
  (∀ (a : Archive) (start count : Nat), a.standing.all (·.intact) = true →
    (a.verifyRange start count).map (·.index) =
      (a.standing.map (·.index)).filter (fun i => decide (start ≤ i ∧ i < start + count))) ∧
  (∀ (a : Archive) (start count : Nat), ∀ items, items = a.items start count →
    ItemsOf a items ∧
      (a.verifyRange start count).map (·.index) =
        (items.map (·.index)).filter (fun i => decide (start ≤ i ∧ i < start + count))) ∧
  (∀ (a : Archive) (start count : Nat),
    (∀ e ∈ a.pages, e.2.isHeld = true → ∀ r, e.2.records.head? = some r → r.intact = false) → a.verifyRange start count = []) ∧
  (∀ (s : State) (p : Port) (tag : Byte) (f : VerifyFields), s.takes p = true →
    ∀ count, count = (if f.count = 0 then 65535 else f.count) →
    ∀ range, range = (s.heard p).archive.verifyRange f.start count →
    ∀ gone, gone = earlierGone ((s.heard p).archive.items f.start count) f.start →
    (range = [] →
      ∃ t, exec (.verifyArchive p tag (some f)) s = .next t ∧
        Answered t p 36 tag .ok (.verified { firstBad := none, checked := 0, passed := 0, earlierGone := gone }) ∧
        SameBlocks (s.heard p) t ∧ SamePorts (s.heard p) t p) ∧
    (range ≠ [] →
      ∃ t, exec (.verifyArchive p tag (some f)) s = .next t ∧ ∃ o, t.ports.slot p = some o ∧ o.waitVerify = true ∧
        o.answered = false ∧ SamePorts (s.heard p) t p ∧
        SameBlocks
          { s.heard p with
            archive :=
              { (s.heard p).archive with
                verifications := (s.heard p).archive.verifications.set p
                  (some { remaining := range, checked := 0, passed := 0, earlierGone := gone }) } } t)) ∧
  (∀ (s : State) (p : Port), ∀ v, s.archive.verifications.get p = some v →
    ∀ gone rest, v.remaining = gone ++ rest → gone.all (fun i => !s.archive.stillHeld i) = true →
    (∀ i more, rest = i :: more → s.archive.stillHeld i = true → s.archive.passes i = true →
      ∃ t, exec (.verifyRecordChecked p) s = .next t ∧
        SameBlocks
          { s with
            archive :=
              { s.archive with
                verifications := s.archive.verifications.set p
                  (some
                    { v with remaining := more, checked := v.checked + 1, passed := v.passed + gone.length }) } } t ∧
        ∀ q, t.ports.slot q = s.ports.slot q) ∧
    (∀ o, s.ports.slot p = some o → o.answered = false →
      (rest = [] ∨ ∃ i, rest.head? = some i ∧ s.archive.stillHeld i = true ∧ s.archive.passes i = false) →
      ∃ t, exec (.verificationEnd p) s = .next t ∧
        Answered t p o.code.toNat o.tag .ok
          (.verified
            { firstBad := rest.head?.map (·.index), checked := v.checked, passed := v.passed + gone.length
              earlierGone := v.earlierGone }) ∧
        SameBlocks { s with archive := { s.archive with verifications := s.archive.verifications.set p none } } t))

/-! ### Settings -/

/-- SET_CHANNEL replaces the record at once, with the channel's status as R2 gives it, and its answer waits for the write; a
preference that another enabled channel has, or a value out of range, is refused with RANGE, and an unknown channel with
BAD_REQUEST (R1, R2, R9). The model's choices in it: log entries 11 (the acquisition in flight when its channel is disabled),
13 (an enabled mark that has no meaning) and 39 (BAD_REQUEST where the name is unknown and a field is out of range too, since R2
gives its refusals no order). -/
def Obligations.SetChannelReplacesTheRecord : Prop :=
  ∀ (s : State) (p : Port) (tag : Byte), s.takes p = true → ∀ h, h = s.heard p → ∀ f : ChannelFields,
    (f.channel = none →
      ∃ t, exec (.setChannel p tag (some f)) s = .next t ∧ Answered t p 28 tag .badRequest .empty ∧ SameBlocks h t ∧
        SamePorts h t p) ∧
    ∀ c, f.channel = some c →
      (∀ e, f.enabled = some e →
        (1 ≤ f.preference ∧ f.preference ≤ 3 ∧ -30000 ≤ f.offset ∧ f.offset ≤ 30000 ∧ 1 ≤ f.gain ∧ f.gain ≤ 60000) →
        (e = true → ∀ d, d ≠ c → (h.lau.channels.get d).enabled = true → (h.lau.channels.get d).preference ≠ f.preference) →
        ∃ t, exec (.setChannel p tag (some f)) s = .next t ∧ Owes t p 28 tag true false .empty ∧ SamePorts h t p ∧
          Stored
            { h with
              lau :=
                { h.lau with
                  channels := h.lau.channels.set c { enabled := e, preference := f.preference, offset := f.offset, gain := f.gain }
                  status :=
                    h.lau.status.set c
                      (if e then (if (h.lau.channels.get c).enabled then h.lau.status.get c else some ⟨false, 0, 0⟩) else none)
                  acq := if e then h.lau.acq else h.lau.acq.map (fun a => a.disable c) } }
            t p (.channel c { enabled := e, preference := f.preference, offset := f.offset, gain := f.gain })) ∧
      ((f.enabled = none ∨ f.preference < 1 ∨ 3 < f.preference ∨ f.offset < -30000 ∨ 30000 < f.offset ∨ f.gain < 1 ∨
          60000 < f.gain ∨
          (f.enabled = some true ∧
            ∃ d, d ≠ c ∧ (h.lau.channels.get d).enabled = true ∧ (h.lau.channels.get d).preference = f.preference)) →
        ∃ t, exec (.setChannel p tag (some f)) s = .next t ∧ Answered t p 28 tag .range .empty ∧ SameBlocks h t ∧
          SamePorts h t p)

/-- SET_HOLD_LIMIT, SET_WARNING_TIMERS and SET_CABLEWAY: a value within its ranges is in force at once and its answer waits for
the write; any other is refused with RANGE; and SET_CABLEWAY outside IDLE with WRONG_STATE (R32, R101, R103, R104, R106). -/
def Obligations.SettingsChangesAreWrittenThrough : Prop :=
  ∀ (s : State) (p : Port) (tag : Byte), s.takes p = true → ∀ h, h = s.heard p →
    (∀ n : Nat,
      (300 ≤ n ∧ n ≤ 7200 →
        ∃ t, exec (.setHoldLimit p tag (some n)) s = .next t ∧ Owes t p 29 tag true false .empty ∧ SamePorts h t p ∧
          Stored { h with lau := { h.lau with hold := { h.lau.hold with limit := n } } } t p (.holdLimit n)) ∧
      (n < 300 ∨ 7200 < n →
        ∃ t, exec (.setHoldLimit p tag (some n)) s = .next t ∧ Answered t p 29 tag .range .empty ∧ SameBlocks h t ∧
          SamePorts h t p)) ∧
    (∀ w : WarningTimers,
      (60 ≤ w.deadline ∧ w.deadline ≤ 3600 ∧ 600 ≤ w.silence ∧ w.silence ≤ 86400 →
        ∃ t, exec (.setWarningTimers p tag (some w)) s = .next t ∧ Owes t p 33 tag true false .empty ∧ SamePorts h t p ∧
          Stored { h with warning := { h.warning with timers := w } } t p (.warning w)) ∧
      (w.deadline < 60 ∨ 3600 < w.deadline ∨ w.silence < 600 ∨ 86400 < w.silence →
        ∃ t, exec (.setWarningTimers p tag (some w)) s = .next t ∧ Answered t p 33 tag .range .empty ∧ SameBlocks h t ∧
          SamePorts h t p)) ∧
    (p = .F → ∀ c : CablewaySettings,
      (h.cable.state ≠ .idle →
        ∃ t, exec (.setCableway p tag (some c)) s = .next t ∧ Answered t p 27 tag .wrongState .empty ∧ SameBlocks h t ∧
          SamePorts h t p) ∧
      (h.cable.state = .idle →
        ((c.span = 0 ∨ (10000 ≤ c.span ∧ c.span ≤ 600000)) ∧ -2000 ≤ c.unattendedLimit ∧
          c.unattendedLimit ≤ c.attendedLimit ∧ c.attendedLimit ≤ 20000 ∧ 50 ≤ c.weightOffset ∧ c.weightOffset ≤ 500 ∧
          300 ≤ c.twoPointMinimum ∧ c.twoPointMinimum ≤ 2000 ∧ 3 ≤ c.deadMan ∧ c.deadMan ≤ 15 ∧ 60 ≤ c.pauseLimit ∧
          c.pauseLimit ≤ 900 ∧ 60 ≤ c.traverseTimeout ∧ c.traverseTimeout ≤ 1800 ∧ 30 ≤ c.reelTimeout ∧ c.reelTimeout ≤ 600) →
        ∃ t, exec (.setCableway p tag (some c)) s = .next t ∧ Owes t p 27 tag true false .empty ∧ SamePorts h t p ∧
          Stored { h with cable := { h.cable with settings := c, available := decide (c.span ≠ 0) } } t p (.cableway c)) ∧
      (h.cable.state = .idle →
        ((0 < c.span ∧ c.span < 10000) ∨ 600000 < c.span ∨ c.unattendedLimit < -2000 ∨ c.attendedLimit < c.unattendedLimit ∨
          20000 < c.attendedLimit ∨ c.weightOffset < 50 ∨ 500 < c.weightOffset ∨ c.twoPointMinimum < 300 ∨
          2000 < c.twoPointMinimum ∨ c.deadMan < 3 ∨ 15 < c.deadMan ∨ c.pauseLimit < 60 ∨ 900 < c.pauseLimit ∨
          c.traverseTimeout < 60 ∨ 1800 < c.traverseTimeout ∨ c.reelTimeout < 30 ∨ 600 < c.reelTimeout) →
        ∃ t, exec (.setCableway p tag (some c)) s = .next t ∧ Answered t p 27 tag .range .empty ∧ SameBlocks h t ∧
          SamePorts h t p))

/-- SET_ACQUISITION replaces the record at once and its answer waits for the write. A change of the interval in force that
leaves the due point ahead does nothing more; one that brings it to the present or the past asks for a start, which is owed
while an acquisition is in flight or in the second of the newest observation, and taken at once otherwise. A record out of range
is refused with RANGE (R3, R4, R21, R22, R23). A start that powers no sensor forms its observation at once (R4, R10, R37). The
model's choices in it: log entries 5 and 35 (the encoder lines of a refused request), 8 (the order of what an append does) and 10. -/
def Obligations.SetAcquisitionReplacesTheRecord : Prop :=
  ∀ (s : State) (p : Port) (tag : Byte) (x : Encoders) (f : AcqSettings), s.takes p = true →
    ∀ h, h = (s.sample x).heard p →
      ((f.warmUp ≤ 10 ∧ 3 ≤ f.burst ∧ f.burst ≤ 15 ∧ f.burst % 2 = 1 ∧ 300 ≤ f.window ∧ f.window ≤ 3600 ∧ 5 ≤ f.tolerance ∧
          f.tolerance ≤ 500 ∧ 15 ≤ f.alarm ∧ f.alarm ≤ f.warn ∧ f.warn ≤ f.watch ∧ f.watch ≤ f.clear ∧ f.clear ≤ 3600) →
        ((intervalAt f h.warning.level = intervalAt h.lau.settings h.warning.level ∨
            (∀ l, h.lau.lastStart = some l → h.elapsed < l + 100 * intervalAt f h.warning.level)) →
          ∃ t, exec (.setAcquisition p tag (some f) x) s = .next t ∧ Owes t p 26 tag true false .empty ∧ SamePorts h t p ∧
            Stored { h with lau := { h.lau with settings := f } } t p (.acquisition f)) ∧
        (intervalAt f h.warning.level ≠ intervalAt h.lau.settings h.warning.level →
          ∀ l, h.lau.lastStart = some l → l + 100 * intervalAt f h.warning.level ≤ h.elapsed →
          (h.lau.acq.isSome = true ∨ h.sameSecond = true →
            ∃ t, exec (.setAcquisition p tag (some f) x) s = .next t ∧ Owes t p 26 tag true false .empty ∧ SamePorts h t p ∧
              Stored { h with lau := { h.lau with settings := f, startOwed := true } } t p (.acquisition f)) ∧
          (h.lau.acq = none → h.sameSecond = false → h.lau.hold.state ≠ .held →
            (∃ c : Channel, (h.lau.channels.get c).enabled = true) →
            ∃ t, exec (.setAcquisition p tag (some f) x) s = .next t ∧ Owes t p 26 tag true false .empty ∧ SamePorts h t p ∧
              Stored { h with lau := { h.lau with settings := f }.started h.elapsed } t p (.acquisition f)) ∧
          (h.lau.acq = none → h.laterSecond = true → h.lau.startsWithoutSensors = true →
            ∃ t, exec (.setAcquisition p tag (some f) x) s = .next t ∧ Owes t p 26 tag true false .empty ∧
              ∃ v, Stored { h with lau := { h.lau with settings := f } } v p (.acquisition f) ∧ ObservedWithoutSensors v t))) ∧
      ((10 < f.warmUp ∨ f.burst < 3 ∨ 15 < f.burst ∨ f.burst % 2 = 0 ∨ f.window < 300 ∨ 3600 < f.window ∨ f.tolerance < 5 ∨
          500 < f.tolerance ∨ f.alarm < 15 ∨ f.warn < f.alarm ∨ f.watch < f.warn ∨ f.clear < f.watch ∨ 3600 < f.clear) →
        ∃ t, exec (.setAcquisition p tag (some f) x) s = .next t ∧ Answered t p 26 tag .range .empty ∧ SameBlocks h t ∧
          SamePorts h t p)

/-- SET_THRESHOLD replaces the record's settings and makes it INACTIVE with count 0. A level that stays the same gives the
write alone; a lower level is a de-escalation with its LEVEL notice and record (R79, R80, R81, R88, R90), which leaves a run in
progress that the new level does not bar as it is (R91, R123), and asks for a start where the new interval brings the due point to the
present or the past (R4, R21, R22, R23, R37). The model's choices in it: log entries 5 and 35 (the encoder lines of a refused
request), 8 (the order of a level change's effects), 10 and 13 (a mark that has no meaning). -/
def Obligations.SetThresholdReplacesTheRecord : Prop :=
  ∀ (s : State) (p : Port) (tag : Byte) (x : Encoders) (f : ThresholdFields), s.takes p = true →
    ∀ h, h = (s.sample x).heard p →
      ((f.number = 0 ∨ 8 < f.number ∨ f.enabled = none ∨ f.quantity = none ∨ f.severity = none) →
        ∃ t, exec (.setThreshold p tag (some f) x) s = .next t ∧ Answered t p 31 tag .badRequest .empty ∧ SameBlocks h t ∧
          SamePorts h t p) ∧
      ∀ n : Fin 8, f.number = n.val + 1 → ∀ e, f.enabled = some e → ∀ q, f.quantity = some q → ∀ v, f.severity = some v →
        ∀ low : Int, low = (match q with | .stage => -2000 | .rise => -30000 | .flow => 0) →
        ∀ high : Int, high = (match q with | .stage => 20000 | .rise => 30000 | .flow => 40000000) →
        ((f.level < low ∨ high < f.level ∨ f.margin < 0 ∨ f.level - f.margin < low ∨ f.persistence < 1 ∨ 10 < f.persistence) →
          ∃ t, exec (.setThreshold p tag (some f) x) s = .next t ∧ Answered t p 31 tag .range .empty ∧ SameBlocks h t ∧
            SamePorts h t p) ∧
        ((low ≤ f.level ∧ f.level ≤ high ∧ 0 ≤ f.margin ∧ low ≤ f.level - f.margin ∧ 1 ≤ f.persistence ∧ f.persistence ≤ 10) →
          ∀ r : ThresholdSettings,
            r = { enabled := e, quantity := q, level := f.level, margin := f.margin, persistence := f.persistence, severity := v } →
          ∀ w : Warning,
            w = { h.warning with settings := h.warning.settings.set n r, live := h.warning.live.set n ⟨false, 0⟩ } →
          (w.formed = h.warning.level →
            ∃ t, exec (.setThreshold p tag (some f) x) s = .next t ∧ Owes t p 31 tag true false .empty ∧ SamePorts h t p ∧
              Stored { h with warning := w } t p (.threshold n r)) ∧
          (levelRank w.formed < levelRank h.warning.level → h.hasRoom = true →
            (∀ run, h.cable.run = some run → w.formed ≠ .alarm ∧ (run.kind = .unattended → w.formed ≠ .warn)) →
            ∀ changed : State → Lau → Prop,
              changed =
                (fun t lau =>
                  t.warning.relay = t.warning.relayRequired ∧
                  StoredAndRecorded
                    { h.told (.level w.formed h.warning.level h.warning.level) with
                      lau := lau
                      warning :=
                        if w.formed = .clear then
                          { w with
                            level := .clear, owed := false, firstTime := none, deadline := .stopped, relay := t.warning.relay }
                        else { w with level := w.formed, relay := t.warning.relay } }
                    t p (.threshold n r)
                    (.level (t.warning.body (.changed h.warning.level (.setThreshold f.number p))))) →
            ∀ asks : Prop,
              (asks ↔ intervalAt h.lau.settings w.formed ≠ intervalAt h.lau.settings h.warning.level ∧
                ∃ l, h.lau.lastStart = some l ∧ l + 100 * intervalAt h.lau.settings w.formed ≤ h.elapsed) →
            (¬ asks →
              ∃ t, exec (.setThreshold p tag (some f) x) s = .next t ∧ Owes t p 31 tag true false .empty ∧ SamePorts h t p ∧
                changed t h.lau) ∧
            (asks → h.lau.acq.isSome = true ∨ h.sameSecond = true →
              ∃ t, exec (.setThreshold p tag (some f) x) s = .next t ∧ Owes t p 31 tag true false .empty ∧ SamePorts h t p ∧
                changed t { h.lau with startOwed := true }) ∧
            (asks → h.lau.acq = none → h.sameSecond = false → h.lau.hold.state ≠ .held →
              (∃ c : Channel, (h.lau.channels.get c).enabled = true) →
              ∃ t, exec (.setThreshold p tag (some f) x) s = .next t ∧ Owes t p 31 tag true false .empty ∧ SamePorts h t p ∧
                changed t (h.lau.started h.elapsed)) ∧
            (asks → h.lau.acq = none → h.laterSecond = true → h.lau.startsWithoutSensors = true →
              ∃ t, exec (.setThreshold p tag (some f) x) s = .next t ∧ Owes t p 31 tag true false .empty ∧
                ∃ v, changed v h.lau ∧ ObservedWithoutSensors v t)))

/-! ### The rating store, the datum and the shift table -/

/-- COMMIT_RATING, by the checks of R46 in order: an accepted version takes a new id, the first after the last assigned one, 255
followed by 1, that no held version carries; it goes into the lowest-numbered vacant slot or in place of the superseded version
with the earliest effective-from, and gives the write of that slot, with a write number one greater than the greatest, and a RATING
record (R44, R46, R47, R48, R49, R53, R54, R56). -/
def Obligations.CommitRatingPlacesTheVersion : Prop :=
  (∀ l : List RatingPoint,
    pointsValid l = true ↔
      2 ≤ l.length ∧ l.length ≤ 32 ∧ (∀ a ∈ l, -2000 ≤ a.stage ∧ a.stage ≤ 20000 ∧ a.discharge ≤ 40000000) ∧
        l.Pairwise (fun a b => a.stage < b.stage ∧ a.discharge ≤ b.discharge)) ∧
  (∀ (r : RatingStore) (n : Fin 4),
    r.vacantSlot = some n ↔ (r.slots.get n).version = none ∧ ∀ m, m < n → (r.slots.get m).version ≠ none) ∧
  (∀ r : RatingStore, r.vacantSlot = none ↔ ∀ n : Fin 4, (r.slots.get n).version ≠ none) ∧
  (∀ (held : List RatingVersion) (now : Nat),
    ∀ old : RatingVersion → Prop,
      old = (fun v => v ∈ held ∧ ∃ w ∈ held, v.effective < w.effective ∧ w.effective ≤ now) →
    (namedForRemoval held now = none ↔ ∀ v, ¬ old v) ∧
    ∀ v, namedForRemoval held now = some v → old v ∧ ∀ w, old w → v.effective ≤ w.effective) ∧
  (∀ r : RatingStore, 1 ≤ r.newId ∧ r.newId ≤ 255 ∧ ∀ v ∈ r.versions, v.id ≠ r.newId) ∧
  (∀ r : RatingStore, r.lastId ≤ 255 →
    ∃ k ≤ 4, r.newId = (r.lastId + k) % 255 + 1 ∧ ∀ j, j < k → ∃ v ∈ r.versions, v.id = (r.lastId + j) % 255 + 1) ∧
  (∀ r : RatingStore,
    (∀ n : Fin 4, (r.slots.get n).writeNumber < r.nextWrite) ∧ ∃ n : Fin 4, r.nextWrite = (r.slots.get n).writeNumber + 1) ∧
  ∀ (s : State) (p : Port) (tag : Byte) (f : RatingFields), s.takes p = true → ∀ h, h = s.heard p →
    (h.rating.frozen = true →
      ∃ t, exec (.commitRating p tag (some f)) s = .next t ∧ Answered t p 7 tag .frozen .empty ∧ SameBlocks h t ∧
        SamePorts h t p) ∧
    (h.rating.frozen = false → pointsValid f.points = false →
      ∃ t, exec (.commitRating p tag (some f)) s = .next t ∧ Answered t p 7 tag .range .empty ∧ SameBlocks h t ∧
        SamePorts h t p) ∧
    (h.rating.frozen = false → pointsValid f.points = true →
      ((∃ v ∈ h.rating.versions, v.effective = f.effective) →
        ∃ t, exec (.commitRating p tag (some f)) s = .next t ∧ Answered t p 7 tag .duplicateTime .empty ∧ SameBlocks h t ∧
          SamePorts h t p) ∧
      ((∀ v ∈ h.rating.versions, v.effective ≠ f.effective) →
        (h.rating.vacantSlot = none → namedForRemoval h.rating.versions h.clock.time = none →
          ∃ t, exec (.commitRating p tag (some f)) s = .next t ∧ Answered t p 7 tag .ratingFull .empty ∧ SameBlocks h t ∧
            SamePorts h t p) ∧
        ∀ item : SlotItem,
          item =
            { version := some { id := h.rating.newId, effective := f.effective, points := f.points }
              lastId := h.rating.newId, writeNumber := h.rating.nextWrite } →
          h.archive.hasRoom = true →
          (∀ n, h.rating.vacantSlot = some n →
            ∃ t, exec (.commitRating p tag (some f)) s = .next t ∧
              Owes t p 7 tag true false (.committed h.rating.newId none) ∧ SamePorts h t p ∧
              StoredAndRecorded
                { h with rating := { h.rating with slots := h.rating.slots.set n item, lastId := h.rating.newId } } t p
                (.slot n item) (.rating (.committed p h.rating.newId f.effective f.points none))) ∧
          (h.rating.vacantSlot = none → ∀ v, namedForRemoval h.rating.versions h.clock.time = some v →
            ∀ n, h.rating.slotOf v.id = some n →
            ∃ t, exec (.commitRating p tag (some f)) s = .next t ∧
              Owes t p 7 tag true false (.committed h.rating.newId (some v.id)) ∧ SamePorts h t p ∧
              StoredAndRecorded
                { h with rating := { h.rating with slots := h.rating.slots.set n item, lastId := h.rating.newId } } t p
                (.slot n item) (.rating (.committed p h.rating.newId f.effective f.points (some v))))))

/-- DELETE_RATING empties the version's slot and FREEZE_RATING freezes the store until the next reset, each with its RATING
record and by its checks in order (R50, R51, R53, R54, R56). -/
def Obligations.DeleteAndFreezeChangeTheRatingStore : Prop :=
  ∀ (s : State) (p : Port) (tag : Byte), s.takes p = true → ∀ h, h = s.heard p →
    (∀ id : Nat,
      (h.rating.frozen = true →
        ∃ t, exec (.deleteRating p tag (some id)) s = .next t ∧ Answered t p 8 tag .frozen .empty ∧ SameBlocks h t ∧
          SamePorts h t p) ∧
      (h.rating.frozen = false → h.rating.versions.all (fun v => v.id ≠ id) = true →
        ∃ t, exec (.deleteRating p tag (some id)) s = .next t ∧ Answered t p 8 tag .notFound .empty ∧ SameBlocks h t ∧
          SamePorts h t p) ∧
      (h.rating.frozen = false → ∀ v, h.rating.versions.find? (fun v => v.id = id) = some v →
        (inForce h.rating.versions h.clock.time = some v →
          ∃ t, exec (.deleteRating p tag (some id)) s = .next t ∧ Answered t p 8 tag .inForce .empty ∧ SameBlocks h t ∧
            SamePorts h t p) ∧
        (inForce h.rating.versions h.clock.time ≠ some v → h.archive.hasRoom = true →
          ∀ n, h.rating.slotOf id = some n →
          ∃ t, exec (.deleteRating p tag (some id)) s = .next t ∧ Owes t p 8 tag true false .empty ∧ SamePorts h t p ∧
            StoredAndRecorded
              { h with
                rating :=
                  { h.rating with
                    slots :=
                      h.rating.slots.set n { version := none, lastId := h.rating.lastId, writeNumber := h.rating.nextWrite } } }
              t p (.slot n { version := none, lastId := h.rating.lastId, writeNumber := h.rating.nextWrite })
              (.rating (.deleted p id v.effective))))) ∧
    (h.rating.frozen = true →
      ∃ t, exec (.freezeRating p tag true) s = .next t ∧ Answered t p 13 tag .ok .empty ∧ SameBlocks h t ∧ SamePorts h t p) ∧
    (h.rating.frozen = false → h.archive.hasRoom = true →
      ∃ t, exec (.freezeRating p tag true) s = .next t ∧ Answered t p 13 tag .ok .empty ∧ SamePorts h t p ∧
        Recorded { h with rating := { h.rating with frozen := true } } t (.rating (.frozen p)))

/-- WRITE_DATUM and FIX_DATUM: from Port F, while the elevation is not FIXED, with the write and the DATUM record; FIX_DATUM
programs the write-once cell with the elevation in force (R40, R41, R42, R54, R55). -/
def Obligations.DatumRequestsChangeTheDatum : Prop :=
  ∀ (s : State) (tag : Byte), s.takes .F = true → ∀ h, h = s.heard .F →
    (h.rating.fixed = true → ∀ v : Int,
      (∃ t, exec (.writeDatum .F tag (some v)) s = .next t ∧ Answered t .F 37 tag .fixed .empty ∧ SameBlocks h t ∧
        SamePorts h t .F) ∧
      (∃ t, exec (.fixDatum .F tag true) s = .next t ∧ Answered t .F 11 tag .fixed .empty ∧ SameBlocks h t ∧
        SamePorts h t .F)) ∧
    (h.rating.fixed = false → ∀ v : Int, v < -9999999 ∨ 9999999 < v →
      ∃ t, exec (.writeDatum .F tag (some v)) s = .next t ∧ Answered t .F 37 tag .range .empty ∧ SameBlocks h t ∧
        SamePorts h t .F) ∧
    (h.rating.fixed = false → h.archive.hasRoom = true →
      (∀ v : Int, -9999999 ≤ v → v ≤ 9999999 →
        ∃ t, exec (.writeDatum .F tag (some v)) s = .next t ∧ Owes t .F 37 tag true false .empty ∧ SamePorts h t .F ∧
          StoredAndRecorded { h with rating := { h.rating with elevation := v } } t .F (.datum v)
            (.datum { fixed := false, before := h.rating.elevation, after := v, port := .F })) ∧
      (∃ t, exec (.fixDatum .F tag true) s = .next t ∧ Owes t .F 11 tag true false .empty ∧ SamePorts h t .F ∧
        StoredAndRecorded { h with rating := { h.rating with fixed := true } } t .F (.cell h.rating.elevation)
          (.datum { fixed := true, before := h.rating.elevation, after := h.rating.elevation, port := .F })))

/-- The insertion rule: an entry of the same time is replaced; else the oldest of 16 is removed first, and the entry is placed
in order of time (R62). -/
def Obligations.ShiftsAreInsertedInOrder : Prop :=
  ∀ (l : List ShiftEntry) (e : ShiftEntry), tableOk l →
    tableOk (insertShift l e).1 ∧
    (∀ old ∈ l, old.time = e.time →
      (insertShift l e).2 = (some old, none) ∧ (insertShift l e).1.length = l.length ∧
        ∀ a, a ∈ (insertShift l e).1 ↔ a = e ∨ (a ∈ l ∧ a ≠ old)) ∧
    ((∀ a ∈ l, a.time ≠ e.time) → l.length < 16 →
      (insertShift l e).2 = (none, none) ∧ (insertShift l e).1.length = l.length + 1 ∧
        ∀ a, a ∈ (insertShift l e).1 ↔ a = e ∨ a ∈ l) ∧
    ((∀ a ∈ l, a.time ≠ e.time) → l.length = 16 →
      (insertShift l e).2 = (none, l.head?) ∧ (insertShift l e).1.length = 16 ∧
        ∀ a, a ∈ (insertShift l e).1 ↔ a = e ∨ a ∈ l.drop 1)

/-- SET_SHIFT inserts a MANUAL entry and DELETE_SHIFT takes out the entry of its time, each with the write of the whole table
and a SHIFT record (R61, R63, R65, R66). -/
def Obligations.ShiftRequestsChangeTheTable : Prop :=
  ∀ (s : State) (p : Port) (tag : Byte), s.takes p = true → ∀ h, h = s.heard p →
    (∀ f : ShiftFields,
      (f.shift < -1000 ∨ 1000 < f.shift →
        ∃ t, exec (.setShift p tag (some f)) s = .next t ∧ Answered t p 30 tag .range .empty ∧ SameBlocks h t ∧
          SamePorts h t p) ∧
      (-1000 ≤ f.shift → f.shift ≤ 1000 → h.archive.hasRoom = true →
        ∀ e : ShiftEntry, e = { time := f.time, shift := f.shift, origin := .manual } →
        ∀ r, r = insertShift h.rating.shifts e →
        ∃ t, exec (.setShift p tag (some f)) s = .next t ∧ Owes t p 30 tag true false (.shiftCount r.1.length r.2.2) ∧
          SamePorts h t p ∧
          StoredAndRecorded { h with rating := { h.rating with shifts := r.1 } } t p (.shifts r.1)
            (.shift { event := .set, port := p, entry := e, replaced := r.2.1, removed := r.2.2, countAfter := r.1.length }))) ∧
    ∀ time : Nat,
      (h.rating.shifts.all (fun a => a.time ≠ time) = true →
        ∃ t, exec (.deleteShift p tag (some time)) s = .next t ∧ Answered t p 9 tag .notFound .empty ∧ SameBlocks h t ∧
          SamePorts h t p) ∧
      (h.archive.hasRoom = true → ∀ e, h.rating.shifts.find? (fun a => a.time = time) = some e →
        ∀ table, table = h.rating.shifts.filter (fun a => a.time ≠ time) →
        ∃ t, exec (.deleteShift p tag (some time)) s = .next t ∧ Owes t p 9 tag true false (.shiftCount table.length none) ∧
          SamePorts h t p ∧
          StoredAndRecorded { h with rating := { h.rating with shifts := table } } t p (.shifts table)
            (.shift
              { event := .deleted, port := p, entry := e, replaced := none, removed := none, countAfter := table.length }))

/-- ACCEPT_SHIFT and REJECT_SHIFT dispose of a PENDING gauging, once; acceptance inserts its candidate shift at its mid-time
(R64, R154, R155). -/
def Obligations.GaugingsAreDisposedOfOnce : Prop :=
  ∀ (s : State) (p : Port) (tag : Byte) (id : Nat), s.takes p = true → ∀ h, h = s.heard p →
    (id = 0 ∨ h.gauging.list.all (fun e => e.record.id ≠ id) = true →
      (∃ t, exec (.acceptShift p tag (some id)) s = .next t ∧ Answered t p 2 tag .notFound .empty ∧ SameBlocks h t ∧
        SamePorts h t p) ∧
      (∃ t, exec (.rejectShift p tag (some id)) s = .next t ∧ Answered t p 23 tag .notFound .empty ∧ SameBlocks h t ∧
        SamePorts h t p)) ∧
    (id ≠ 0 → ∀ e, h.gauging.list.find? (fun e => e.record.id = id) = some e →
      (e.record.disposition ≠ .pending →
        (∃ t, exec (.acceptShift p tag (some id)) s = .next t ∧ Answered t p 2 tag .wrongState .empty ∧ SameBlocks h t ∧
          SamePorts h t p) ∧
        (∃ t, exec (.rejectShift p tag (some id)) s = .next t ∧ Answered t p 23 tag .wrongState .empty ∧ SameBlocks h t ∧
          SamePorts h t p)) ∧
      (e.record.disposition = .pending →
        (∃ t, exec (.rejectShift p tag (some id)) s = .next t ∧ Answered t p 23 tag .ok .empty ∧ SamePorts h t p ∧
          SameBlocks
            { h with
              gauging :=
                { h.gauging with
                  list :=
                    h.gauging.list.map (fun a =>
                      if a.record.id = id then { a with record := { a.record with disposition := .rejected } } else a) } } t) ∧
        (h.archive.hasRoom = true → ∀ c, e.record.candidate = some c →
          ∀ n : ShiftEntry, n = { time := e.record.midTime, shift := c, origin := .gauging id } →
          ∀ r, r = insertShift h.rating.shifts n →
          ∃ t, exec (.acceptShift p tag (some id)) s = .next t ∧
            Owes t p 2 tag true false (.shiftCount r.1.length r.2.2) ∧ SamePorts h t p ∧
            StoredAndRecorded
              { h with
                rating := { h.rating with shifts := r.1 }
                gauging :=
                  { h.gauging with
                    list :=
                      h.gauging.list.map (fun a =>
                        if a.record.id = id then { a with record := { a.record with disposition := .accepted } } else a) } }
              t p (.shifts r.1)
              (.shift
                { event := .accepted, port := p, entry := n, replaced := r.2.1, removed := r.2.2, countAfter := r.1.length }))))

/-- The discharge of an effective stage: at a version's last point its discharge, on a segment the straight line, rounded half up
(R73); below the first point the first discharge, with BELOW_RATING when it is not 0 (R74); above the last point the last segment
extended, with ABOVE_RATING, and at most Q_MAX, with SATURATED where it would exceed it (R75). It is never above Q_MAX. The
computation at a stage and a station time before it: the shift at the time, prorated between two entries and rounded half away
from zero (R70), the effective stage in the stage range, with STAGE_CLAMPED (R71), and the version in force, without which there
is no discharge but NO_RATING (R52, R72). The inverse rating of a discharge: absent below the first point's discharge and in
a version without an increasing segment, the straight line of the segment that holds it, rounded half up (R76); at or above the
last point's discharge the last segment extended, at most 20,000 mm, and absent where that segment is flat (R77). -/
def Obligations.TheLookupInterpolates : Prop :=
  (∀ (n : Int) (d : Nat), 0 < d → ∃ q : Nat, halfAway n d = (if 0 ≤ n then (q : Int) else -(q : Int)) ∧
    d * q ≤ n.natAbs + d / 2 ∧ n.natAbs + d / 2 < d * (q + 1)) ∧
  (∀ t : Nat,
    shiftAt [] t = 0 ∧ (∀ (a : ShiftEntry) (l : List ShiftEntry), t ≤ a.time → shiftAt (a :: l) t = a.shift) ∧
      ∀ l : List ShiftEntry, shiftsIncrease l = true →
        (∀ before z, l = before ++ [z] → z.time ≤ t → shiftAt l t = z.shift) ∧
        ∀ before a b after, l = before ++ a :: b :: after → a.time ≤ t → t ≤ b.time →
          shiftAt l t = a.shift + halfAway ((b.shift - a.shift) * ((t : Int) - a.time)) (b.time - a.time)) ∧
  (∀ (l : List RatingVersion) (t : Nat),
    (inForce l t = none ↔ ∀ v ∈ l, t < v.effective) ∧
      ∀ v, inForce l t = some v → v ∈ l ∧ v.effective ≤ t ∧ ∀ w ∈ l, w.effective ≤ t → w.effective ≤ v.effective) ∧
  (∀ (r : RatingStore) (h : Int) (t : Nat), ∀ e : Int, e = h + shiftAt r.shifts t →
    ∀ clamped, clamped = decide (e < -2000 ∨ 20000 < e) →
    (inForce r.versions t = none →
      r.rate h t =
        { discharge := none, ratingId := none, shift := none
          flags :=
            { belowRating := false, aboveRating := false, saturated := false, noRating := true, stageClamped := clamped } }) ∧
    ∀ v, inForce r.versions t = some v → ∀ q, q = lookup v.points (max (-2000) (min 20000 e)) →
      r.rate h t =
        { discharge := some q.1, ratingId := some v.id, shift := some (shiftAt r.shifts t)
          flags :=
            { belowRating := q.2.1, aboveRating := q.2.2.1, saturated := q.2.2.2, noRating := false
              stageClamped := clamped } }) ∧
  (∀ (before after : List RatingPoint) (a b : RatingPoint) (he : Int), pointsValid (before ++ a :: b :: after) = true →
    a.stage ≤ he → he < b.stage →
    lookup (before ++ a :: b :: after) he =
      (a.discharge +
          ((b.discharge - a.discharge) * (he - a.stage).toNat + (b.stage - a.stage).toNat / 2) / (b.stage - a.stage).toNat,
        false, false, false)) ∧
  (∀ (before : List RatingPoint) (z : RatingPoint), pointsValid (before ++ [z]) = true →
    lookup (before ++ [z]) z.stage = (z.discharge, false, false, false)) ∧
  (∀ (a : RatingPoint) (l : List RatingPoint) (he : Int), he < a.stage →
    lookup (a :: l) he = (a.discharge, decide (a.discharge ≠ 0), false, false)) ∧
  (∀ (before : List RatingPoint) (a z : RatingPoint) (he : Int), pointsValid (before ++ [a, z]) = true → z.stage < he →
    ∀ q, q =
        z.discharge +
          ((z.discharge - a.discharge) * (he - z.stage).toNat + (z.stage - a.stage).toNat / 2) / (z.stage - a.stage).toNat →
      (40000000 < q → lookup (before ++ [a, z]) he = (40000000, false, true, true)) ∧
      (q ≤ 40000000 → lookup (before ++ [a, z]) he = (q, false, true, false))) ∧
  (∀ (l : List RatingPoint) (he : Int), pointsValid l = true → (lookup l he).1 ≤ 40000000) ∧
  (∀ (a : RatingPoint) (l : List RatingPoint) (q : Nat), q < a.discharge → inverse (a :: l) q = none) ∧
  (∀ (l : List RatingPoint) (q d : Nat), (∀ p ∈ l, p.discharge = d) → inverse l q = none) ∧
  (∀ (before after : List RatingPoint) (a b : RatingPoint) (q : Nat), pointsValid (before ++ a :: b :: after) = true →
    a.discharge ≤ q → q < b.discharge →
    inverse (before ++ a :: b :: after) q =
      some
        (a.stage +
          (((q - a.discharge) * (b.stage - a.stage).toNat + (b.discharge - a.discharge) / 2) /
            (b.discharge - a.discharge) : Nat))) ∧
  (∀ (before : List RatingPoint) (a z : RatingPoint) (q : Nat), pointsValid (before ++ [a, z]) = true → z.discharge ≤ q →
    (a.discharge = z.discharge → inverse (before ++ [a, z]) q = none) ∧
    (a.discharge < z.discharge →
      inverse (before ++ [a, z]) q =
        some
          (min 20000
            (z.stage +
              (((q - z.discharge) * (z.stage - a.stage).toNat + (z.discharge - a.discharge) / 2) /
                (z.discharge - a.discharge) : Nat)))))

/-! ### Station time, the service hold and the observations -/

/-- SET_TIME: a time below the observation floor is refused with TIME_ORDER and the floor; any other is taken as SET, the
present instant begins its second, and a TIME record is handed. An acquisition that is WARMING or in its BURST runs on; one in
COMPLETING forms its observation at once when the new time is later than the newest observation's, and waits on otherwise; an
owed start is taken at once when the new time is not the newest observation's, and stays owed otherwise (R15, R22, R25, R28, R29,
R30). The model's choices in it: log entries 8 (the record before what the new time releases), 10, and 5 and 35 (the encoder lines of
a refused request). -/
def Obligations.SetTimeSetsTheClock : Prop :=
  ∀ (s : State) (p : Port) (tag : Byte) (x : Encoders) (time : Nat), s.takes p = true → ∀ h, h = (s.sample x).heard p →
    (time < h.clock.floor →
      ∃ t, exec (.setTime p tag (some time) x) s = .next t ∧ Answered t p 32 tag .timeOrder (.floor h.clock.floor) ∧
        SameBlocks h t ∧ SamePorts h t p) ∧
    (h.clock.floor ≤ time → h.archive.hasRoom = true →
      ∀ u : State, u = { h with clock := { time := time, quality := .set, floor := h.clock.floor, phase := h.elapsed } } →
      ∀ b : Record, b = .time { before := h.clock.time, quality := h.clock.quality, after := time, port := p } →
      ((h.lau.acq = none ∧ h.lau.startOwed = false) ∨ (∃ a, h.lau.acq = some a ∧ a.phase ≠ .completing) ∨
          (h.lau.acq.isSome = true ∧ ∃ o, h.lau.series.getLast? = some o ∧ time ≤ o.time) ∨
          (h.lau.acq = none ∧ ∃ o, h.lau.series.getLast? = some o ∧ time = o.time) →
        ∃ t, exec (.setTime p tag (some time) x) s = .next t ∧ Answered t p 32 tag .ok .empty ∧ SamePorts h t p ∧
          Recorded u t b) ∧
      (∀ a, h.lau.acq = some a → a.phase = .completing → (∀ o, h.lau.series.getLast? = some o → o.time < time) →
        ∀ j, j = h.lau.judge a →
        ∃ t, exec (.setTime p tag (some time) x) s = .next t ∧ Answered t p 32 tag .ok .empty ∧
          ∃ v, Recorded u v b ∧ ObservationFormed v t j.1 j.2) ∧
      (h.lau.acq = none → h.lau.startOwed = true → (∀ o, h.lau.series.getLast? = some o → o.time ≠ time) →
        h.lau.hold.state ≠ .held → (∃ c : Channel, (h.lau.channels.get c).enabled = true) →
        ∃ t, exec (.setTime p tag (some time) x) s = .next t ∧ Answered t p 32 tag .ok .empty ∧ SamePorts h t p ∧
          Recorded { u with lau := h.lau.started h.elapsed } t b) ∧
      (h.lau.acq = none → h.lau.startOwed = true → (∀ o, h.lau.series.getLast? = some o → o.time < time) →
        h.lau.startsWithoutSensors = true →
        ∃ t, exec (.setTime p tag (some time) x) s = .next t ∧ Answered t p 32 tag .ok .empty ∧
          ∃ v, Recorded u v b ∧ ObservedWithoutSensors v t))

/-- ENTER_HOLD, LEAVE_HOLD and HOLD_TIMER_EXPIRY by the hold's state: with an acquisition in flight a hold is PENDING; a hold
entered runs its timer from its limit; a hold left reports its readings; each entry and exit gives a notice and a record (R32,
R33, R35, R36). The model's choices in it: log entries 1 (a timer event moves the elapsed time to its expiry) and 35 (the count
of readings keeps its value at an exit). -/
def Obligations.HoldsAreEnteredAndLeft : Prop :=
  (∀ (s : State) (tag : Byte), s.takes .F = true → ∀ h, h = s.heard .F →
    (h.lau.hold.state = .none → h.lau.acq.isSome = true →
      ∃ t, exec (.enterHold .F tag true) s = .next t ∧ Answered t .F 10 tag .ok .empty ∧ SamePorts h t .F ∧
        SameBlocks { h with lau := { h.lau with hold := { h.lau.hold with state := .pending } } } t) ∧
    (h.lau.hold.state = .none → h.lau.acq = none → h.hasRoom = true →
      ∀ b : HoldBody, b = { entered := true, cause := .request, limit := some h.lau.hold.limit, count := none, last := none } →
      ∃ t, exec (.enterHold .F tag true) s = .next t ∧ Answered t .F 10 tag .ok .empty ∧ SamePorts h t .F ∧
        Recorded
          { h.told (.hold b) with
            lau :=
              { h.lau with
                hold :=
                  { state := .held, timer := some (h.elapsed + 100 * h.lau.hold.limit), manual := none, count := 0
                    limit := h.lau.hold.limit } } }
          t (.hold b)) ∧
    (h.lau.hold.state = .pending →
      (∃ t, exec (.enterHold .F tag true) s = .next t ∧ Answered t .F 10 tag .ok .empty ∧ SamePorts h t .F ∧
        SameBlocks h t) ∧
      (∃ t, exec (.leaveHold .F tag true) s = .next t ∧ Answered t .F 15 tag .ok .empty ∧ SamePorts h t .F ∧
        SameBlocks { h with lau := { h.lau with hold := { h.lau.hold with state := .none } } } t)) ∧
    (h.lau.hold.state = .held →
      ∃ t, exec (.enterHold .F tag true) s = .next t ∧ Answered t .F 10 tag .ok .empty ∧ SamePorts h t .F ∧
        SameBlocks
          { h with lau := { h.lau with hold := { h.lau.hold with timer := some (h.elapsed + 100 * h.lau.hold.limit) } } } t) ∧
    (h.lau.hold.state = .none →
      ∃ t, exec (.leaveHold .F tag true) s = .next t ∧ Answered t .F 15 tag .notHeld .empty ∧ SamePorts h t .F ∧
        SameBlocks h t) ∧
    (h.lau.hold.state = .held → h.hasRoom = true →
      ∀ b : HoldBody,
        b = { entered := false, cause := .request, limit := none, count := some h.lau.hold.count, last := h.lau.hold.manual } →
      ∃ t, exec (.leaveHold .F tag true) s = .next t ∧ Answered t .F 15 tag .ok .empty ∧ SamePorts h t .F ∧
        Recorded
          { h.told (.hold b) with
            lau := { h.lau with hold := { h.lau.hold with state := .none, timer := none, manual := none } } }
          t (.hold b))) ∧
  (∀ s : State, s.lau.hold.state = .held → s.hasRoom = true → ∀ e, s.lau.hold.timer = some e →
    ∀ b : HoldBody,
      b = { entered := false, cause := .timeout, limit := none, count := some s.lau.hold.count, last := s.lau.hold.manual } →
    ∃ t, exec .holdTimerExpiry s = .next t ∧ (∀ q, t.ports.slot q = s.ports.slot q) ∧
      Recorded
        { s.told (.hold b) with
          elapsed := max s.elapsed e
          lau := { s.lau with hold := { s.lau.hold with state := .none, timer := none, manual := none } } }
        t (.hold b))

/-- MANUAL_READING: outside HELD it is refused with NOT_HELD, out of range with RANGE; accepted in the second of the newest
observation it owes a start, and otherwise a held acquisition forms a MANUAL observation of its stage at once, with the effects
of its append (R23, R37, R38, R85, R87 to R91, R99). The model's
choices in it: log entries 5 and 35 (the encoder lines), 8 (the order of what the append does) and 10 (what a level change at the
append does to the schedule). -/
def Obligations.AManualReadingGivesItsObservation : Prop :=
  ∀ (s : State) (tag : Byte) (x : Encoders) (v : Int), s.takes .F = true → ∀ h, h = (s.sample x).heard .F →
    (h.lau.hold.state ≠ .held →
      ∃ t, exec (.manualReading .F tag (some v) x) s = .next t ∧ Answered t .F 17 tag .notHeld .empty ∧ SameBlocks h t ∧
        SamePorts h t .F) ∧
    (h.lau.hold.state = .held → v < -2000 ∨ 20000 < v →
      ∃ t, exec (.manualReading .F tag (some v) x) s = .next t ∧ Answered t .F 17 tag .range .empty ∧ SameBlocks h t ∧
        SamePorts h t .F) ∧
    (h.lau.hold.state = .held → -2000 ≤ v → v ≤ 20000 →
      ∀ l : Lau,
        l = { h.lau with hold := { h.lau.hold with manual := some v, count := min 65535 (h.lau.hold.count + 1) } } →
        h.lau.hold.count ≤ 65535 →
      (h.sameSecond = true →
        ∃ t, exec (.manualReading .F tag (some v) x) s = .next t ∧ Answered t .F 17 tag .ok .empty ∧ SamePorts h t .F ∧
          SameBlocks { h with lau := { l with startOwed := true } } t) ∧
      (h.sameSecond = false → h.lau.acq = none →
        ∃ t, exec (.manualReading .F tag (some v) x) s = .next t ∧ Answered t .F 17 tag .ok .empty ∧ t.lau.hold = l.hold ∧
          t.lau.lastStart = some h.elapsed ∧
          ObservationFormed h t l { stage := some v, source := some .manual, range := false, manual := true, events := [] }))

/-- ACQUIRE_NOW, DUE_POINT_REACHED and START_UP_SEQUENCE_END start an acquisition: the records of the enabled channels are
captured, their excitation goes on, and the start is noted; a held acquisition, or one with no channel enabled, forms its
observation at once (R4, R37). ACQUIRE_NOW is merged with an acquisition in flight or a start already owed, and owes a start in
the second of the newest observation; a due point owes a start in either case. An observation so formed has the effects of its
append (R23, R85, R87 to R91, R99, R123). The archive's first operation after start-up begins with START_UP_SEQUENCE_END (R20, R21,
R22, R24, R172, R196). The model's choices in it: log entries 1, 5, 8, 9, 10, 17 and 30. -/
def Obligations.AcquisitionsStart : Prop :=
  (∀ (s : State) (p : Port) (tag : Byte) (x : Encoders), s.takes p = true → ∀ h, h = (s.sample x).heard p →
    (h.lau.acq.isSome = true ∨ h.lau.startOwed = true →
      ∃ t, exec (.acquireNow p tag true x) s = .next t ∧ Answered t p 4 tag .ok .empty ∧ SameBlocks h t ∧ SamePorts h t p) ∧
    (h.lau.acq = none → h.lau.startOwed = false → h.sameSecond = true →
      ∃ t, exec (.acquireNow p tag true x) s = .next t ∧ Answered t p 4 tag .ok .empty ∧ SamePorts h t p ∧
        SameBlocks { h with lau := { h.lau with startOwed := true } } t) ∧
    (h.lau.acq = none → h.lau.startOwed = false → h.sameSecond = false → h.lau.hold.state ≠ .held →
      (∃ c : Channel, (h.lau.channels.get c).enabled = true) →
      ∃ t, exec (.acquireNow p tag true x) s = .next t ∧ Answered t p 4 tag .ok .empty ∧ SamePorts h t p ∧
        SameBlocks { h with lau := h.lau.started h.elapsed } t) ∧
    (h.lau.acq = none → h.lau.startOwed = false → h.laterSecond = true → h.lau.startsWithoutSensors = true →
      ∃ t, exec (.acquireNow p tag true x) s = .next t ∧ Answered t p 4 tag .ok .empty ∧ ObservedWithoutSensors h t)) ∧
  (∀ (s : State) (x : Encoders), ∀ l, s.lau.lastStart = some l → ∀ e, e = max s.elapsed (l + 100 * s.interval) →
    (s.lau.acq = none → s.laterSecond = true → s.lau.startsWithoutSensors = true →
      ∃ t, exec (.duePointReached x) s = .next t ∧ ObservedWithoutSensors { s.sample x with elapsed := e } t) ∧
    (s.lau.acq.isSome = true ∨ s.sameSecond = true →
      ∃ t, exec (.duePointReached x) s = .next t ∧ (∀ q, t.ports.slot q = s.ports.slot q) ∧
        SameBlocks { s.sample x with elapsed := e, lau := { s.lau with startOwed := true } } t) ∧
    (s.lau.acq = none → s.sameSecond = false → s.lau.hold.state ≠ .held →
      (∃ c : Channel, (s.lau.channels.get c).enabled = true) →
      ∃ t, exec (.duePointReached x) s = .next t ∧ (∀ q, t.ports.slot q = s.ports.slot q) ∧
        SameBlocks { s.sample x with elapsed := e, lau := s.lau.started e } t)) ∧
  (∀ s : State, s.startingUp = true → s.laterSecond = true → s.lau.startsWithoutSensors = true →
    ∃ t, exec .startUpSequenceEnd s = .next t ∧ t.archive.firstOp = .nothing ∧
      ObservedWithoutSensors { s with startingUp := false } t) ∧
  (∀ s : State, s.startingUp = true → s.lau.hold.state ≠ .held → (∃ c : Channel, (s.lau.channels.get c).enabled = true) →
    ∃ t, exec .startUpSequenceEnd s = .next t ∧ (∀ q, t.ports.slot q = s.ports.slot q) ∧
      SameBlocks
        { s with startingUp := false, lau := s.lau.started s.elapsed, archive := t.archive } t ∧
      t.archive.firstOp = .nothing ∧
      (s.archive.state.isFailed = false →
        (∀ n, s.archive.firstOp = .openFirst n →
          t.archive = { s.archive with firstOp := .nothing, op := .header n s.rating.elevation }) ∧
        (∀ n, s.archive.firstOp = .close n → t.archive = { s.archive with firstOp := .nothing, op := .closedMark n }) ∧
        (∀ n, s.archive.firstOp = .eraseAgain n → t.archive = { s.archive with firstOp := .nothing, op := .erase n }) ∧
        (∀ n, s.archive.firstOp = .takeNext n → ∀ k, s.archive.nextInRing n = some k →
          ((pageAt s.archive.pages k).status = .erased →
            t.archive = { s.archive with firstOp := .nothing, op := .header k s.rating.elevation }) ∧
          ((pageAt s.archive.pages k).status = .full →
            t.archive = { s.archive with firstOp := .nothing, op := .erase k }))))

/-- WARM_UP_EXPIRY and BURST_READING take one reading of every captured channel, a sensor that delivers nothing giving 0; the
last reading of the burst turns the excitation off, and waits for a later second where the present one has its observation
(R5, R15). The model's choices in it: log entries 1 (the elapsed time moves on to the reading's instant), 5 (the encoder lines), 9
and 31. -/
def Obligations.ReadingsAreTaken : Prop :=
  ∀ (s : State) (x : Encoders) (r : Readings), ∀ a, s.lau.acq = some a →
    ∀ b : Acquisition,
      b =
        { a with
          phase := .burst, taken := a.taken + 1
          capture :=
            PerChannel.zip
              (fun c (v : Option (BitVec 16)) =>
                c.map (fun (k : Captured) => { k with readings := k.readings ++ [match v with | some n => n.toNat | none => 0] }))
              a.capture ⟨r.la, r.lb, r.lc⟩ } →
    ∀ e, e = max s.elapsed (a.start + 100 * a.warmUp + 25 * a.taken) →
    ∀ i : Instr, i = (if a.phase = .warming then .warmUpExpiry r x else .burstReading r x) → a.phase ≠ .completing →
    (a.taken + 1 < a.burst →
      ∃ t, exec i s = .next t ∧ (∀ q, t.ports.slot q = s.ports.slot q) ∧
        SameBlocks { s.sample x with elapsed := e, lau := { s.lau with acq := some b } } t) ∧
    (a.burst ≤ a.taken + 1 → s.laterSecond = false →
      ∃ t, exec i s = .next t ∧ (∀ q, t.ports.slot q = s.ports.slot q) ∧
        SameBlocks
          { s.sample x with
            elapsed := e, lau := { s.lau with excitation := ⟨false, false, false⟩, acq := some { b with phase := .completing } } }
          t)

/-- An observation is formed at the last reading of a burst in a later second than the newest observation's, or at the
beginning of the station second that a waiting acquisition waited for, from what the acquisition found, with its SENSOR notices
handed in their order; a PENDING hold is entered with it, and any other is kept (R7 to R18, R25, R34, R35). What its append does:
a level it raises owes an acknowledgement, starts a STOPPED deadline and gives a LEVEL notice and a LEVEL record, one it lowers has
the effects of R88, and with neither the warning unit has only its records evaluated; without a run in progress the cableway and the
gauging unit stay as they were (R23, R85, R87 to R91, R99, R123). The model's choices in it: log entries 1, 5 (the encoder lines),
8, 10 and 11. -/
def Obligations.ObservationsAreFormed : Prop :=
  (∀ (s : State) (x : Encoders) (r : Readings), ∀ a, s.lau.acq = some a → a.phase = .burst → a.burst ≤ a.taken + 1 →
    s.laterSecond = true → ∀ e, e = max s.elapsed (a.start + 100 * a.warmUp + 25 * a.taken) →
    ∀ j, j = s.lau.judge (a.read r) →
    ∃ t, exec (.burstReading r x) s = .next t ∧ t.lau.excitation = ⟨false, false, false⟩ ∧
      (s.lau.hold.state ≠ .pending → t.lau.hold = s.lau.hold) ∧
      (s.lau.hold.state = .pending →
        t.lau.hold =
          { s.lau.hold with state := .held, timer := some (e + 100 * s.lau.hold.limit), manual := none, count := 0 }) ∧
      ObservationFormed { s.sample x with elapsed := e } t j.1 j.2) ∧
  (∀ (s : State) (x : Encoders), ∀ a, s.lau.acq = some a → a.phase = .completing → s.clock.time < 4294967295 →
    (∀ o, s.lau.series.getLast? = some o → o.time ≤ s.clock.time) →
    ∀ j, j = s.lau.judge a →
    ∀ e, e = max s.elapsed (s.clock.phase + 100).toNat →
    ∃ t, exec (.stationSecond x) s = .next t ∧ t.lau.excitation = s.lau.excitation ∧
      (s.lau.hold.state ≠ .pending → t.lau.hold = s.lau.hold) ∧
      (s.lau.hold.state = .pending →
        t.lau.hold =
          { s.lau.hold with state := .held, timer := some (e + 100 * s.lau.hold.limit), manual := none, count := 0 }) ∧
      ObservationFormed
        { s.sample x with
          elapsed := e, clock := { s.clock with time := s.clock.time + 1, phase := s.clock.phase + 100 } }
        t j.1 j.2)

/-- STATION_SECOND counts the station time, which holds at its greatest value; an owed start is taken in the new second, and its
observation formed at once where it powers no sensor, with the effects of its append (R4, R22, R23, R25, R37, R85, R87 to R91, R99).
The model's choices in it: log entries 1 (the elapsed time moves on to the second's beginning), 5, 8 and 10. -/
def Obligations.AStationSecondBegins : Prop :=
  ∀ (s : State) (x : Encoders),
    ∀ u, u =
      { s.sample x with
        elapsed := max s.elapsed (s.clock.phase + 100).toNat
        clock := { s.clock with time := s.clock.time + 1, phase := s.clock.phase + 100 } } →
    (s.clock.time < 4294967295 →
      (s.lau.acq = none → s.lau.startOwed = false →
        ∃ t, exec (.stationSecond x) s = .next t ∧ (∀ q, t.ports.slot q = s.ports.slot q) ∧ SameBlocks u t) ∧
      (∀ a, s.lau.acq = some a → a.phase ≠ .completing →
        ∃ t, exec (.stationSecond x) s = .next t ∧ (∀ q, t.ports.slot q = s.ports.slot q) ∧ SameBlocks u t) ∧
      (s.lau.acq = none → s.lau.startOwed = true → (∀ o, s.lau.series.getLast? = some o → o.time ≤ s.clock.time) →
        s.lau.hold.state ≠ .held → (∃ c : Channel, (s.lau.channels.get c).enabled = true) →
        ∃ t, exec (.stationSecond x) s = .next t ∧ (∀ q, t.ports.slot q = s.ports.slot q) ∧
          SameBlocks { u with lau := s.lau.started u.elapsed } t) ∧
      (s.lau.acq = none → s.lau.startOwed = true → (∀ o, s.lau.series.getLast? = some o → o.time ≤ s.clock.time) →
        s.lau.startsWithoutSensors = true →
        ∃ t, exec (.stationSecond x) s = .next t ∧ ObservedWithoutSensors u t)) ∧
    (s.clock.time = 4294967295 →
      ∃ t, exec (.stationSecond x) s = .next t ∧ (∀ q, t.ports.slot q = s.ports.slot q) ∧ SameBlocks (s.sample x) t)

/-- What an acquisition finds. A channel's stage: the median of its valid readings, of which at least half the burst is needed,
through the gain and the offset, held in the stage range (R7, R8). A channel's status by the table of R9, updated for a channel
that was captured and, in the model's reading of R9, has stayed enabled since (log entry 11). The source: the valid channel of the lowest preference, the first named among equals,
whose stage is the observation's (R10). The DISAGREE condition by the greatest difference of the source to another valid channel,
and as it was with fewer than two (R11). The changes that give SENSOR notices, channel by channel and DISAGREE last (R12). The
rate of rise of a stage, from the newest observation with a stage in the window (R13). -/
def Obligations.AChannelStageIsTheMedianOfItsReadings : Prop :=
  (∀ l a : List Nat, a = sortNat l →
    a.Perm l ∧ a.Pairwise (· ≤ ·) ∧ (l.length % 2 = 1 → ∀ m, a[l.length / 2]? = some m → median l = m) ∧
      (l.length % 2 = 0 → ∀ m n, a[l.length / 2 - 1]? = some m → a[l.length / 2]? = some n → median l = (m + n + 1) / 2)) ∧
  (∀ (c : Captured) (burst : Nat) (v : List Nat), v = c.readings.filter (fun n => decide (n ≠ 0 ∧ n < 65535)) →
    (v.length < (burst + 1) / 2 → channelResult c burst = none) ∧
    ((burst + 1) / 2 ≤ v.length → ∀ h : Int, h = c.settings.offset + ((median v * c.settings.gain + 32768) / 65536 : Nat) →
      (h < -2000 → channelResult c burst = some (-2000, true)) ∧
      (-2000 ≤ h → h ≤ 20000 → channelResult c burst = some (h, false)) ∧
      (20000 < h → channelResult c burst = some (20000, true)))) ∧
  (∀ i v : Nat,
    ({ fault := false, invalidRun := 0, validRun := v } : ChannelStatus).update false =
        ({ fault := false, invalidRun := 1, validRun := v }, none) ∧
      ({ fault := false, invalidRun := 1, validRun := v } : ChannelStatus).update false =
        ({ fault := true, invalidRun := 0, validRun := 0 }, some .channelFault) ∧
      ({ fault := false, invalidRun := i, validRun := v } : ChannelStatus).update true =
        ({ fault := false, invalidRun := 0, validRun := v }, none) ∧
      ({ fault := true, invalidRun := i, validRun := 0 } : ChannelStatus).update true =
        ({ fault := true, invalidRun := i, validRun := 1 }, none) ∧
      ({ fault := true, invalidRun := i, validRun := 1 } : ChannelStatus).update true =
        ({ fault := false, invalidRun := 0, validRun := 0 }, some .channelOk) ∧
      ({ fault := true, invalidRun := i, validRun := v } : ChannelStatus).update false =
        ({ fault := true, invalidRun := i, validRun := 0 }, none)) ∧
  (∀ (d : Disagree) (tolerance difference : Nat),
    (tolerance < difference → ∀ n, n = min 3 (d.disagreements + 1) →
      (n = 3 → d.isSet = false →
        d.update tolerance difference = ({ isSet := true, disagreements := 3, agreements := 0 }, some .disagreeSet)) ∧
      (n ≠ 3 ∨ d.isSet = true →
        d.update tolerance difference = ({ isSet := d.isSet, disagreements := n, agreements := 0 }, none))) ∧
    (difference ≤ tolerance → ∀ n, n = min 3 (d.agreements + 1) →
      (n = 3 → d.isSet = true →
        d.update tolerance difference = ({ isSet := false, disagreements := 0, agreements := 3 }, some .disagreeClear)) ∧
      (n ≠ 3 ∨ d.isSet = false →
        d.update tolerance difference = ({ isSet := d.isSet, disagreements := 0, agreements := n }, none)))) ∧
  (∀ (l : Lau) (a : Acquisition), ∀ j, j = l.judge a →
    ∀ valid : Channel → Option (Int × Bool), (∀ c, valid c = (a.capture.get c).bind (fun k => channelResult k a.burst)) →
    ∀ after : Channel → Option ChannelStatus × Option SensorEvent,
      (∀ c, after c =
        match l.status.get c, a.capture.get c with
        | some st, some k =>
          if k.stayed then (some (st.update (valid c).isSome).1, (st.update (valid c).isSome).2) else (some st, none)
        | st, _ => (st, none)) →
    ∀ told : List (SensorEvent × Channel × Option Nat),
      told = [Channel.LA, Channel.LB, Channel.LC].flatMap (fun c => ((after c).2.toList.map (fun e => (e, c, none)))) →
    (∀ c, j.1.status.get c = (after c).1) ∧ j.1 = { l with status := j.1.status, disagree := j.1.disagree } ∧
    j.2.manual = false ∧
    ((∀ c, valid c = none) →
      j.2.stage = none ∧ j.2.source = none ∧ j.2.range = false ∧ j.1.disagree = l.disagree ∧ j.2.events = told) ∧
    (∀ c k r, a.capture.get c = some k → valid c = some r →
      (∀ d i q, a.capture.get d = some i → valid d = some q →
        k.settings.preference < i.settings.preference ∨
          (k.settings.preference = i.settings.preference ∧ channelCode c ≤ channelCode d)) →
      j.2.stage = some r.1 ∧ j.2.source = some (.channel c) ∧ j.2.range = r.2 ∧
      ((∀ d, d ≠ c → valid d = none) → j.1.disagree = l.disagree ∧ j.2.events = told) ∧
      ∀ g : Nat, (∃ d q, d ≠ c ∧ valid d = some q ∧ (q.1 - r.1).natAbs = g) →
        (∀ d q, d ≠ c → valid d = some q → (q.1 - r.1).natAbs ≤ g) →
        ∀ u, u = l.disagree.update l.settings.tolerance g →
          j.1.disagree = u.1 ∧ j.2.events = told ++ u.2.toList.map (fun e => (e, c, some g)))) ∧
  ∀ (series : List Observation) (h : Int) (t w : Nat),
    ∀ inWindow : Observation → Prop,
      (∀ o, inWindow o ↔ o.stage.isSome = true ∧ (t : Int) - 2 * w ≤ o.time ∧ (o.time : Int) ≤ t - w) →
    ((∀ o ∈ series, ¬ inWindow o) → rateOfRise series h t w = none) ∧
    (∀ before o after, series = before ++ o :: after → inWindow o → (∀ q ∈ after, ¬ inWindow q) →
      ∀ ref, o.stage = some ref →
        rateOfRise series h t w = some (max (-30000) (min 30000 (halfAway ((h - ref) * 3600) (t - o.time)))))

/-! ### The warning unit -/

/-- The table of R84: the effect of a present value on an enabled record. A disabled record, and an enabled one whose value is
absent, keep state and count; the value is the observation's stage, rate or discharge; and the level formed is the highest severity
among the ACTIVE records, CLEAR when none is ACTIVE (R82, R83, R85). -/
def Obligations.AnEnabledRecordFollowsTheTable : Prop :=
  (∀ (o : Observation) (t : ThresholdSettings) (l : ThresholdLive),
    (t.enabled = false → evaluateRecord o t l = l) ∧ (quantityValue t.quantity o = none → evaluateRecord o t l = l)) ∧
  (∀ o : Observation,
    quantityValue .stage o = o.stage ∧ quantityValue .rise o = o.rate ∧
      (o.discharge = none → quantityValue .flow o = none) ∧ ∀ v : Nat, o.discharge = some v → quantityValue .flow o = some (v : Int)) ∧
  (∀ w : Warning,
    (∀ n : Fin 8, (w.live.get n).active = true → levelRank (severityLevel (w.settings.get n).severity) ≤ levelRank w.formed) ∧
    ((∀ n : Fin 8, (w.live.get n).active = false) → w.formed = .clear) ∧
    (w.formed = .clear ∨ ∃ n : Fin 8, (w.live.get n).active = true ∧ w.formed = severityLevel (w.settings.get n).severity)) ∧
  ∀ (o : Observation) (t : ThresholdSettings) (l : ThresholdLive) (v : Int), t.enabled = true →
    quantityValue t.quantity o = some v →
    (l.active = false → t.level < v → l.count + 1 = t.persistence → evaluateRecord o t l = { active := true, count := 0 }) ∧
    (l.active = false → t.level < v → l.count + 1 ≠ t.persistence →
      evaluateRecord o t l = { active := false, count := l.count + 1 }) ∧
    (l.active = false → v ≤ t.level → evaluateRecord o t l = { active := false, count := 0 }) ∧
    (l.active = true → v ≤ t.level - t.margin → l.count + 1 = t.persistence →
      evaluateRecord o t l = { active := false, count := 0 }) ∧
    (l.active = true → v ≤ t.level - t.margin → l.count + 1 ≠ t.persistence →
      evaluateRecord o t l = { active := true, count := l.count + 1 }) ∧
    (l.active = true → t.level - t.margin < v → evaluateRecord o t l = { active := true, count := 0 })

/-- A change of level: an escalation owes an acknowledgement and starts a STOPPED deadline; a de-escalation to CLEAR drops it,
one to another level leaves it; the relay follows; a LEVEL notice and a LEVEL record are handed (R87, R88, R89, R90, R99). A run in
progress that the new level does not bar goes on (R91, R123). Stated of the operation that SET_THRESHOLD and every observation share;
ObservationsAreFormed states it of the commands that form one. The order of its effects is log entry 8. -/
def Obligations.ALevelChangeHasItsEffects : Prop :=
  ∀ (s : State) (new : Level) (cause : LevelCause), new ≠ s.warning.level → s.hasRoom = true →
    (∀ run, s.cable.run = some run → new ≠ .alarm ∧ (run.kind = .unattended → new ≠ .warn)) →
    ∀ t, t = s.changeLevel new cause .nobody →
    t.warning.level = new ∧ t.warning.relay = t.warning.relayRequired ∧
      (levelRank s.warning.level < levelRank new →
        t.warning.owed = true ∧
        (s.warning.deadline = .stopped →
          t.warning.firstTime = some s.clock.time ∧
            t.warning.deadline = .running (s.elapsed + 100 * s.warning.timers.deadline)) ∧
        (s.warning.deadline ≠ .stopped →
          t.warning.firstTime = s.warning.firstTime ∧ t.warning.deadline = s.warning.deadline)) ∧
      (levelRank new < levelRank s.warning.level →
        (new = .clear → t.warning.owed = false ∧ t.warning.firstTime = none ∧ t.warning.deadline = .stopped) ∧
        (new ≠ .clear →
          t.warning.owed = s.warning.owed ∧ t.warning.firstTime = s.warning.firstTime ∧
            t.warning.deadline = s.warning.deadline)) ∧
      Recorded
        { s.told (.level new s.warning.level (levelHigher new s.warning.level)) with
          warning :=
            { s.warning with
              level := new, owed := t.warning.owed, firstTime := t.warning.firstTime, deadline := t.warning.deadline
              relay := t.warning.relay } }
        t (.level (t.warning.body (.changed s.warning.level cause)))

/-- ACK_LEVEL by its checks in order; an accepted one settles the owed acknowledgement, with its record. DEADLINE_EXPIRY and
SILENCE_TIMER_EXPIRY bring the relay to its state, with their records: energised exactly when an owed acknowledgement's deadline has
expired, or the level is WARN or ALARM while the link is SILENT (R93, R94, R95, R98, R99). A timer event moves the elapsed time to
its expiry (log entry 1). -/
def Obligations.AcknowledgementsAndTimersOfTheWarningUnit : Prop :=
  (∀ w : Warning,
    w.relayRequired = true ↔
      (w.owed = true ∧ w.deadline = .expired) ∨ ((w.level = .warn ∨ w.level = .alarm) ∧ w.silent = true)) ∧
  (∀ (s : State) (p : Port) (tag : Byte), s.takes p = true → ∀ h, h = s.heard p →
    (∃ t, exec (.ackLevel p tag (some none)) s = .next t ∧ Answered t p 3 tag .badRequest .empty ∧ SameBlocks h t ∧
      SamePorts h t p) ∧
    ∀ l : Level,
      (h.warning.owed = false →
        ∃ t, exec (.ackLevel p tag (some (some l))) s = .next t ∧ Answered t p 3 tag .notOwed .empty ∧ SameBlocks h t ∧
          SamePorts h t p) ∧
      (h.warning.owed = true → levelRank l < levelRank h.warning.level →
        ∃ t, exec (.ackLevel p tag (some (some l))) s = .next t ∧ Answered t p 3 tag .stale .empty ∧ SameBlocks h t ∧
          SamePorts h t p) ∧
      (h.warning.owed = true → levelRank h.warning.level ≤ levelRank l → h.archive.hasRoom = true →
        ∃ t, exec (.ackLevel p tag (some (some l))) s = .next t ∧ Answered t p 3 tag .ok .empty ∧ SamePorts h t p ∧
          t.warning.relay = t.warning.relayRequired ∧ (h.warning.silent = false → t.warning.relay = false) ∧
          Recorded
            { h with
              warning := { h.warning with owed := false, firstTime := none, deadline := .stopped, relay := t.warning.relay } }
            t (.level (t.warning.body (.acknowledged p l))))) ∧
  (∀ s : State, s.archive.hasRoom = true → ∀ e, s.warning.deadline = .running e →
    ∃ t, exec .deadlineExpiry s = .next t ∧ (∀ q, t.ports.slot q = s.ports.slot q) ∧
      t.warning.relay = t.warning.relayRequired ∧ (s.warning.owed = true → t.warning.relay = true) ∧
      Recorded
        { s with elapsed := max s.elapsed e, warning := { s.warning with deadline := .expired, relay := t.warning.relay } } t
        (.level (t.warning.body .deadlineExpired))) ∧
  (∀ s : State, s.archive.hasRoom = true → s.warning.silent = false → ∀ e, s.warning.silenceTimer = some e →
    ∃ t, exec .silenceTimerExpiry s = .next t ∧ (∀ q, t.ports.slot q = s.ports.slot q) ∧
      t.warning.relay = t.warning.relayRequired ∧
      (s.warning.level = .warn ∨ s.warning.level = .alarm → t.warning.relay = true) ∧
      Recorded
        { s with
          elapsed := max s.elapsed e, warning := { s.warning with silent := true, silenceTimer := none, relay := t.warning.relay } }
        t (.level (t.warning.body .linkSilent)))

/-! ### The cableway -/

/-- The sample points of a measured depth: the rounding, METHOD_CHANGED below the two-point minimum, and the sample limit with
DEPTH_LIMITED (R117). -/
def Obligations.SamplePointsFollowTheDepth : Prop :=
  ∀ minimum offset d t limit : Nat, limit = d - offset →
    samplePoints (.onePoint t) minimum offset d =
        ([min ((6 * d + 5) / 10) limit], false, decide (limit < (6 * d + 5) / 10)) ∧
      (minimum ≤ d →
        samplePoints (.twoPoint t) minimum offset d =
          ([min ((2 * d + 5) / 10) limit, min ((8 * d + 5) / 10) limit], false,
            decide (limit < (2 * d + 5) / 10 ∨ limit < (8 * d + 5) / 10))) ∧
      (d < minimum →
        samplePoints (.twoPoint t) minimum offset d =
          ([min ((6 * d + 5) / 10) limit], true, decide (limit < (6 * d + 5) / 10)))

/-- The bar test, and CLAIM_CABLEWAY from Port L or Port F by its checks in order, the first check that applies giving the answer
(R108, R109). -/
def Obligations.ClaimsPassTheBarTest : Prop :=
  (∀ (s : State) (k : HoldKind),
    s.barred k = true ↔
      (s.warning.level = .alarm ∨ (k = .unattended ∧ s.warning.level = .warn)) ∨
        (∀ o ∈ s.lau.series, o.stage = none) ∨
        ∃ h, newestStage s.lau.series = some h ∧
          (match k with | .unattended => s.cable.settings.unattendedLimit | .attended => s.cable.settings.attendedLimit) < h) ∧
  ∀ (s : State) (p : Port) (tag : Byte), s.takes p = true → p ≠ .T → ∀ h, h = s.heard p →
    (h.cable.holder = some p →
      ∃ t, exec (.claimCableway p tag true) s = .next t ∧ Answered t p 5 tag .ok .empty ∧ SameBlocks h t ∧ SamePorts h t p) ∧
    (h.cable.holder.isSome = true → h.cable.holder ≠ some p →
      ∃ t, exec (.claimCableway p tag true) s = .next t ∧ Answered t p 5 tag .claimedElsewhere .empty ∧ SameBlocks h t ∧
        SamePorts h t p) ∧
    (h.cable.holder = none →
      (h.cable.state = .retrieving →
        ∃ t, exec (.claimCableway p tag true) s = .next t ∧ Answered t p 5 tag .wrongState .empty ∧ SameBlocks h t ∧
          SamePorts h t p) ∧
      (h.cable.state ≠ .retrieving → (h.cable.state = .stuck ∨ h.cable.available = false) →
        ∃ t, exec (.claimCableway p tag true) s = .next t ∧ Answered t p 5 tag .unavailable .empty ∧ SameBlocks h t ∧
          SamePorts h t p) ∧
      (h.cable.state = .idle → h.cable.available = true →
        ∀ k : HoldKind, k = (if p = .F then .attended else .unattended) →
        (h.barred k = true →
          ∃ t, exec (.claimCableway p tag true) s = .next t ∧ Answered t p 5 tag .barred .empty ∧ SameBlocks h t ∧
            SamePorts h t p) ∧
        (h.barred k = false →
          ∃ t, exec (.claimCableway p tag true) s = .next t ∧ Answered t p 5 tag .ok .empty ∧ SamePorts h t p ∧
            SameBlocks { h with cable := { h.cable with holder := some p, state := .claimed, plan := none } } t)))

/-- FORCE_CLAIM and RELEASE_CABLEWAY by holder and run state; where a run is in progress, both end it (R110, R111, R112). The
model's choices in it: log entries 5, 8 (the notice of a run's end before its formed record), 24 (a notice counts its vertical
from 1) and 35. -/
def Obligations.ClaimsArePassedOnAndReleased : Prop :=
  (∀ (s : State) (tag : Byte) (x : Encoders), s.takes .F = true → ∀ h, h = (s.sample x).heard .F →
    (h.cable.holder = some .F →
      ∃ t, exec (.forceClaim .F tag true x) s = .next t ∧ Answered t .F 12 tag .ok .empty ∧ SameBlocks h t ∧
        SamePorts h t .F) ∧
    (h.cable.holder = none →
      ∃ t, exec (.forceClaim .F tag true x) s = .next t ∧ Answered t .F 12 tag .wrongState .empty ∧ SameBlocks h t ∧
        SamePorts h t .F) ∧
    (h.cable.holder = some .L →
      (h.cable.run = none →
        ∃ t, exec (.forceClaim .F tag true x) s = .next t ∧ Answered t .F 12 tag .ok .empty ∧ SamePorts h t .F ∧
          SameBlocks { h with cable := { h.cable with holder := some .F, plan := none } } t) ∧
      (h.cable.run.isSome = true → h.gauging.run.isSome = true → h.hasRoom = true →
        ∃ t, exec (.forceClaim .F tag true x) s = .next t ∧ Answered t .F 12 tag .ok .empty ∧ SamePorts h t .F ∧
          RunEnded h t .takenOver
            (({ h.cable with holder := some .F, plan := none }.ended .takenOver).retrieve h.elapsed)))) ∧
  (∀ (s : State) (p : Port) (tag : Byte) (x : Encoders), s.takes p = true → p ≠ .T → ∀ h, h = (s.sample x).heard p →
    (h.cable.holder ≠ some p →
      ∃ t, exec (.releaseCableway p tag true x) s = .next t ∧ Answered t p 24 tag .notHolder .empty ∧ SameBlocks h t ∧
        SamePorts h t p) ∧
    (h.cable.holder = some p →
      (h.cable.state = .claimed →
        ∃ t, exec (.releaseCableway p tag true x) s = .next t ∧ Answered t p 24 tag .ok .empty ∧ SamePorts h t p ∧
          SameBlocks { h with cable := { h.cable with holder := none, plan := none, state := .idle } } t) ∧
      (h.cable.state = .retrieving → h.cable.run = none →
        ∃ t, exec (.releaseCableway p tag true x) s = .next t ∧ Answered t p 24 tag .ok .empty ∧ SamePorts h t p ∧
          SameBlocks { h with cable := { h.cable with holder := none } } t) ∧
      (h.cable.state = .faulted → h.cable.run = none →
        ∃ t, exec (.releaseCableway p tag true x) s = .next t ∧ Answered t p 24 tag .ok .empty ∧ SamePorts h t p ∧
          SameBlocks { h with cable := { h.cable with holder := none }.retrieve h.elapsed } t) ∧
      (h.cable.state ≠ .claimed → h.cable.run.isSome = true → h.gauging.run.isSome = true → h.hasRoom = true →
        ∃ t, exec (.releaseCableway p tag true x) s = .next t ∧ Answered t p 24 tag .ok .empty ∧ SamePorts h t p ∧
          RunEnded h t .released (({ h.cable with holder := none }.ended .released).retrieve h.elapsed))))

/-- LOAD_PLAN by its checks in order, a payload whose size does not fit its count among them, and which plans pass
them: those whose verticals are in strictly increasing distance within the span, an EDGE at each end and a measured one between,
every field in its range; the plan loaded carries what each vertical's method carries (R112, R113). -/
def Obligations.PlansAreLoadedByTheirChecks : Prop :=
  (∀ (f : PlanFields) (span : Nat), ∀ plan, checkPlan f span = some plan →
    plan.a = f.a ∧ plan.b = f.b ∧ 1 ≤ f.a ∧ f.a ≤ 20000 ∧ f.b ≤ 100 ∧ 3 ≤ plan.verticals.length ∧ plan.verticals.length ≤ 40 ∧
      plan.verticals.map (·.distance) = f.verticals.map (·.distance) ∧
      plan.verticals.map (fun v => some v.kind.method) = f.verticals.map (·.method) ∧
      plan.verticals.Pairwise (fun v w => v.distance < w.distance) ∧
      (∀ v ∈ plan.verticals,
        v.distance ≤ span ∧ (∀ d, v.kind = .edge d → d ≤ 25000) ∧
          (v.kind.isMeasured = true → 20 ≤ v.kind.exposure ∧ v.kind.exposure ≤ 120)) ∧
      (plan.verticals.head?.map (fun v => v.kind.isMeasured) = some false) ∧
      (plan.verticals.getLast?.map (fun v => v.kind.isMeasured) = some false) ∧
      (∃ v ∈ plan.verticals, v.kind.isMeasured = true)) ∧
  (∀ (f : PlanFields) (span : Nat), 1 ≤ f.a → f.a ≤ 20000 → f.b ≤ 100 → 3 ≤ f.verticals.length → f.verticals.length ≤ 40 →
    (∀ v ∈ f.verticals, v.distance ≤ span ∧
      ((v.method = some .edge ∧ v.edgeDepth ≤ 25000) ∨
        ((v.method = some .onePoint ∨ v.method = some .twoPoint) ∧ 20 ≤ v.exposure ∧ v.exposure ≤ 120))) →
    f.verticals.Pairwise (fun v w => v.distance < w.distance) → f.verticals.head?.map (·.method) = some (some .edge) →
    f.verticals.getLast?.map (·.method) = some (some .edge) → (∃ v ∈ f.verticals, v.method ≠ some .edge) →
    ∃ plan, checkPlan f span = some plan ∧
      plan.verticals.map (·.kind) =
        f.verticals.map (fun v =>
          match v.method with
          | some .onePoint => .onePoint v.exposure
          | some .twoPoint => .twoPoint v.exposure
          | _ => .edge v.edgeDepth)) ∧
  (∀ (s : State) (p : Port) (tag : Byte), s.takes p = true → p ≠ .T → ∀ h, h = s.heard p →
    ∃ t, exec (.loadPlan p tag none) s = .next t ∧ SameBlocks h t ∧ SamePorts h t p ∧
      (h.cable.holder ≠ some p → Answered t p 16 tag .notHolder .empty) ∧
      (h.cable.holder = some p → h.cable.state ≠ .claimed → Answered t p 16 tag .wrongState .empty) ∧
      (h.cable.holder = some p → h.cable.state = .claimed → Answered t p 16 tag .badRequest .empty)) ∧
  ∀ (s : State) (p : Port) (tag : Byte) (f : PlanFields), s.takes p = true → p ≠ .T → ∀ h, h = s.heard p →
    (h.cable.holder ≠ some p →
      ∃ t, exec (.loadPlan p tag (some f)) s = .next t ∧ Answered t p 16 tag .notHolder .empty ∧ SameBlocks h t ∧
        SamePorts h t p) ∧
    (h.cable.holder = some p →
      (h.cable.state ≠ .claimed →
        ∃ t, exec (.loadPlan p tag (some f)) s = .next t ∧ Answered t p 16 tag .wrongState .empty ∧ SameBlocks h t ∧
          SamePorts h t p) ∧
      (h.cable.state = .claimed →
        (f.verticals.any (fun v => v.method.isNone) = true →
          ∃ t, exec (.loadPlan p tag (some f)) s = .next t ∧ Answered t p 16 tag .badRequest .empty ∧ SameBlocks h t ∧
            SamePorts h t p) ∧
        (f.verticals.any (fun v => v.method.isNone) = false → checkPlan f h.cable.settings.span = none →
          ∃ t, exec (.loadPlan p tag (some f)) s = .next t ∧ Answered t p 16 tag .range .empty ∧ SameBlocks h t ∧
            SamePorts h t p) ∧
        (∀ plan, checkPlan f h.cable.settings.span = some plan →
          ∃ t, exec (.loadPlan p tag (some f)) s = .next t ∧ Answered t p 16 tag .ok .empty ∧ SamePorts h t p ∧
            SameBlocks { h with cable := { h.cable with plan := some plan } } t)))

/-- START_RUN by its checks in order; an accepted one begins a run at the first measured vertical of the plan, raising the
weight first when it is not stowed, with the run record of the gauging unit (R112, R114, R115, R120, R131). The run record and
its notices come in the order of log entry 8; the dead-man reference instant rounds down by log entry 26; the encoder lines are
log entries 5 and 35. -/
def Obligations.ARunStarts : Prop :=
  ∀ (s : State) (p : Port) (tag : Byte) (x : Encoders), s.takes p = true → p ≠ .T → ∀ h, h = (s.sample x).heard p →
    (h.cable.holder ≠ some p →
      ∃ t, exec (.startRun p tag true x) s = .next t ∧ Answered t p 34 tag .notHolder .empty ∧ SameBlocks h t ∧
        SamePorts h t p) ∧
    (h.cable.holder = some p → (h.cable.state ≠ .claimed ∨ h.cable.plan = none) →
      ∃ t, exec (.startRun p tag true x) s = .next t ∧ Answered t p 34 tag .wrongState .empty ∧ SameBlocks h t ∧
        SamePorts h t p) ∧
    (h.cable.holder = some p → h.cable.state = .claimed → ∀ plan, h.cable.plan = some plan →
      ∀ k, measuredFrom 0 plan.verticals 0 = some k →
      (h.gauging.result = .computing →
        ∃ t, exec (.startRun p tag true x) s = .next t ∧ Answered t p 34 tag .resultPending .empty ∧ SameBlocks h t ∧
          SamePorts h t p) ∧
      ∀ kind : HoldKind, kind = (if p = .F then .attended else .unattended) →
      (h.gauging.result ≠ .computing → h.barred kind = true →
        ∃ t, exec (.startRun p tag true x) s = .next t ∧ Answered t p 34 tag .barred .empty ∧ SameBlocks h t ∧
          SamePorts h t p) ∧
      (h.gauging.result ≠ .computing → h.barred kind = false →
        ∀ r : Run,
          r =
            { kind := kind, startTime := h.clock.time, vertical := k, sample := 0, zs := none, zb := none
              sounded := .searching, points := [], methodChanged := false, depthLimited := false, homing := false } →
        ∀ c : Cableway,
          c =
            { h.cable with
              run := some r, endCause := none, latestHold := some p
              window := if p = .F then some (h.elapsed / 10) else none } →
        ∀ g : Gauging,
          g =
            { h.gauging with
              run :=
                some
                  { holdPort := p, startTime := h.clock.time, startElapsed := h.elapsed / 100
                    startObs := h.lau.series.getLast?.map (·.number), plan := plan, results := [], lastCompletion := none }
              exposure := none, kept := [] } →
        ∀ d : Int, d = ((plan.verticals[k]?.map (fun v => v.distance)).getD 0 : Nat) →
        (10 < x.reel.natAbs →
          ∃ t, exec (.startRun p tag true x) s = .next t ∧ Answered t p 34 tag .ok .empty ∧ SamePorts h t p ∧
            SameBlocks
              { h with
                gauging := g
                cable :=
                  { c with
                    run := some { r with homing := true }, state := .raising, target := some (.reel 0)
                    drive := if x.reel < 0 then .reelDown else .reelUp
                    motionTimer := some (h.elapsed + 100 * h.cable.settings.reelTimeout) } } t) ∧
        (x.reel.natAbs ≤ 10 → 50 < (x.carriage - d).natAbs →
          ∃ t, exec (.startRun p tag true x) s = .next t ∧ Answered t p 34 tag .ok .empty ∧ SamePorts h t p ∧
            SameBlocks
              { h with
                gauging := g
                cable :=
                  { c with
                    state := .traversing, target := some (.carriage d)
                    drive := if x.carriage < d then .traverseOut else .traverseIn
                    motionTimer := some (h.elapsed + 100 * h.cable.settings.traverseTimeout) } } t) ∧
        (x.reel.natAbs ≤ 10 → (x.carriage - d).natAbs ≤ 50 →
          ∃ t, exec (.startRun p tag true x) s = .next t ∧ Answered t p 34 tag .ok .empty ∧ SamePorts h t p ∧
            SameBlocks
              { h with
                gauging := g
                cable :=
                  { c with
                    state := .sounding, target := none, drive := .reelDown
                    motionTimer := some (h.elapsed + 100 * h.cable.settings.reelTimeout) } } t)))

/-- HOLD_ALIVE opens the dead-man window again, not sooner than 1.0 s; its expiry pauses the run with the state it left, the
exposure discarded; RESUME takes that state up again with its full timers, and a target already reached is reached at once, the
stowed point of RAISING with what its arrival brings (R105, R112, R115, R120, R121, R122). The model's choices in it: log entries 1,
5, 8, 26 and 35 (RESUME forms its target afresh from the plan). -/
def Obligations.TheDeadManWindowPausesTheRun : Prop :=
  (∀ (s : State) (p : Port) (tag : Byte), s.takes p = true → p ≠ .T → ∀ h, h = s.heard p →
    (h.cable.holder ≠ some p →
      ∃ t, exec (.holdAlive p tag true) s = .next t ∧ Answered t p 14 tag .notHolder .empty ∧ SameBlocks h t ∧
        SamePorts h t p) ∧
    (h.cable.holder = some p → h.cable.window = none →
      ∃ t, exec (.holdAlive p tag true) s = .next t ∧ Answered t p 14 tag .wrongState .empty ∧ SameBlocks h t ∧
        SamePorts h t p) ∧
    (h.cable.holder = some p → ∀ r, h.cable.window = some r →
      (h.elapsed / 10 < r + 10 →
        ∃ t, exec (.holdAlive p tag true) s = .next t ∧ Answered t p 14 tag .tooEarly .empty ∧ SameBlocks h t ∧
          SamePorts h t p) ∧
      (r + 10 ≤ h.elapsed / 10 →
        ∃ t, exec (.holdAlive p tag true) s = .next t ∧ Answered t p 14 tag .ok .empty ∧ SamePorts h t p ∧
          SameBlocks { h with cable := { h.cable with window := some (h.elapsed / 10) } } t))) ∧
  (∀ (s : State) (x : Encoders), s.cable.state.measuring = true → ∀ r, s.cable.window = some r →
    ∀ e, e = max s.elapsed (10 * (r + 10 * s.cable.settings.deadMan)) →
    ∃ t, exec (.deadManWindowExpiry x) s = .next t ∧ (∀ q, t.ports.slot q = s.ports.slot q) ∧
      SameBlocks
        { s with
          elapsed := e
          cable :=
            { s.cable with
              lines := x, state := .paused, remembered := some { state := s.cable.state, target := s.cable.target }
              drive := .off, target := none, motionTimer := none, exposureTimer := none, window := none
              pauseTimer := some (e + 100 * s.cable.settings.pauseLimit) }
          gauging := { s.gauging with exposure := none } } t) ∧
  (∀ (s : State) (p : Port) (tag : Byte) (x : Encoders), s.takes p = true → p ≠ .T → ∀ h, h = (s.sample x).heard p →
    (h.cable.holder ≠ some p →
      ∃ t, exec (.resume p tag true x) s = .next t ∧ Answered t p 25 tag .notHolder .empty ∧ SameBlocks h t ∧
        SamePorts h t p) ∧
    (h.cable.holder = some p → h.cable.state ≠ .paused →
      ∃ t, exec (.resume p tag true x) s = .next t ∧ Answered t p 25 tag .wrongState .empty ∧ SameBlocks h t ∧
        SamePorts h t p) ∧
    (h.cable.holder = some p → h.cable.state = .paused → ∀ m, h.cable.remembered = some m → ∀ r, h.cable.run = some r →
      ∀ c : Cableway,
        c = { h.cable with pauseTimer := none, remembered := none, window := some (h.elapsed / 10), state := m.state } →
      ∀ v, v = h.cable.vertical r.vertical →
      ∀ z : Int, z = r.zs.getD 0 + ((r.points[r.sample]?).getD 0 : Nat) →
      (m.state = .traversing → 50 < (x.carriage - v.distance).natAbs →
        ∃ t, exec (.resume p tag true x) s = .next t ∧ Answered t p 25 tag .ok .empty ∧ SamePorts h t p ∧
          SameBlocks
            { h with
              cable :=
                { c with
                  target := some (.carriage v.distance), drive := if x.carriage < v.distance then .traverseOut else .traverseIn
                  motionTimer := some (h.elapsed + 100 * h.cable.settings.traverseTimeout) } } t) ∧
      (m.state = .traversing → (x.carriage - v.distance).natAbs ≤ 50 →
        ∃ t, exec (.resume p tag true x) s = .next t ∧ Answered t p 25 tag .ok .empty ∧ SamePorts h t p ∧
          SameBlocks
            { h with
              cable :=
                { c with
                  run :=
                    some
                      { r with
                        sample := 0, zs := none, zb := none, sounded := .searching, points := [], methodChanged := false
                        depthLimited := false, homing := false }
                  state := .sounding, target := none, drive := .reelDown
                  motionTimer := some (h.elapsed + 100 * h.cable.settings.reelTimeout) } } t) ∧
      (m.state = .sounding →
        ∃ t, exec (.resume p tag true x) s = .next t ∧ Answered t p 25 tag .ok .empty ∧ SamePorts h t p ∧
          SameBlocks
            { h with
              cable :=
                { c with
                  target := none, drive := .reelDown
                  motionTimer := some (h.elapsed + 100 * h.cable.settings.reelTimeout) } } t) ∧
      (m.state = .positioning → 10 < (x.reel - z).natAbs →
        ∃ t, exec (.resume p tag true x) s = .next t ∧ Answered t p 25 tag .ok .empty ∧ SamePorts h t p ∧
          SameBlocks
            { h with
              cable :=
                { c with
                  target := some (.reel z), drive := if x.reel < z then .reelDown else .reelUp
                  motionTimer := some (h.elapsed + 100 * h.cable.settings.reelTimeout) } } t) ∧
      (m.state = .counting ∨ (m.state = .positioning ∧ (x.reel - z).natAbs ≤ 10) →
        ∃ t, exec (.resume p tag true x) s = .next t ∧ Answered t p 25 tag .ok .empty ∧ SamePorts h t p ∧
          SameBlocks
            { h with
              cable :=
                { c with
                  state := .counting, target := none, drive := .off, motionTimer := none
                  exposureTimer := some (h.elapsed + 100 * v.kind.exposure) }
              gauging := { h.gauging with exposure := some { n := 0, saturated := false } } } t) ∧
      (m.state = .raising → 10 < x.reel.natAbs →
        ∃ t, exec (.resume p tag true x) s = .next t ∧ Answered t p 25 tag .ok .empty ∧ SamePorts h t p ∧
          SameBlocks
            { h with
              cable :=
                { c with
                  target := some (.reel 0), drive := if x.reel < 0 then .reelDown else .reelUp
                  motionTimer := some (h.elapsed + 100 * h.cable.settings.reelTimeout) } } t) ∧
      (m.state = .raising → x.reel.natAbs ≤ 10 → ∀ u, u = { h with cable := c } →
        ∃ t, exec (.resume p tag true x) s = .next t ∧ Answered t p 25 tag .ok .empty ∧
          (u.stowsQuietly r = true → SamePorts h t p) ∧ StowedInRun u t r)))

/-- ABORT_RUN, OVERLOAD, MOTION_TIMER_EXPIRY, PAUSE_TIMER_EXPIRY and a flood abort end the run in progress with their cause,
OVERLOAD and MOTION_TIMER_EXPIRY in FAULTED and the others with retrieval (R119, R122, R123, R124, R125). A BURST_READING, a
STATION_SECOND or a MANUAL_READING that forms an observation above the stage limit of the run's hold, or brings the level to one
that bars that hold, ends the run with cause FLOOD_LIMIT (R91, R123). The record formed at a
run's end: its mid-time, its entries in plan order, the measured discharge of its section list, the mean gauge height, the rated
part, the percent difference and the candidate shift, with its disposition, and each of its flags (R136 to R145). The
model's choices in it: log entries 1, 5, 8, 10, 11 (which channels an acquisition updates), 24 (a notice counts its vertical from 1)
and 35 (no remembered state at a run's end). -/
def Obligations.RunsEndWithTheirCause : Prop :=
  (∀ l : List VerticalResult,
    ∀ v d b : Nat → Nat, v = (fun i => ((l[i]?).bind (·.velocity)).getD 0) → d = (fun i => ((l[i]?).bind (·.depth)).getD 0) →
      b = (fun i => ((l[i]?).map (·.distance)).getD 0) →
    panelSum none l = ((List.range l.length).map (fun i => v i * d i * (b (min (i + 1) (l.length - 1)) - b (i - 1)))).sum) ∧
  (∀ (s : State) (rr : RunRecord) (cause : EndCause), ∀ g, g = s.formRecord rr cause →
    g.id = s.gauging.nextId ∧ g.holdPort = rr.holdPort ∧ g.startTime = rr.startTime ∧ g.endTime = s.clock.time ∧
      g.cause = cause ∧ g.elevation = s.rating.elevation ∧ g.a = rr.plan.a ∧ g.b = rr.plan.b ∧
    (rr.startTime ≤ s.clock.time → g.midTime = rr.startTime + (s.clock.time - rr.startTime + 1) / 2) ∧
    (s.clock.time < rr.startTime → g.midTime = s.clock.time) ∧
    (cause ≠ .complete → g.results = rr.results ∧ g.qMeas = none ∧ g.flags.incompleteSection = true) ∧
    (cause = .complete →
      ((∀ i v, rr.plan.verticals[i]? = some v → v.kind.isMeasured = true → ∃ r ∈ rr.results, r.index = i + 1) →
        g.results.map (·.index) = (List.range rr.plan.verticals.length).map (· + 1)) ∧
      (∀ i v, rr.plan.verticals[i]? = some v → ∀ depth, v.kind = .edge depth →
        { index := i + 1, distance := v.distance, method := .edge, depth := some depth, velocity := some 0, exposure := 0
          counts := [], flags := VerticalFlags.none } ∈ g.results) ∧
      (∀ i v, rr.plan.verticals[i]? = some v → v.kind.isMeasured = true →
        ∀ r, rr.results.find? (fun r => r.index = i + 1) = some r → r ∈ g.results) ∧
      ∀ q, q = (panelSum none (g.results.filter (fun r => !r.flags.skipped)) + 1000000) / 2000000 →
        g.qMeas = some (min 40000000 q) ∧ g.flags.qSaturated = decide (40000000 < q) ∧ g.flags.incompleteSection = false) ∧
    (rr.lastCompletion = none → g.height = none) ∧
    (∀ last, rr.lastCompletion = some last →
      ∀ stages, stages =
          s.lau.series.filterMap (fun o => if rr.startTime ≤ o.time ∧ o.time ≤ last then o.stage else none) →
        g.height = (if stages = [] then none else some (halfAway stages.sum stages.length))) ∧
    (g.height = none →
      g.qRated = none ∧ g.ratedFlags = DischargeFlags.none ∧ g.ratingId = none ∧ g.shift = none ∧ g.candidate = none) ∧
    (∀ h, g.height = some h →
      ({ discharge := g.qRated, flags := g.ratedFlags, ratingId := g.ratingId, shift := g.shift } : Rated) =
        s.rating.rate h g.midTime) ∧
    (∀ m r, g.qMeas = some m → g.qRated = some r → 0 < r →
      g.percent = some (min 1000000 (halfAway (((m : Int) - r) * 1000) r))) ∧
    (g.qMeas = none ∨ g.qRated = none ∨ g.qRated = some 0 → g.percent = none) ∧
    (∀ v q h, inForce s.rating.versions g.midTime = some v → g.qMeas = some q → g.height = some h →
      g.candidate = (inverse v.points q).map (fun e => max (-1000) (min 1000 (e - h)))) ∧
    (inForce s.rating.versions g.midTime = none ∨ g.qMeas = none → g.candidate = none) ∧
    g.disposition = (if g.candidate.isSome then .pending else .none) ∧
    (g.flags.skippedVerticals = true ↔ cause = .complete ∧ ∃ r ∈ g.results, r.flags.skipped = true) ∧
    (cause ≠ .complete → g.flags.qSaturated = false) ∧
    (g.flags.manualHeight = true ↔
      ∃ last, rr.lastCompletion = some last ∧
        ∃ o ∈ s.lau.series, rr.startTime ≤ o.time ∧ o.time ≤ last ∧ o.stage.isSome = true ∧ o.source = some .manual) ∧
    (g.flags.seriesShort = true ↔
      ∃ n, rr.startObs = some n ∧ (∃ o, s.lau.series.getLast? = some o ∧ o.number ≠ n) ∧
        ∀ o ∈ s.lau.series, o.number ≠ (n + 1) % 4294967296) ∧
    (g.flags.timeChanged = true ↔
      s.clock.time < rr.startTime ∨
        1 < (((s.clock.time : Int) - rr.startTime) - (((s.elapsed / 100 : Nat) : Int) - rr.startElapsed)).natAbs) ∧
    (g.flags.pctClamped = true ↔
      ∃ m r, g.qMeas = some m ∧ g.qRated = some r ∧ 0 < r ∧ 1000000 < halfAway (((m : Int) - r) * 1000) r) ∧
    (g.flags.shiftClamped = true ↔
      ∃ v q h e, inForce s.rating.versions g.midTime = some v ∧ g.qMeas = some q ∧ g.height = some h ∧
        inverse v.points q = some e ∧ (e - h < -1000 ∨ 1000 < e - h)) ∧
    g.flags.notArchived = false) ∧
  (∀ (s : State) (p : Port) (tag : Byte) (x : Encoders), s.takes p = true → p ≠ .T → ∀ h, h = (s.sample x).heard p →
    (h.cable.holder ≠ some p →
      ∃ t, exec (.abortRun p tag true x) s = .next t ∧ Answered t p 1 tag .notHolder .empty ∧ SameBlocks h t ∧
        SamePorts h t p) ∧
    (h.cable.holder = some p → h.cable.run.isSome = true → h.gauging.run.isSome = true → h.hasRoom = true →
      ∃ t, exec (.abortRun p tag true x) s = .next t ∧ Answered t p 1 tag .ok .empty ∧ SamePorts h t p ∧
        RunEnded h t .aborted ((h.cable.ended .aborted).retrieve h.elapsed)) ∧
    (h.cable.holder = some p → h.cable.run = none → h.cable.state = .faulted →
      ∃ t, exec (.abortRun p tag true x) s = .next t ∧ Answered t p 1 tag .ok .empty ∧ SamePorts h t p ∧
        SameBlocks { h with cable := h.cable.retrieve h.elapsed } t) ∧
    (h.cable.holder = some p → h.cable.run = none → h.cable.state ≠ .faulted →
      ∃ t, exec (.abortRun p tag true x) s = .next t ∧ Answered t p 1 tag .wrongState .empty ∧ SameBlocks h t ∧
        SamePorts h t p)) ∧
  (∀ (s : State) (x : Encoders), s.cable.run.isSome = true → s.gauging.run.isSome = true → s.hasRoom = true →
    ∀ u, u = s.sample x →
    (s.cable.state.measuring = true ∨ s.cable.state = .paused →
      ∃ t, exec (.overload x) s = .next t ∧ (∀ q, t.ports.slot q = s.ports.slot q) ∧
        RunEnded u t .overload { u.cable.ended .overload with state := .faulted }) ∧
    (s.cable.state.measuring = true → ∀ e, s.cable.motionTimer = some e →
      ∃ t, exec (.motionTimerExpiry x) s = .next t ∧ (∀ q, t.ports.slot q = s.ports.slot q) ∧
        RunEnded { u with elapsed := max s.elapsed e } t .motionTimeout
          { u.cable.ended .motionTimeout with state := .faulted }) ∧
    (s.cable.state = .paused → ∀ e, s.cable.pauseTimer = some e →
      ∃ t, exec (.pauseTimerExpiry x) s = .next t ∧ (∀ q, t.ports.slot q = s.ports.slot q) ∧
        RunEnded { u with elapsed := max s.elapsed e } t .pauseLimit
          ((u.cable.ended .pauseLimit).retrieve (max s.elapsed e))) ∧
    (∀ r, s.cable.run = some r →
      (s.warning.level = .alarm ∨ (r.kind = .unattended ∧ s.warning.level = .warn) →
        RunEnded s s.floodOnLevel .floodLimit ((s.cable.ended .floodLimit).retrieve s.elapsed)) ∧
      (∀ (o : Observation), ∀ h, o.stage = some h →
        (match r.kind with | .unattended => s.cable.settings.unattendedLimit | .attended => s.cable.settings.attendedLimit) < h →
        RunEnded s (s.floodOnAppend o) .floodLimit ((s.cable.ended .floodLimit).retrieve s.elapsed)))) ∧
  ∀ (s : State) (x : Encoders), ∀ run, s.cable.run = some run → ∀ rr, s.gauging.run = some rr →
    ∀ barring : State → Found → Prop,
      (∀ t f, barring t f ↔
        t.warning.level = .alarm ∨ (run.kind = .unattended ∧ t.warning.level = .warn) ∨
          ∃ h, f.stage = some h ∧
            (match run.kind with | .unattended => s.cable.settings.unattendedLimit | .attended => s.cable.settings.attendedLimit)
              < h) →
    (∀ r : Readings, ∀ a, s.lau.acq = some a → a.phase = .burst → a.burst ≤ a.taken + 1 → s.laterSecond = true →
      ∀ u, u = { s.sample x with elapsed := max s.elapsed (a.start + 100 * a.warmUp + 25 * a.taken) } →
      ∀ j, j = s.lau.judge (a.read r) →
      ∃ t, exec (.burstReading r x) s = .next t ∧ ObservationFormed u t j.1 j.2 ∧
        (barring t j.2 → FloodEndsRun u t j.2 run rr)) ∧
    (∀ a, s.lau.acq = some a → a.phase = .completing → s.clock.time < 4294967295 →
      (∀ o, s.lau.series.getLast? = some o → o.time ≤ s.clock.time) →
      ∀ u, u =
          { s.sample x with
            elapsed := max s.elapsed (s.clock.phase + 100).toNat
            clock := { s.clock with time := s.clock.time + 1, phase := s.clock.phase + 100 } } →
      ∀ j, j = s.lau.judge a →
      ∃ t, exec (.stationSecond x) s = .next t ∧ ObservationFormed u t j.1 j.2 ∧
        (barring t j.2 → FloodEndsRun u t j.2 run rr)) ∧
    ∀ (tag : Byte) (v : Int), s.takes .F = true → -2000 ≤ v → v ≤ 20000 → ∀ h, h = (s.sample x).heard .F →
      h.lau.hold.state = .held → h.sameSecond = false → h.lau.acq = none →
      ∀ f, f = { stage := some v, source := some .manual, range := false, manual := true, events := [] } →
      ∃ t, exec (.manualReading .F tag (some v) x) s = .next t ∧ (barring t f → FloodEndsRun h t f run rr)

/-- Retrieval: the reel up to the stowed point, the carriage to position 0, then CLAIMED with a holder and IDLE without one,
its plan discarded. An overload or a motion timeout in it leads to STUCK, which CLEAR_FAULT leaves (R126, R127, R128). The
model's choices in it: log entries 1 (a timer event moves the elapsed time to its expiry) and 5 (the encoder lines). -/
def Obligations.RetrievalBringsTheWeightHome : Prop :=
  (∀ (c : Cableway) (now : Nat),
    (10 < c.lines.reel.natAbs →
      c.retrieve now =
        { c with
          state := .retrieving, target := some (.reel 0), drive := .reelUp
          motionTimer := some (now + 100 * c.settings.reelTimeout) }) ∧
    (c.lines.reel.natAbs ≤ 10 → 50 < c.lines.carriage.natAbs →
      c.retrieve now =
        { c with
          state := .retrieving, target := some (.carriage 0)
          drive := if c.lines.carriage < 0 then .traverseOut else .traverseIn
          motionTimer := some (now + 100 * c.settings.traverseTimeout) }) ∧
    (c.lines.reel.natAbs ≤ 10 → c.lines.carriage.natAbs ≤ 50 →
      c.retrieve now =
        if c.holder.isSome then { c with state := .claimed, target := none, drive := .off, motionTimer := none }
        else { c with state := .idle, target := none, drive := .off, motionTimer := none, plan := none })) ∧
  (∀ (s : State) (x : Encoders), s.cable.state = .retrieving → ∀ u, u = s.sample x →
    (s.cable.target = some (.reel 0) → x.reel.natAbs ≤ 10 →
      ∃ t, exec (.reelArrival x) s = .next t ∧ (∀ q, t.ports.slot q = s.ports.slot q) ∧
        SameBlocks { u with cable := u.cable.retrieve s.elapsed } t) ∧
    (s.cable.target = some (.carriage 0) → x.carriage.natAbs ≤ 50 →
      ∃ t, exec (.traverseArrival x) s = .next t ∧ (∀ q, t.ports.slot q = s.ports.slot q) ∧
        SameBlocks
          { u with
            cable :=
              { u.cable with
                state := if s.cable.holder.isSome then .claimed else .idle, target := none, drive := .off, motionTimer := none
                plan := if s.cable.holder.isSome then s.cable.plan else none } } t) ∧
    (s.hasRoom = true →
      (∃ t, exec (.overload x) s = .next t ∧ (∀ q, t.ports.slot q = s.ports.slot q) ∧
        SameBlocks
          { u.told (.cableway .stuck .overload s.cable.latestHold none x) with
            cable :=
              { u.cable with
                state := .stuck, holder := none, plan := none, available := false, drive := .off, target := none
                motionTimer := none } } t) ∧
      (∀ e, s.cable.motionTimer = some e →
        ∃ t, exec (.motionTimerExpiry x) s = .next t ∧ (∀ q, t.ports.slot q = s.ports.slot q) ∧
          SameBlocks
            { u.told (.cableway .stuck .motionTimeout s.cable.latestHold none x) with
              elapsed := max s.elapsed e
              cable :=
                { u.cable with
                  state := .stuck, holder := none, plan := none, available := false, drive := .off, target := none
                  motionTimer := none } } t))) ∧
  (∀ (s : State) (tag : Byte), s.takes .F = true → ∀ h, h = s.heard .F →
    (h.cable.state = .stuck →
      ∃ t, exec (.clearFault .F tag true) s = .next t ∧ Answered t .F 6 tag .ok .empty ∧ SamePorts h t .F ∧
        SameBlocks
          { h with cable := { h.cable with state := .idle, available := decide (h.cable.settings.span ≠ 0) } } t) ∧
    (h.cable.state ≠ .stuck →
      ∃ t, exec (.clearFault .F tag true) s = .next t ∧ Answered t .F 6 tag .wrongState .empty ∧ SameBlocks h t ∧
        SamePorts h t .F))

/-- The steps of a run by their events: the arrival over a vertical begins its sounding, the contacts record its surface and
its bed, the arrivals of the reel begin a count or end the vertical, and the last vertical completes the run (R115, R116,
R117, R118, R119, R134). A target already reached when its state is entered is reached at once: a first sample point within 10 mm of
the bed, as in a film of water, opens its exposure, a DRY vertical found with the weight stowed is complete, and a vertical within 50
mm of the carriage is sounded (R105, R116). The model's choices in it: log entries 5, 8 and 24; a bed above the surface has the free
depth of log entry 25. -/
def Obligations.TheStepsOfARun : Prop :=
  ∀ (s : State) (x : Encoders), ∀ r, s.cable.run = some r → ∀ u, u = s.sample x → ∀ v, v = s.cable.vertical r.vertical →
    (s.cable.state = .traversing → ∀ d, s.cable.target = some (.carriage d) → (x.carriage - d).natAbs ≤ 50 →
      ∃ t, exec (.traverseArrival x) s = .next t ∧ (∀ q, t.ports.slot q = s.ports.slot q) ∧
        SameBlocks
          { u with
            cable :=
              { u.cable with
                run :=
                  some
                    { r with
                      sample := 0, zs := none, zb := none, sounded := .searching, points := [], methodChanged := false
                      depthLimited := false, homing := false }
                state := .sounding, target := none, drive := .reelDown
                motionTimer := some (s.elapsed + 100 * s.cable.settings.reelTimeout) } } t) ∧
    (s.cable.state = .sounding →
      (r.zs = none →
        (∃ t, exec (.surfaceContact x) s = .next t ∧ (∀ q, t.ports.slot q = s.ports.slot q) ∧
          SameBlocks { u with cable := { u.cable with run := some { r with zs := some x.reel } } } t) ∧
        (10 < x.reel.natAbs →
          ∃ t, exec (.bottomContact x) s = .next t ∧ (∀ q, t.ports.slot q = s.ports.slot q) ∧
            SameBlocks
              { u with
                cable :=
                  { u.cable with
                    run := some { r with sounded := .dry }, state := .raising, target := some (.reel 0)
                    drive := if x.reel < 0 then .reelDown else .reelUp
                    motionTimer := some (s.elapsed + 100 * s.cable.settings.reelTimeout) } } t) ∧
        (x.reel.natAbs ≤ 10 → ∀ dry, dry = { r with sounded := .dry } →
          ∃ t, exec (.bottomContact x) s = .next t ∧ (u.stowsQuietly dry = true → ∀ q, t.ports.slot q = s.ports.slot q) ∧
            StowedInRun u t dry)) ∧
      (r.zs.isSome = true →
        ∃ t, exec (.surfaceContact x) s = .next t ∧ (∀ q, t.ports.slot q = s.ports.slot q) ∧ SameBlocks u t) ∧
      (∀ zs, r.zs = some zs → ∀ d, d = (if zs ≤ x.reel then (x.reel - zs).toNat else Config.depthAboveSurface zs x.reel) →
        ∀ m, m = samplePoints v.kind s.cable.settings.twoPointMinimum s.cable.settings.weightOffset d →
        ∀ z : Int, z = zs + ((m.1[0]?).getD 0 : Nat) →
        ∀ found : Run,
          found =
            { r with
              zb := some x.reel, sounded := .measured d, sample := 0, points := m.1, methodChanged := m.2.1
              depthLimited := m.2.2 } →
        (10 < (x.reel - z).natAbs →
          ∃ t, exec (.bottomContact x) s = .next t ∧ (∀ q, t.ports.slot q = s.ports.slot q) ∧
            SameBlocks
              { u with
                cable :=
                  { u.cable with
                    run := some found, state := .positioning, target := some (.reel z)
                    drive := if x.reel < z then .reelDown else .reelUp
                    motionTimer := some (s.elapsed + 100 * s.cable.settings.reelTimeout) } } t) ∧
        ((x.reel - z).natAbs ≤ 10 →
          ∃ t, exec (.bottomContact x) s = .next t ∧ (∀ q, t.ports.slot q = s.ports.slot q) ∧
            SameBlocks
              { u with
                cable :=
                  { u.cable with
                    run := some found, state := .counting, target := none, drive := .off, motionTimer := none
                    exposureTimer := some (s.elapsed + 100 * v.kind.exposure) }
                gauging := { s.gauging with exposure := some { n := 0, saturated := false } } } t)) ∧
      (25000 ≤ x.reel →
        ∃ t, exec (.reelDepthReaches25000 x) s = .next t ∧ (∀ q, t.ports.slot q = s.ports.slot q) ∧
          SameBlocks
            { u with
              cable :=
                { u.cable with
                  run := some { r with sounded := .skipped }, state := .raising, target := some (.reel 0), drive := .reelUp
                  motionTimer := some (s.elapsed + 100 * s.cable.settings.reelTimeout) } } t)) ∧
    (s.cable.state = .positioning → ∀ d, s.cable.target = some (.reel d) → (x.reel - d).natAbs ≤ 10 →
      ∃ t, exec (.reelArrival x) s = .next t ∧ (∀ q, t.ports.slot q = s.ports.slot q) ∧
        SameBlocks
          { u with
            cable :=
              { u.cable with
                state := .counting, target := none, drive := .off, motionTimer := none
                exposureTimer := some (s.elapsed + 100 * v.kind.exposure) }
            gauging := { s.gauging with exposure := some { n := 0, saturated := false } } } t) ∧
    (s.cable.state = .raising → s.cable.target = some (.reel 0) → x.reel.natAbs ≤ 10 →
      (∃ t, exec (.reelArrival x) s = .next t ∧ (u.stowsQuietly r = true → ∀ q, t.ports.slot q = s.ports.slot q) ∧
        StowedInRun u t r) ∧
      (r.homing = true → 50 < (x.carriage - v.distance).natAbs →
        ∃ t, exec (.reelArrival x) s = .next t ∧ (∀ q, t.ports.slot q = s.ports.slot q) ∧
          SameBlocks
            { u with
              cable :=
                { u.cable with
                  run := some { r with homing := false }, state := .traversing, target := some (.carriage v.distance)
                  drive := if x.carriage < v.distance then .traverseOut else .traverseIn
                  motionTimer := some (s.elapsed + 100 * s.cable.settings.traverseTimeout) } } t) ∧
      (r.homing = false → ∀ rr, s.gauging.run = some rr →
        ∀ g : Gauging,
          g =
            { s.gauging with
              run :=
                some
                  { rr with results := rr.results ++ [formResult rr s.gauging.kept r], lastCompletion := some s.clock.time }
              kept := [] } →
        (∀ k, s.cable.nextMeasured (r.vertical + 1) = some k → ∀ w, w = s.cable.vertical k →
          50 < (x.carriage - w.distance).natAbs →
          ∃ t, exec (.reelArrival x) s = .next t ∧ (∀ q, t.ports.slot q = s.ports.slot q) ∧
            SameBlocks
              { u with
                gauging := g
                cable :=
                  { u.cable with
                    run :=
                      some
                        { r with
                          vertical := k, sample := 0, zs := none, zb := none, sounded := .searching, points := []
                          methodChanged := false, depthLimited := false }
                    state := .traversing, target := some (.carriage w.distance)
                    drive := if x.carriage < w.distance then .traverseOut else .traverseIn
                    motionTimer := some (s.elapsed + 100 * s.cable.settings.traverseTimeout) } } t) ∧
        (s.cable.nextMeasured (r.vertical + 1) = none → s.hasRoom = true →
          ∃ t, exec (.reelArrival x) s = .next t ∧ (∀ q, t.ports.slot q = s.ports.slot q) ∧
            RunEnded { u with gauging := g } t .complete ((u.cable.ended .complete).retrieve s.elapsed))))

/-- METER_PULSE counts in COUNTING alone, held at 65,535 with the saturation mark; EXPOSURE_TIMER_EXPIRY keeps the count and
goes on to the next sample point, or raises the weight after the last; a next point already within 10 mm, as where both points of a
vertical are raised to one sample limit, opens its exposure at once, and a weight already stowed completes the vertical (R105, R115,
R117, R118, R132). The counts give the velocity of a sample point and the vertical's result (R133, R134). The model's choices in it:
log entries 1, 5 and 8. -/
def Obligations.PulsesAreCounted : Prop :=
  (∀ a b t n : Nat,
    pointVelocity a b t 0 = 0 ∧ (0 < n → pointVelocity a b t n = min 10000 ((a * n + 5 * t) / (10 * t) + b))) ∧
  (∀ (rr : RunRecord) (kept : List PulseCount) (run : Run) (v : PlanVertical), rr.plan.verticals[run.vertical]? = some v →
    ∀ r, r = formResult rr kept run →
    r.index = run.vertical + 1 ∧ r.distance = v.distance ∧ r.exposure = v.kind.exposure ∧
      r.flags.methodChanged = run.methodChanged ∧ r.flags.depthLimited = run.depthLimited ∧
    (run.sounded = .dry →
      r.method = v.kind.method ∧ r.depth = some 0 ∧ r.velocity = some 0 ∧ r.counts = [] ∧ r.flags.dry = true ∧
        r.flags.skipped = false) ∧
    (run.sounded = .skipped →
      r.method = v.kind.method ∧ r.depth = none ∧ r.velocity = none ∧ r.counts = [] ∧ r.flags.skipped = true) ∧
    (∀ d, run.sounded = .measured d →
      r.method = (if run.methodChanged then .onePoint else v.kind.method) ∧ r.depth = some d ∧ r.counts = kept ∧
        r.flags.countSaturated = kept.any (·.saturated) ∧ r.flags.skipped = false ∧ r.flags.dry = false ∧
      ∀ w : PulseCount → Nat, w = (fun c => pointVelocity rr.plan.a rr.plan.b v.kind.exposure c.n) →
        (∀ c, kept = [c] → r.velocity = some (w c)) ∧
        ∀ c c', kept = [c, c'] → r.velocity = some ((w c + w c' + 1) / 2))) ∧
  ∀ s : State,
    (s.cable.state ≠ .counting →
      ∃ t, exec .meterPulse s = .next t ∧ (∀ q, t.ports.slot q = s.ports.slot q) ∧ SameBlocks s t) ∧
    (s.cable.state = .counting → ∀ c, s.gauging.exposure = some c →
      (c.n < 65535 →
        ∃ t, exec .meterPulse s = .next t ∧ (∀ q, t.ports.slot q = s.ports.slot q) ∧
          SameBlocks { s with gauging := { s.gauging with exposure := some { c with n := c.n + 1 } } } t) ∧
      (c.n = 65535 →
        ∃ t, exec .meterPulse s = .next t ∧ (∀ q, t.ports.slot q = s.ports.slot q) ∧
          SameBlocks { s with gauging := { s.gauging with exposure := some { c with saturated := true } } } t) ∧
      (∀ x : Encoders, ∀ e, s.cable.exposureTimer = some e → ∀ r, s.cable.run = some r →
        ∀ now, now = max s.elapsed e →
        ∀ g : Gauging, g = { s.gauging with kept := s.gauging.kept ++ [c], exposure := none } →
        (∀ z : Int, z = r.zs.getD 0 + ((r.points[r.sample + 1]?).getD 0 : Nat) →
          r.sample + 1 < r.points.length → 10 < (x.reel - z).natAbs →
          ∃ t, exec (.exposureTimerExpiry x) s = .next t ∧ (∀ q, t.ports.slot q = s.ports.slot q) ∧
            SameBlocks
              { s with
                elapsed := now, gauging := g
                cable :=
                  { s.cable with
                    lines := x, exposureTimer := none, run := some { r with sample := r.sample + 1 }, state := .positioning
                    target := some (.reel z), drive := if x.reel < z then .reelDown else .reelUp
                    motionTimer := some (now + 100 * s.cable.settings.reelTimeout) } } t) ∧
        (∀ z : Int, z = r.zs.getD 0 + ((r.points[r.sample + 1]?).getD 0 : Nat) →
          r.sample + 1 < r.points.length → (x.reel - z).natAbs ≤ 10 →
          ∃ t, exec (.exposureTimerExpiry x) s = .next t ∧ (∀ q, t.ports.slot q = s.ports.slot q) ∧
            SameBlocks
              { s with
                elapsed := now, gauging := { g with exposure := some { n := 0, saturated := false } }
                cable :=
                  { s.cable with
                    lines := x, run := some { r with sample := r.sample + 1 }, state := .counting, target := none
                    drive := .off, motionTimer := none
                    exposureTimer := some (now + 100 * (s.cable.vertical r.vertical).kind.exposure) } } t) ∧
        (r.points.length ≤ r.sample + 1 → x.reel.natAbs ≤ 10 →
          ∀ u, u = { s with elapsed := now, gauging := g, cable := { s.cable with lines := x, exposureTimer := none } } →
          ∃ t, exec (.exposureTimerExpiry x) s = .next t ∧ (u.stowsQuietly r = true → ∀ q, t.ports.slot q = s.ports.slot q) ∧
            StowedInRun u t r) ∧
        (r.points.length ≤ r.sample + 1 → 10 < x.reel.natAbs →
          ∃ t, exec (.exposureTimerExpiry x) s = .next t ∧ (∀ q, t.ports.slot q = s.ports.slot q) ∧
            SameBlocks
              { s with
                elapsed := now, gauging := g
                cable :=
                  { s.cable with
                    lines := x, exposureTimer := none, state := .raising, target := some (.reel 0)
                    drive := if x.reel < 0 then .reelDown else .reelUp
                    motionTimer := some (now + 100 * s.cable.settings.reelTimeout) } } t)))

/-! ### The archive and the settings store -/

/-- A record handed to an archive with room joins the queue as its newest; programming of the queue's head then begins where
nothing is in flight, the start-up sequence is over and a page is OPEN: the record's own with its index when it fits, the closed
mark of the page when it does not (R159, R160, R161, R162, R196). RECORD_PROGRAMMED places the head record on its page with its
index, and the queue goes on without it, the oldest record of the waiting line entering the room it leaves; an emptied queue with
drop counts gives a GAP record; the next head then begins programming; a gauging's record ends COMPUTING; after the last index the
archive is FAILED. PAGE_HEADER_PROGRAMMED opens a page, on which the head begins programming, or closes one, and ERASE_COMPLETE
empties one and begins its header (R148, R151, R157, R159, R161, R162, R166). A record handed to an archive without room is
counted as dropped or joins the waiting line, and one handed to a FAILED archive is dropped and reported; FREEZE_RATING and
SET_TIME are then answered OK, and SET_SHIFT is answered when its write is done (R29, R54, R65, R160, R165, R166, R167). The model's
choices in it: log entries 5 (SET_TIME keeps the encoder lines it carries), 17 (a header and a mark are operations), 19 (with a page
OPEN the page erased again after start-up stays ERASED) and 37 (the first and last numbers dropped become 0 with the counts). -/
def Obligations.ArchiveOperationsComplete : Prop :=
  (∀ (w : Wake) (r : Record) (time : Nat) (owner : Owner), w.archive.state.isFailed = false →
    w.archive.queue.length < 32 → w.archive.waiting = [] →
    ∀ q, q = { record := r, time := time, owner := owner, index := none } →
      (w.hand r time owner).gauging = w.gauging ∧ (w.hand r time owner).notices = w.notices ∧
      (owner = .nobody ∨ owner = .gauging → (w.hand r time owner).ports = w.ports) ∧
      (w.startingUp = true ∨ w.archive.op ≠ .idle ∨ w.archive.openPage = none →
        (w.hand r time owner).archive = { w.archive with queue := w.archive.queue ++ [q] }) ∧
      (w.startingUp = false → w.archive.op = .idle → ∀ n, w.archive.openPage = some n →
        ∀ first rest, w.archive.queue ++ [q] = first :: rest →
          ProgrammingBegun w.archive (w.hand r time owner).archive n first rest)) ∧
  (∀ (w : Wake) (r : Record) (time : Nat) (owner : Owner),
    (w.archive.state.isFailed = false → (32 ≤ w.archive.queue.length ∨ w.archive.waiting ≠ []) →
      (∀ n, r.obsNumber = some n →
        w.hand r time owner =
          { w with
            archive :=
              { w.archive with
                obsDropped := min 65535 (w.archive.obsDropped + 1)
                firstDropped := if w.archive.obsDropped = 0 then n else w.archive.firstDropped
                lastDropped := n } }) ∧
      (r.obsNumber = none → owner = .nobody → 16 ≤ freeCount w.archive.waiting →
        w.hand r time owner =
          { w with archive := { w.archive with othersDropped := min 65535 (w.archive.othersDropped + 1) } }) ∧
      (r.obsNumber = none → owner ≠ .nobody ∨ freeCount w.archive.waiting < 16 →
        w.hand r time owner =
          { w with
            archive :=
              { w.archive with
                waiting := w.archive.waiting ++ [{ record := r, time := time, owner := owner, index := none }] } })) ∧
    (w.archive.state.isFailed = true →
      (owner = .nobody → w.hand r time owner = w) ∧
      (∀ p id, owner = .request p id → ∀ o, w.ports.slot p = some o → o.id = id → o.answered = false →
        w.hand r time owner = { w with ports := (w.hand r time owner).ports } ∧
          (∀ q, q ≠ p → (w.hand r time owner).ports.slot q = w.ports.slot q) ∧
          ∃ o', (w.hand r time owner).ports.slot p = some o' ∧
            { o' with answered := false } = { o with waitRecord := false, dropped := true }) ∧
      (owner = .gauging → ∀ g, w.gauging.computing = some g →
        (w.hand r time owner).archive = w.archive ∧
          (w.hand r time owner).gauging =
            { w.gauging with
              computing := none, result := .ready
              list := w.gauging.list.drop (w.gauging.list.length - 7) ++
                [{ record := { g with flags := { g.flags with notArchived := true } }, index := none }] }))) ∧
  (∀ (s : State) (p : Port) (tag : Byte), s.takes p = true → ∀ h, h = s.heard p → h.archive.state.isFailed = true →
    (h.rating.frozen = false →
      ∃ t, exec (.freezeRating p tag true) s = .next t ∧ Answered t p 13 tag .ok .empty ∧ SamePorts h t p ∧
        SameBlocks { h with rating := { h.rating with frozen := true } } t) ∧
    (∀ (x : Encoders) (time : Nat), h.clock.floor ≤ time → h.lau.acq = none → h.lau.startOwed = false →
      ∃ t, exec (.setTime p tag (some time) x) s = .next t ∧ Answered t p 32 tag .ok .empty ∧ SamePorts h t p ∧
        SameBlocks
          { h.sample x with
            clock := { time := time, quality := .set, floor := h.clock.floor, phase := h.elapsed } } t) ∧
    (∀ f : ShiftFields, -1000 ≤ f.shift → f.shift ≤ 1000 →
      ∀ r, r = insertShift h.rating.shifts { time := f.time, shift := f.shift, origin := .manual } →
      ∃ t, exec (.setShift p tag (some f)) s = .next t ∧ Owes t p 30 tag true false (.shiftCount r.1.length r.2.2) ∧
        (∃ o, t.ports.slot p = some o ∧ o.dropped = true ∧ o.strict = true) ∧ SamePorts h t p ∧
        Stored { h with rating := { h.rating with shifts := r.1 } } t p (.shifts r.1))) ∧
  ∀ s : State, pagesWf s.archive.pages = true → s.startingUp = false → s.archive.state.isFailed = false →
    s.archive.freshState = s.archive.state →
    (∀ n, s.archive.op = .record n → n < pageCount → ∀ q, s.archive.queue.head? = some q → ∀ k, q.index = some k → k < 4294967295 →
      ∀ rest, rest = s.archive.queue.drop 1 →
      ∀ pages,
        pages =
          setPage s.archive.pages n
            { pageAt s.archive.pages n with
              records :=
                (pageAt s.archive.pages n).records ++ [{ record := q.record, time := q.time, index := k, intact := true }] } →
      (∃ t, exec .recordProgrammed s = .next t ∧ t.archive.pages = pages) ∧
      (s.archive.queue.length ≤ 32 → q.owner ≠ .gauging → ∀ first line, s.archive.waiting = first :: line →
        ∃ t, exec .recordProgrammed s = .next t ∧ t.archive.waiting = line ∧
          t.archive.queue.map (fun q => (q.record, q.time)) =
            rest.map (fun q => (q.record, q.time)) ++ [(first.record, first.time)] ∧
          ∀ p id, first.owner = .request p id → ∀ o, s.ports.slot p = some o → o.id = id → o.answered = false →
            o.waitWrite = false → o.waitGauging = none → o.waitVerify = false → o.unfinished = false → o.dropped = false →
            Answered t p o.code.toNat o.tag .ok o.payload) ∧
      (rest = [] → s.archive.waiting = [] → q.owner ≠ .gauging → s.archive.obsDropped + s.archive.othersDropped = 0 →
        ∃ t, exec .recordProgrammed s = .next t ∧ (∀ q, t.ports.slot q = s.ports.slot q) ∧
          SameBlocks { s with archive := { s.archive with pages := pages, op := .idle, queue := [] } } t) ∧
      (rest = [] → s.archive.waiting = [] → q.owner ≠ .gauging → 0 < s.archive.obsDropped + s.archive.othersDropped →
        ∃ t, exec .recordProgrammed s = .next t ∧ (∀ q, t.ports.slot q = s.ports.slot q) ∧
          SameBlocks { s with archive := t.archive } t ∧ t.archive.obsDropped = 0 ∧ t.archive.othersDropped = 0 ∧
          t.archive.queue.map (fun q => (q.record, q.time)) =
            [(.gap
                { obsCount := s.archive.obsDropped, first := s.archive.firstDropped, last := s.archive.lastDropped
                  others := s.archive.othersDropped },
              s.clock.time)]) ∧
      (rest = [] → s.archive.waiting = [] → q.owner = .gauging → s.archive.obsDropped + s.archive.othersDropped = 0 →
        s.hasRoom = true → ∀ g, s.gauging.computing = some g →
        ∀ r : GaugingRecord, r = { g with flags := { g.flags with notArchived := false } } →
        ∃ t, exec .recordProgrammed s = .next t ∧
          SameBlocks
            { s.told (.gauging r.id r.cause r.qMeas r.candidate false) with
              archive := { s.archive with pages := pages, op := .idle, queue := [] }
              gauging :=
                { s.gauging with
                  computing := none, result := .ready
                  list := s.gauging.list.drop (s.gauging.list.length - 7) ++ [{ record := r, index := some k }] } } t)) ∧
    (∀ n, s.archive.op = .record n → s.archive.openPage = some n → s.archive.queue.length ≤ 32 →
      ∀ q rest, s.archive.queue = q :: rest → ∀ k, q.index = some k → k < 4294967295 →
      ∀ a : Archive,
        a =
          { s.archive with
            op := .idle, queue := rest ++ s.archive.waiting.take 1, waiting := s.archive.waiting.drop 1
            pages :=
              setPage s.archive.pages n
                { pageAt s.archive.pages n with
                  records :=
                    (pageAt s.archive.pages n).records ++
                      [{ record := q.record, time := q.time, index := k, intact := true }] } } →
      ∀ b : Archive, (a.queue ≠ [] ∨ a.obsDropped + a.othersDropped = 0 → b = a) →
        (a.queue = [] → 0 < a.obsDropped + a.othersDropped →
          b =
            { a with
              obsDropped := 0, firstDropped := 0, lastDropped := 0, othersDropped := 0
              queue :=
                [{ record :=
                      .gap
                        { obsCount := a.obsDropped, first := a.firstDropped, last := a.lastDropped, others := a.othersDropped }
                   time := s.clock.time, owner := .nobody, index := none }] }) →
      ∃ t, exec .recordProgrammed s = .next t ∧ (b.queue = [] → t.archive = b) ∧
        (∀ first more, b.queue = first :: more → ProgrammingBegun b t.archive n first more) ∧
        (q.owner ≠ .gauging → SameBlocks { s with archive := t.archive } t ∧
          ((∀ p id, (s.archive.waiting.head?.map (·.owner)) ≠ some (.request p id)) →
            ∀ p, t.ports.slot p = s.ports.slot p)) ∧
        (q.owner = .gauging → s.notices.held.length < 16 → ∀ g, s.gauging.computing = some g →
          ∀ r : GaugingRecord, r = { g with flags := { g.flags with notArchived := false } } →
          SameBlocks
            { s.told (.gauging r.id r.cause r.qMeas r.candidate false) with
              archive := t.archive
              gauging :=
                { s.gauging with
                  computing := none, result := .ready
                  list := s.gauging.list.drop (s.gauging.list.length - 7) ++ [{ record := r, index := some k }] } } t)) ∧
    (∀ n elev, s.archive.op = .header n elev → n < pageCount → s.archive.openPage = none →
      ∀ q rest, s.archive.queue = q :: rest →
      ∃ t, exec .pageHeaderProgrammed s = .next t ∧ (∀ p, t.ports.slot p = s.ports.slot p) ∧
        SameBlocks { s with archive := t.archive } t ∧
        ProgrammingBegun
          { s.archive with
            op := .idle, lastSequence := s.archive.lastSequence + 1
            pages :=
              setPage s.archive.pages n
                { status := .opened, records := []
                  header :=
                    some
                      { sequence := s.archive.lastSequence + 1, elevation := elev, checkOk := true, closed := false
                        retiredMark := false } } }
          t.archive n q rest) ∧
    (∀ n m, s.archive.op = .erase n → s.archive.openPage = some m → m ≠ n →
      ∀ a, a = { s.archive with op := .idle, pages := setPage s.archive.pages n Page.blank } →
      ∃ t, exec .eraseComplete s = .next t ∧ (∀ p, t.ports.slot p = s.ports.slot p) ∧
        SameBlocks { s with archive := t.archive } t ∧ (s.archive.queue = [] → t.archive = a) ∧
        ∀ q rest, s.archive.queue = q :: rest → ProgrammingBegun a t.archive m q rest) ∧
    (∀ n, s.archive.op = .record n → n < pageCount → ∀ q, s.archive.queue.head? = some q → q.index = some 4294967295 →
      ∃ t, exec .recordProgrammed s = .next t ∧ t.archive.state = .failed .indexEnd ∧ t.archive.queue = [] ∧
        t.archive.waiting = [] ∧ t.archive.op = .idle ∧
        t.archive.pages =
          setPage s.archive.pages n
            { pageAt s.archive.pages n with
              records :=
                (pageAt s.archive.pages n).records ++
                  [{ record := q.record, time := q.time, index := 4294967295, intact := true }] }) ∧
    (∀ n elev, s.archive.op = .header n elev → n < pageCount → s.archive.queue = [] →
      ∃ t, exec .pageHeaderProgrammed s = .next t ∧ (∀ q, t.ports.slot q = s.ports.slot q) ∧
        SameBlocks
          { s with
            archive :=
              { s.archive with
                op := .idle, lastSequence := s.archive.lastSequence + 1
                pages :=
                  setPage s.archive.pages n
                    { status := .opened, records := []
                      header :=
                        some
                          { sequence := s.archive.lastSequence + 1, elevation := elev, checkOk := true, closed := false
                            retiredMark := false } } } } t) ∧
    (∀ n, s.archive.op = .closedMark n → n < pageCount → ∀ p, p = pageAt s.archive.pages n →
      ∃ t, exec .pageHeaderProgrammed s = .next t ∧ (∀ q, t.ports.slot q = s.ports.slot q) ∧
        SameBlocks
          { s with
            archive :=
              { s.archive with
                op := t.archive.op
                pages :=
                  setPage s.archive.pages n
                    { p with status := .full, header := p.header.map (fun h => { h with closed := true }) } } } t ∧
        ∀ k, t.archive.nextInRing n = some k →
          ((pageAt t.archive.pages k).status = .erased → t.archive.op = .header k s.rating.elevation) ∧
          ((pageAt t.archive.pages k).status = .full → t.archive.op = .erase k)) ∧
    (∀ n, s.archive.op = .erase n → n < pageCount → s.archive.openPage = none →
      ∃ t, exec .eraseComplete s = .next t ∧ (∀ q, t.ports.slot q = s.ports.slot q) ∧
        SameBlocks
          { s with
            archive :=
              { s.archive with op := .header n s.rating.elevation, pages := setPage s.archive.pages n Page.blank } } t)

/-- PROGRAM_FAILURE and ERASE_FAILURE retire their page at once and begin its retired mark. The archive state is then taken afresh:
FAILED exactly with fewer than 2 healthy pages, DEGRADED exactly with 2 or more of them and 16 or more RETIRED, NORMAL otherwise;
one that was FAILED stays so. An archive state that stays the same keeps the queues; a change to DEGRADED gives an ARCHIVE notice; a
change to FAILED gives one and drops the queue and the waiting line, each record reported to its producer. When the retired mark is
programmed, or itself fails, the page stays RETIRED and the archive goes on: with the OPEN page where there is one, on which the
queue's head begins programming, else by taking the next page in the ring; not at all when FAILED (R157, R161, R162, R163, R164,
R165). The model's choices in it: log entries 7 (what a failed operation leaves on its page), 8 (the ARCHIVE notice of a change to
FAILED before the GAUGING notice of the record it drops), 17, and 19 (going on with the OPEN page). -/
def Obligations.FailuresRetireTheirPage : Prop :=
  (∀ (s : State) (left : Remnant) (i : Instr) (n : Nat), pagesWf s.archive.pages = true → n < pageCount →
    s.archive.freshState = s.archive.state →
    ((i = .programFailure left ∧ (s.archive.op = .record n ∨ s.archive.op = .closedMark n ∨ ∃ v, s.archive.op = .header n v)) ∨
      (i = .eraseFailure left ∧ s.archive.op = .erase n)) →
    ∃ t, exec i s = .next t ∧ (pageAt t.archive.pages n).status = .retired ∧ t.archive.op = .retiredMark n ∧
      (∀ k, k ≠ n → pageAt t.archive.pages k = pageAt s.archive.pages k) ∧
      t.archive.retired = s.archive.retired + (if (pageAt s.archive.pages n).status = .retired then 0 else 1) ∧
      t.archive.healthy = 256 - t.archive.retired ∧
      (s.archive.state.isFailed = true → t.archive.state = s.archive.state) ∧
      (s.archive.state.isFailed = false →
        (t.archive.state = .failed .pages ↔ t.archive.healthy < 2) ∧
        (t.archive.state = .degraded ↔ 2 ≤ t.archive.healthy ∧ 16 ≤ t.archive.retired) ∧
        (t.archive.state = .normal ↔ 2 ≤ t.archive.healthy ∧ t.archive.retired < 16) ∧
        (t.archive.state.isFailed = true → s.notices.held.length < 16 →
          (s.notices.held.map (fun n => (n.time, n.body)) ++
              [(s.clock.time, .archive (.failed .pages) t.archive.retired t.archive.healthy)]) <+:
            t.notices.held.map (fun n => (n.time, n.body))) ∧
        (t.archive.state.isFailed = true → ∀ q ∈ s.archive.queue ++ s.archive.waiting, ∀ p id, q.owner = .request p id →
          ∀ o, s.ports.slot p = some o → o.id = id → o.answered = false → o.waitGauging = none →
          ∃ o', t.ports.slot p = some o' ∧ { o' with answered := false } = { o with waitRecord := false, dropped := true })) ∧
      (t.archive.state = s.archive.state →
        (∀ q, t.ports.slot q = s.ports.slot q) ∧
          SameBlocks { s with archive := { s.archive with pages := t.archive.pages, op := .retiredMark n } } t) ∧
      (s.archive.state = .normal → t.archive.state = .degraded → s.hasRoom = true →
        (∀ q, t.ports.slot q = s.ports.slot q) ∧ t.archive.retired = 16 ∧
          SameBlocks
            { s.told (.archive .degraded t.archive.retired t.archive.healthy) with
              archive := { s.archive with pages := t.archive.pages, op := .retiredMark n, state := .degraded } } t) ∧
      (s.archive.state.isFailed = false → t.archive.state.isFailed = true →
        t.archive.queue = [] ∧ t.archive.waiting = [])) ∧
  (∀ (s : State) (left : Remnant) (i : Instr) (n : Nat), pagesWf s.archive.pages = true → n < pageCount →
    s.archive.op = .retiredMark n → (pageAt s.archive.pages n).status = .retired →
    (i = .pageHeaderProgrammed ∨ i = .programFailure left) →
    ∃ t, exec i s = .next t ∧ (∀ q, t.ports.slot q = s.ports.slot q) ∧
      SameBlocks { s with archive := t.archive } t ∧
      { t.archive with
        pages := s.archive.pages, op := s.archive.op, queue := s.archive.queue, nextIndex := s.archive.nextIndex } =
        s.archive ∧
      t.archive.queue.map QueuedRecord.content = s.archive.queue.map QueuedRecord.content ∧
      (∀ k, k ≠ n → pageAt t.archive.pages k = pageAt s.archive.pages k) ∧
      pageAt t.archive.pages n =
        (if i = .pageHeaderProgrammed ∨ left = .done then (pageAt s.archive.pages n).markRetired
          else pageAt s.archive.pages n) ∧
      (pageAt t.archive.pages n).status = .retired ∧
      (s.archive.state.isFailed = true → t.archive.op = .idle ∧ t.archive.queue = s.archive.queue) ∧
      (s.archive.state.isFailed = false →
        (s.archive.openPage.isSome = true → s.archive.queue = [] → t.archive.op = .idle) ∧
        (∀ m, s.archive.openPage = some m → ∀ q rest, s.archive.queue = q :: rest →
          ProgrammingBegun { s.archive with op := .idle, pages := t.archive.pages } t.archive m q rest) ∧
        (s.archive.openPage = none → ∀ k, t.archive.nextInRing n = some k →
          t.archive.queue = s.archive.queue ∧
          ((pageAt t.archive.pages k).status = .erased → t.archive.op = .header k s.rating.elevation) ∧
          ((pageAt t.archive.pages k).status = .full → t.archive.op = .erase k))))

/-- SETTINGS_WRITE_COMPLETE puts the item in the storage and clears its defaulted mark, and a request that waited for nothing
else is answered OK, or ARCHIVE_FAILED when it is one of R54, R65 or R81 whose record was dropped; READ_BACK_FAILED programs it
again, and at the eighth failure leaves the item failing its check and answers STORE_FAILED (R54, R65, R81, R165, R178, R194,
R195). The model's choices in it: log entries 15 (the payloads of these answers) and 34 (an item whose write failed fails its
check). -/
def Obligations.SettingsWritesEnd : Prop :=
  ∀ s : State, ∀ w, s.store.queue.head? = some w → ∀ rest, rest = s.store.queue.drop 1 →
    (∃ t, exec .settingsWriteComplete s = .next t ∧ (∀ q, q ≠ w.port → t.ports.slot q = s.ports.slot q) ∧
      SameBlocks
        { s with
          store :=
            { medium := s.store.medium.put w.data true, queue := rest
              defaulted := s.store.defaulted.filter (fun i => i ≠ w.data.item) } } t ∧
      ∀ o, s.ports.slot w.port = some o → o.id = w.request → o.answered = false → o.waitRecord = false → o.waitGauging = none →
        o.waitVerify = false → o.unfinished = false →
        Answered t w.port o.code.toNat o.tag (if o.dropped && o.strict then .archiveFailed else .ok) o.payload) ∧
    (w.failures + 1 < 8 →
      ∃ t, exec .readBackFailed s = .next t ∧ (∀ q, t.ports.slot q = s.ports.slot q) ∧
        SameBlocks { s with store := { s.store with queue := { w with failures := w.failures + 1 } :: rest } } t) ∧
    (8 ≤ w.failures + 1 →
      ∃ t, exec .readBackFailed s = .next t ∧ (∀ q, q ≠ w.port → t.ports.slot q = s.ports.slot q) ∧
        SameBlocks { s with store := { s.store with medium := s.store.medium.put w.data false, queue := rest } } t ∧
        ∀ o, s.ports.slot w.port = some o → o.id = w.request → o.answered = false → o.waitRecord = false →
          o.waitGauging = none → o.waitVerify = false →
          Answered t w.port o.code.toNat o.tag .storeFailed .empty)

/-! ### Reset -/

/-- POWER_ON and PIN_RESET leave every volatile item at its reset value and the settings at what the storage holds; they
differ in the clock alone (R9, R31, R102, R129, R192, R195, R196); the defaulted marks are those of the items that fail their
check (R195), and the last assigned id is that of the passing slot written last (R57). The archive, the observation floor and the
next numbers are those the start-up scan finds, and POWER_ON takes its time from the scan (R14, R28, R31, R144, R173, R174). What
the scan finds: the state of each page from its header, the first operation after start-up, the records held from the pages that
pass, the next index, and the newest time and numbers (R172, R173). The hold-at-start line decides the hold (R39). The model's
choices in it: log entries 5, 7, 19 (pages of equal sequence numbers, the page whose erase was cut off, and the first operation),
27 (the request numbers), 30, 37 (the numbers dropped) and 38 (no last start). -/
def Obligations.ResetsLeaveTheResetValues : Prop :=
  (∀ (found : List (Nat × Page)), pagesWf found = true → ∀ x, x = scan found →
    (∀ n p, (n, p) ∈ found → ∀ h, p.header = some h →
      ∃ st, (n, { p with status := st }) ∈ x.archive.pages ∧
        (h.retiredMark = true → st = .retired) ∧
        (h.retiredMark = false → h.checkOk = true → h.closed = true → st = .full) ∧
        (h.retiredMark = false → h.checkOk = true → h.closed = false →
          (newestPage found = some (n, p) → st = .opened) ∧ (newestPage found ≠ some (n, p) → st = .full)) ∧
        (h.retiredMark = false → h.checkOk = false →
          ((newestPage found).bind (fun e => eraseCutOff found e.1) = some n → st = .full) ∧
          ((newestPage found).bind (fun e => eraseCutOff found e.1) ≠ some n → st = .retired))) ∧
    (∀ n p, (n, p) ∈ found → p.header = none → (pageAt x.archive.pages n).status = .erased) ∧
    (newestPage found = none ↔ ∀ n p, (n, p) ∈ found → p.passing = false) ∧
    (newestPage found = none →
      (∀ n, n < 256 → (pageAt x.archive.pages n).status = .erased →
        (∀ k, k < n → (pageAt x.archive.pages k).status ≠ .erased) → x.archive.firstOp = .openFirst n) ∧
      ((∀ n, n < 256 → (pageAt x.archive.pages n).status ≠ .erased) → x.archive.firstOp = .nothing)) ∧
    (∀ n p, newestPage found = some (n, p) → ∀ h, p.header = some h →
      ∀ cut, cut = decide ((p.records.takeWhile (·.intact)).length < p.records.length) →
      (h.closed = true → x.archive.firstOp = .takeNext n) ∧
      (h.closed = false → cut = true → x.archive.firstOp = .close n) ∧
      (h.closed = false → cut = false →
        x.archive.firstOp = (match eraseCutOff found n with | some k => .eraseAgain k | none => .nothing))) ∧
    (∀ n p, newestPage found = some (n, p) →
      (n, p) ∈ found ∧ p.passing = true ∧ ∀ m q, (m, q) ∈ found → q.passing = true → q.sequence ≤ p.sequence) ∧
    ∀ l : List StoredRecord, l = (heldPages x.archive.pages).flatMap (fun e => e.2.records.takeWhile (·.intact)) →
      (l = [] →
        x.archive.nextIndex = 0 ∧ x.newestTime = none ∧ x.floor = 0 ∧ x.observation = none ∧ x.gauging = none) ∧
      (∀ r, l.getLast? = some r →
        x.newestTime = some r.time ∧
        (∀ n p, newestPage found = some (n, p) →
          x.archive.nextIndex =
            r.index + (if (p.records.takeWhile (·.intact)).length < p.records.length then 2 else 1)) ∧
        (4294967295 < x.archive.nextIndex → x.archive.state = .failed .indexEnd)) ∧
      (∀ r ∈ l, r.record.isObsOrGap = true → r.time ≤ x.floor) ∧
      (x.floor ≠ 0 → ∃ r ∈ l, r.record.isObsOrGap = true ∧ r.time = x.floor) ∧
      x.observation =
        (l.filterMap (fun r =>
          match r.record with
          | .obs o => some o.number
          | .gap g => if 0 < g.obsCount then some g.last else none
          | _ => none)).getLast? ∧
      x.gauging = (l.filterMap (fun r => match r.record with | .gauging g => some g.id | _ => none)).getLast?) ∧
  ∀ (s : State) (r : ResetInputs),
    ∃ t, exec (.powerOn r) s = .next t ∧ ∃ u, exec (.pinReset r) s = .next u ∧
      (∀ x, x = scan (damagePages r.damagedHeaders r.damagedRecords (s.archive.cut r.archiveOp)) →
        t.archive = { x.archive with queue := t.archive.queue } ∧ t.clock.floor = x.floor ∧
        t.clock.time = (match x.newestTime with | none => 0 | some v => min 4294967295 (v + 1)) ∧
        t.lau.nextObs = (match x.observation with | none => 1 | some n => (n + 1) % 4294967296) ∧
        t.gauging.nextId = (match x.gauging with | none => 1 | some n => if n < 65535 then n + 1 else 1)) ∧
      u =
        { t with
          clock := { u.clock with floor := t.clock.floor }, notices := u.notices, archive := { t.archive with queue := u.archive.queue }
          ports := u.ports } ∧
      t.clock.quality = .uncertain ∧ t.clock.phase = 0 ∧ u.clock.time = s.clock.time ∧ u.clock.quality = s.clock.quality ∧
      u.clock.phase = s.clock.phase - s.elapsed ∧
      t.elapsed = 0 ∧ t.startingUp = true ∧ t.pending = s.pending ∧
      t.lau.acq = none ∧ t.lau.startOwed = false ∧ t.lau.lastStart = none ∧ t.lau.series = [] ∧
      t.lau.disagree = ⟨false, 0, 0⟩ ∧ t.lau.excitation = ⟨false, false, false⟩ ∧ t.rating.frozen = false ∧
      t.warning.level = .clear ∧ t.warning.live = Eight.all ⟨false, 0⟩ ∧ t.warning.owed = false ∧ t.warning.firstTime = none ∧
      t.warning.deadline = .stopped ∧ t.warning.silent = false ∧ t.warning.relay = false ∧
      t.warning.silenceTimer = some (100 * t.warning.timers.silence) ∧
      t.cable =
        { settings := t.cable.settings, state := .idle, holder := none, plan := none, run := none, endCause := none
          latestHold := none, remembered := none, window := none, motionTimer := none, exposureTimer := none
          pauseTimer := none, available := decide (t.cable.settings.span ≠ 0), drive := .off, target := none
          lines := s.cable.lines } ∧
      t.gauging =
        { run := none, exposure := none, kept := [], result := .none, computing := none, list := []
          nextId := t.gauging.nextId } ∧
      t.archive.op = .idle ∧ t.archive.waiting = [] ∧ t.archive.obsDropped = 0 ∧ t.archive.othersDropped = 0 ∧
      t.archive.verifications = ⟨none, none, none⟩ ∧ t.store.queue = [] ∧
      (∀ v, v = t ∨ v = u →
        v.ports.l = PortL.reset ∧ v.ports.f = PortAsync.reset ∧
          v.ports.t = { PortAsync.reset with sending := v.ports.t.sending } ∧
          (∀ q, v.ports.slot q = none) ∧ v.ports.nextId = 0 ∧ v.notices.overflowed = false ∧
        (r.holdLine = false → v.ports.t.sending = none ∧ v.notices.held = [] ∧ v.archive.queue = []) ∧
        (r.holdLine = true →
          ∀ b : HoldBody,
            b = { entered := true, cause := .startLine, limit := some t.lau.hold.limit, count := none, last := none } →
            v.ports.t.sending =
                some (.notice { time := v.clock.time, body := .hold b, overflowed := false, lossSince := false }) ∧
              v.notices.held = [{ time := v.clock.time, body := .hold b, inTransmission := true }] ∧
              v.archive.queue =
                (if v.archive.state.isFailed then []
                  else [{ record := .hold b, time := v.clock.time, owner := .nobody, index := none }]))) ∧
      (r.holdLine = false →
        t.lau.hold = { state := .none, timer := none, manual := none, count := 0, limit := t.lau.hold.limit }) ∧
      (r.holdLine = true →
        t.lau.hold =
          { state := .held, timer := some (100 * t.lau.hold.limit), manual := none, count := 0
            limit := t.lau.hold.limit }) ∧
      (∀ c : Channel,
        t.lau.status.get c =
          if (t.lau.channels.get c).enabled then some { fault := false, invalidRun := 0, validRun := 0 } else none) ∧
      (r.damagedItems = [] →
        (s.store.queue = [] → t.store.medium = s.store.medium) ∧
        ∀ w rest, s.store.queue = w :: rest →
          t.store.medium =
            match r.settingsWrite with
            | .former => s.store.medium
            | .done => s.store.medium.put w.data true
            | .bad => s.store.medium.put w.data false) ∧
      (∀ m, m = t.store.medium →
        (∀ d, d = t.store.defaulted →
          (∀ c : Channel, .channel c ∈ d ↔ (m.channels.get c).ok = false) ∧ (.acquisition ∈ d ↔ m.acquisition.ok = false) ∧
            (.holdLimit ∈ d ↔ m.holdLimit.ok = false) ∧
            (∀ n : Fin 8, .threshold n ∈ d ↔ (m.thresholds.get n).ok = false) ∧ (.warning ∈ d ↔ m.warning.ok = false) ∧
            (.cableway ∈ d ↔ m.cableway.ok = false) ∧ (∀ n : Fin 4, .slot n ∈ d ↔ (m.slots.get n).ok = false) ∧
            (.shifts ∈ d ↔ m.shifts.ok = false) ∧ (.datum ∈ d ↔ m.datum.ok = false ∧ m.cell = none)) ∧
        (∀ n : Fin 4, (m.slots.get n).ok = true → 0 < (m.slots.get n).value.writeNumber →
          (∀ k : Fin 4, k ≠ n → (m.slots.get k).ok = true →
            (m.slots.get k).value.writeNumber < (m.slots.get n).value.writeNumber) →
          t.rating.lastId = (m.slots.get n).value.lastId) ∧
        ((∀ n : Fin 4, (m.slots.get n).ok = true → (m.slots.get n).value.writeNumber = 0) → t.rating.lastId = 0) ∧
        (∀ n : Fin 4, (m.slots.get n).ok = true → t.rating.slots.get n = (m.slots.get n).value) ∧
        (∀ c : Channel,
          t.lau.channels.get c =
            if (m.channels.get c).ok then (m.channels.get c).value else Factory.channels.get c) ∧
        t.lau.settings = (if m.acquisition.ok then m.acquisition.value else ⟨2, 7, 900, 50, 900, 300, 60, 15⟩) ∧
        t.lau.hold.limit = (if m.holdLimit.ok then m.holdLimit.value else 1800) ∧
        (∀ n : Fin 8,
          t.warning.settings.get n = if (m.thresholds.get n).ok then (m.thresholds.get n).value else Factory.threshold) ∧
        t.warning.timers = (if m.warning.ok then m.warning.value else ⟨600, 3600⟩) ∧
        t.cable.settings =
          (if m.cableway.ok then m.cableway.value else ⟨0, -2000, -2000, 50, 750, 5, 300, 60, 30⟩) ∧
        (∀ n : Fin 4,
          (t.rating.slots.get n).version = if (m.slots.get n).ok then (m.slots.get n).value.version else none) ∧
        t.rating.shifts = (if m.shifts.ok then m.shifts.value else []) ∧ t.rating.fixed = m.cell.isSome ∧
        (∀ e, m.cell = some e → t.rating.elevation = e) ∧
        (m.cell = none → t.rating.elevation = if m.datum.ok then m.datum.value else 0))
end

