-- ==== Sys2Proof/Laws/Banks.lean ====
section
/-! SUPPORT. Reading a bank after a write, and a port's slot after a change of the ports. -/

namespace Sys2Proof.Machine

@[simp] theorem PerChannel.get_set {α : Type} (b : PerChannel α) (c d : Channel) (a : α) :
    (b.set c a).get d = if d = c then a else b.get d := by
  cases c <;> cases d <;> rfl

@[simp] theorem PerChannel.get_map {α β : Type} (f : α → β) (b : PerChannel α) (c : Channel) :
    (b.map f).get c = f (b.get c) := by
  cases c <;> rfl

@[simp] theorem Four.get_set {α : Type} (b : Four α) (m n : Fin 4) (a : α) :
    (b.set m a).get n = if n = m then a else b.get n := by
  match m, n with
  | 0, 0 => rfl | 0, 1 => rfl | 0, 2 => rfl | 0, 3 => rfl
  | 1, 0 => rfl | 1, 1 => rfl | 1, 2 => rfl | 1, 3 => rfl
  | 2, 0 => rfl | 2, 1 => rfl | 2, 2 => rfl | 2, 3 => rfl
  | 3, 0 => rfl | 3, 1 => rfl | 3, 2 => rfl | 3, 3 => rfl

theorem Eight.get_set_same {α : Type} (b : Eight α) (n : Fin 8) (a : α) : (b.set n a).get n = a := by
  match n with
  | 0 => rfl | 1 => rfl | 2 => rfl | 3 => rfl | 4 => rfl | 5 => rfl | 6 => rfl | 7 => rfl

theorem Eight.get_set_other {α : Type} (b : Eight α) (m n : Fin 8) (a : α) (h : n ≠ m) : (b.set m a).get n = b.get n := by
  match m, n with
  | 0, 0 | 1, 1 | 2, 2 | 3, 3 | 4, 4 | 5, 5 | 6, 6 | 7, 7 => exact absurd rfl h
  | 0, 1 | 0, 2 | 0, 3 | 0, 4 | 0, 5 | 0, 6 | 0, 7 => rfl
  | 1, 0 | 1, 2 | 1, 3 | 1, 4 | 1, 5 | 1, 6 | 1, 7 => rfl
  | 2, 0 | 2, 1 | 2, 3 | 2, 4 | 2, 5 | 2, 6 | 2, 7 => rfl
  | 3, 0 | 3, 1 | 3, 2 | 3, 4 | 3, 5 | 3, 6 | 3, 7 => rfl
  | 4, 0 | 4, 1 | 4, 2 | 4, 3 | 4, 5 | 4, 6 | 4, 7 => rfl
  | 5, 0 | 5, 1 | 5, 2 | 5, 3 | 5, 4 | 5, 6 | 5, 7 => rfl
  | 6, 0 | 6, 1 | 6, 2 | 6, 3 | 6, 4 | 6, 5 | 6, 7 => rfl
  | 7, 0 | 7, 1 | 7, 2 | 7, 3 | 7, 4 | 7, 5 | 7, 6 => rfl

@[simp] theorem PerPort.get_set {α : Type} (b : PerPort α) (p q : Port) (a : α) :
    (b.set p a).get q = if q = p then a else b.get q := by
  cases p <;> cases q <;> rfl

@[simp] theorem Ports.slot_setSlot (ps : Ports) (p q : Port) (o : Option Owed) :
    (ps.setSlot p o).slot q = if q = p then o else ps.slot q := by
  cases p <;> cases q <;> rfl

@[simp] theorem Ports.slot_setAsync (ps : Ports) (p : AsyncPort) (a : PortAsync) (q : Port) :
    (ps.setAsync p a).slot q = if q = p.port then a.slot else ps.slot q := by
  cases p <;> cases q <;> rfl

@[simp] theorem Ports.async_setAsync (ps : Ports) (p q : AsyncPort) (a : PortAsync) :
    (ps.setAsync p a).async q = if q = p then a else ps.async q := by
  cases p <;> cases q <;> rfl

/-- An answer reaches only the slot of its own port. -/
theorem Ports.slot_answer_other (ps : Ports) (p q : Port) (r : Result) (a : Payload) (h : q ≠ p) :
    (ps.answer p r a).slot q = ps.slot q := by
  unfold Ports.answer
  cases hs : ps.slot p with
  | none => rfl
  | some o =>
    simp only
    split
    · rfl
    · cases p <;> cases q <;> first | exact absurd rfl h | rfl

/-- The answer to an unanswered request marks its slot answered. -/
theorem Ports.slot_answer_same (ps : Ports) (p : Port) (r : Result) (a : Payload) (o : Owed) (h : ps.slot p = some o)
    (hn : o.answered = false) : (ps.answer p r a).slot p = some { o with answered := true } := by
  unfold Ports.answer
  rw [h]
  simp only [hn]
  cases p <;> rfl

/-- The answer to an unanswered request on Port L is the response the next frames carry. -/
theorem Ports.answer_l (ps : Ports) (r : Result) (a : Payload) (o : Owed) (h : ps.l.slot = some o) (hn : o.answered = false) :
    (ps.answer .L r a).l.answer =
      some { code := o.code, tag := o.tag, result := r, payload := a, answers := true } := by
  unfold Ports.answer
  have : ps.slot .L = some o := h
  rw [this]
  simp only [hn]
  rfl

/-- The answer to an unanswered request on Port T joins the responses ready to send. -/
theorem Ports.answer_t (ps : Ports) (r : Result) (a : Payload) (o : Owed) (h : ps.t.slot = some o) (hn : o.answered = false) :
    (ps.answer .T r a).t.ready =
      ps.t.ready ++ [{ code := o.code, tag := o.tag, result := r, payload := a, answers := true }] := by
  unfold Ports.answer
  have : ps.slot .T = some o := h
  rw [this]
  simp only [hn]
  rfl

/-- The answer to an unanswered request on Port F joins the responses ready to send. -/
theorem Ports.answer_f (ps : Ports) (r : Result) (a : Payload) (o : Owed) (h : ps.f.slot = some o) (hn : o.answered = false) :
    (ps.answer .F r a).f.ready =
      ps.f.ready ++ [{ code := o.code, tag := o.tag, result := r, payload := a, answers := true }] := by
  unfold Ports.answer
  have : ps.slot .F = some o := h
  rw [this]
  simp only [hn]
  rfl

end Sys2Proof.Machine
end

