-- ==== Sys2Proof/Laws/State.lean ====
section
/-! SUPPORT. One lemma for each field of the state after each named update: what the update leaves, and what it puts there.
Every lemma holds by rfl. -/

namespace Sys2Proof.Machine

/-! ### State.sample -/

@[simp] theorem State.sample_elapsed (s : State) (x : Encoders) : (s.sample x).elapsed = s.elapsed := rfl
@[simp] theorem State.sample_startingUp (s : State) (x : Encoders) : (s.sample x).startingUp = s.startingUp := rfl
@[simp] theorem State.sample_clock (s : State) (x : Encoders) : (s.sample x).clock = s.clock := rfl
@[simp] theorem State.sample_lau (s : State) (x : Encoders) : (s.sample x).lau = s.lau := rfl
@[simp] theorem State.sample_rating (s : State) (x : Encoders) : (s.sample x).rating = s.rating := rfl
@[simp] theorem State.sample_warning (s : State) (x : Encoders) : (s.sample x).warning = s.warning := rfl
@[simp] theorem State.sample_cable (s : State) (x : Encoders) : (s.sample x).cable = { s.cable with lines := x } := rfl
@[simp] theorem State.sample_gauging (s : State) (x : Encoders) : (s.sample x).gauging = s.gauging := rfl
@[simp] theorem State.sample_notices (s : State) (x : Encoders) : (s.sample x).notices = s.notices := rfl
@[simp] theorem State.sample_archive (s : State) (x : Encoders) : (s.sample x).archive = s.archive := rfl
@[simp] theorem State.sample_store (s : State) (x : Encoders) : (s.sample x).store = s.store := rfl
@[simp] theorem State.sample_ports (s : State) (x : Encoders) : (s.sample x).ports = s.ports := rfl
@[simp] theorem State.sample_pending (s : State) (x : Encoders) : (s.sample x).pending = s.pending := rfl

/-! ### State.advanceTo -/

@[simp] theorem State.advanceTo_elapsed (s : State) (t : Nat) : (s.advanceTo t).elapsed = max s.elapsed t := rfl
@[simp] theorem State.advanceTo_startingUp (s : State) (t : Nat) : (s.advanceTo t).startingUp = s.startingUp := rfl
@[simp] theorem State.advanceTo_clock (s : State) (t : Nat) : (s.advanceTo t).clock = s.clock := rfl
@[simp] theorem State.advanceTo_lau (s : State) (t : Nat) : (s.advanceTo t).lau = s.lau := rfl
@[simp] theorem State.advanceTo_rating (s : State) (t : Nat) : (s.advanceTo t).rating = s.rating := rfl
@[simp] theorem State.advanceTo_warning (s : State) (t : Nat) : (s.advanceTo t).warning = s.warning := rfl
@[simp] theorem State.advanceTo_cable (s : State) (t : Nat) : (s.advanceTo t).cable = s.cable := rfl
@[simp] theorem State.advanceTo_gauging (s : State) (t : Nat) : (s.advanceTo t).gauging = s.gauging := rfl
@[simp] theorem State.advanceTo_notices (s : State) (t : Nat) : (s.advanceTo t).notices = s.notices := rfl
@[simp] theorem State.advanceTo_archive (s : State) (t : Nat) : (s.advanceTo t).archive = s.archive := rfl
@[simp] theorem State.advanceTo_store (s : State) (t : Nat) : (s.advanceTo t).store = s.store := rfl
@[simp] theorem State.advanceTo_ports (s : State) (t : Nat) : (s.advanceTo t).ports = s.ports := rfl
@[simp] theorem State.advanceTo_pending (s : State) (t : Nat) : (s.advanceTo t).pending = s.pending := rfl

/-! ### State.answer -/

@[simp] theorem State.answer_elapsed (s : State) (p : Port) (r : Result) (a : Payload) : (s.answer p r a).elapsed = s.elapsed := rfl
@[simp] theorem State.answer_startingUp (s : State) (p : Port) (r : Result) (a : Payload) : (s.answer p r a).startingUp = s.startingUp := rfl
@[simp] theorem State.answer_clock (s : State) (p : Port) (r : Result) (a : Payload) : (s.answer p r a).clock = s.clock := rfl
@[simp] theorem State.answer_lau (s : State) (p : Port) (r : Result) (a : Payload) : (s.answer p r a).lau = s.lau := rfl
@[simp] theorem State.answer_rating (s : State) (p : Port) (r : Result) (a : Payload) : (s.answer p r a).rating = s.rating := rfl
@[simp] theorem State.answer_warning (s : State) (p : Port) (r : Result) (a : Payload) : (s.answer p r a).warning = s.warning := rfl
@[simp] theorem State.answer_cable (s : State) (p : Port) (r : Result) (a : Payload) : (s.answer p r a).cable = s.cable := rfl
@[simp] theorem State.answer_gauging (s : State) (p : Port) (r : Result) (a : Payload) : (s.answer p r a).gauging = s.gauging := rfl
@[simp] theorem State.answer_notices (s : State) (p : Port) (r : Result) (a : Payload) : (s.answer p r a).notices = s.notices := rfl
@[simp] theorem State.answer_archive (s : State) (p : Port) (r : Result) (a : Payload) : (s.answer p r a).archive = s.archive := rfl
@[simp] theorem State.answer_store (s : State) (p : Port) (r : Result) (a : Payload) : (s.answer p r a).store = s.store := rfl
@[simp] theorem State.answer_ports (s : State) (p : Port) (r : Result) (a : Payload) : (s.answer p r a).ports = s.ports.answer p r a := rfl
@[simp] theorem State.answer_pending (s : State) (p : Port) (r : Result) (a : Payload) : (s.answer p r a).pending = s.pending := rfl

/-! ### State.reply -/

@[simp] theorem State.reply_elapsed (s : State) (p : Port) (r : Result) : (s.reply p r).elapsed = s.elapsed := rfl
@[simp] theorem State.reply_startingUp (s : State) (p : Port) (r : Result) : (s.reply p r).startingUp = s.startingUp := rfl
@[simp] theorem State.reply_clock (s : State) (p : Port) (r : Result) : (s.reply p r).clock = s.clock := rfl
@[simp] theorem State.reply_lau (s : State) (p : Port) (r : Result) : (s.reply p r).lau = s.lau := rfl
@[simp] theorem State.reply_rating (s : State) (p : Port) (r : Result) : (s.reply p r).rating = s.rating := rfl
@[simp] theorem State.reply_warning (s : State) (p : Port) (r : Result) : (s.reply p r).warning = s.warning := rfl
@[simp] theorem State.reply_cable (s : State) (p : Port) (r : Result) : (s.reply p r).cable = s.cable := rfl
@[simp] theorem State.reply_gauging (s : State) (p : Port) (r : Result) : (s.reply p r).gauging = s.gauging := rfl
@[simp] theorem State.reply_notices (s : State) (p : Port) (r : Result) : (s.reply p r).notices = s.notices := rfl
@[simp] theorem State.reply_archive (s : State) (p : Port) (r : Result) : (s.reply p r).archive = s.archive := rfl
@[simp] theorem State.reply_store (s : State) (p : Port) (r : Result) : (s.reply p r).store = s.store := rfl
@[simp] theorem State.reply_ports (s : State) (p : Port) (r : Result) : (s.reply p r).ports = s.ports.answer p r .empty := rfl
@[simp] theorem State.reply_pending (s : State) (p : Port) (r : Result) : (s.reply p r).pending = s.pending := rfl

/-! ### State.withWake -/

@[simp] theorem State.withWake_elapsed (s : State) (w : Wake) : (s.withWake w).elapsed = s.elapsed := rfl
@[simp] theorem State.withWake_startingUp (s : State) (w : Wake) : (s.withWake w).startingUp = s.startingUp := rfl
@[simp] theorem State.withWake_clock (s : State) (w : Wake) : (s.withWake w).clock = s.clock := rfl
@[simp] theorem State.withWake_lau (s : State) (w : Wake) : (s.withWake w).lau = s.lau := rfl
@[simp] theorem State.withWake_rating (s : State) (w : Wake) : (s.withWake w).rating = s.rating := rfl
@[simp] theorem State.withWake_warning (s : State) (w : Wake) : (s.withWake w).warning = s.warning := rfl
@[simp] theorem State.withWake_cable (s : State) (w : Wake) : (s.withWake w).cable = s.cable := rfl
@[simp] theorem State.withWake_gauging (s : State) (w : Wake) : (s.withWake w).gauging = w.gauging := rfl
@[simp] theorem State.withWake_notices (s : State) (w : Wake) : (s.withWake w).notices = w.notices := rfl
@[simp] theorem State.withWake_archive (s : State) (w : Wake) : (s.withWake w).archive = w.archive := rfl
@[simp] theorem State.withWake_store (s : State) (w : Wake) : (s.withWake w).store = s.store := rfl
@[simp] theorem State.withWake_ports (s : State) (w : Wake) : (s.withWake w).ports = w.ports := rfl
@[simp] theorem State.withWake_pending (s : State) (w : Wake) : (s.withWake w).pending = s.pending := rfl

/-! ### State.notice -/

@[simp] theorem State.notice_elapsed (s : State) (b : NoticeBody) : (s.notice b).elapsed = s.elapsed := rfl
@[simp] theorem State.notice_startingUp (s : State) (b : NoticeBody) : (s.notice b).startingUp = s.startingUp := rfl
@[simp] theorem State.notice_clock (s : State) (b : NoticeBody) : (s.notice b).clock = s.clock := rfl
@[simp] theorem State.notice_lau (s : State) (b : NoticeBody) : (s.notice b).lau = s.lau := rfl
@[simp] theorem State.notice_rating (s : State) (b : NoticeBody) : (s.notice b).rating = s.rating := rfl
@[simp] theorem State.notice_warning (s : State) (b : NoticeBody) : (s.notice b).warning = s.warning := rfl
@[simp] theorem State.notice_cable (s : State) (b : NoticeBody) : (s.notice b).cable = s.cable := rfl
@[simp] theorem State.notice_gauging (s : State) (b : NoticeBody) : (s.notice b).gauging = s.gauging := rfl
@[simp] theorem State.notice_notices (s : State) (b : NoticeBody) : (s.notice b).notices = (s.notices.hand s.clock.time b).1 := rfl
@[simp] theorem State.notice_archive (s : State) (b : NoticeBody) : (s.notice b).archive = s.archive := rfl
@[simp] theorem State.notice_store (s : State) (b : NoticeBody) : (s.notice b).store = s.store := rfl
@[simp] theorem State.notice_pending (s : State) (b : NoticeBody) : (s.notice b).pending = s.pending := rfl

/-! ### State.hand -/

@[simp] theorem State.hand_elapsed (s : State) (r : Record) (o : Owner) : (s.hand r o).elapsed = s.elapsed := rfl
@[simp] theorem State.hand_startingUp (s : State) (r : Record) (o : Owner) : (s.hand r o).startingUp = s.startingUp := rfl
@[simp] theorem State.hand_clock (s : State) (r : Record) (o : Owner) : (s.hand r o).clock = s.clock := rfl
@[simp] theorem State.hand_lau (s : State) (r : Record) (o : Owner) : (s.hand r o).lau = s.lau := rfl
@[simp] theorem State.hand_rating (s : State) (r : Record) (o : Owner) : (s.hand r o).rating = s.rating := rfl
@[simp] theorem State.hand_warning (s : State) (r : Record) (o : Owner) : (s.hand r o).warning = s.warning := rfl
@[simp] theorem State.hand_cable (s : State) (r : Record) (o : Owner) : (s.hand r o).cable = s.cable := rfl
@[simp] theorem State.hand_gauging (s : State) (r : Record) (o : Owner) : (s.hand r o).gauging = (s.wake.hand r s.clock.time o).gauging := rfl
@[simp] theorem State.hand_notices (s : State) (r : Record) (o : Owner) : (s.hand r o).notices = (s.wake.hand r s.clock.time o).notices := rfl
@[simp] theorem State.hand_archive (s : State) (r : Record) (o : Owner) : (s.hand r o).archive = (s.wake.hand r s.clock.time o).archive := rfl
@[simp] theorem State.hand_store (s : State) (r : Record) (o : Owner) : (s.hand r o).store = s.store := rfl
@[simp] theorem State.hand_ports (s : State) (r : Record) (o : Owner) : (s.hand r o).ports = (s.wake.hand r s.clock.time o).ports := rfl
@[simp] theorem State.hand_pending (s : State) (r : Record) (o : Owner) : (s.hand r o).pending = s.pending := rfl

/-! ### State.defer -/

@[simp] theorem State.defer_elapsed (s : State) (p : Port) (w r k : Bool) (a : Payload) : (s.defer p w r k a).elapsed = s.elapsed := rfl
@[simp] theorem State.defer_startingUp (s : State) (p : Port) (w r k : Bool) (a : Payload) : (s.defer p w r k a).startingUp = s.startingUp := rfl
@[simp] theorem State.defer_clock (s : State) (p : Port) (w r k : Bool) (a : Payload) : (s.defer p w r k a).clock = s.clock := rfl
@[simp] theorem State.defer_lau (s : State) (p : Port) (w r k : Bool) (a : Payload) : (s.defer p w r k a).lau = s.lau := rfl
@[simp] theorem State.defer_rating (s : State) (p : Port) (w r k : Bool) (a : Payload) : (s.defer p w r k a).rating = s.rating := rfl
@[simp] theorem State.defer_warning (s : State) (p : Port) (w r k : Bool) (a : Payload) : (s.defer p w r k a).warning = s.warning := rfl
@[simp] theorem State.defer_cable (s : State) (p : Port) (w r k : Bool) (a : Payload) : (s.defer p w r k a).cable = s.cable := rfl
@[simp] theorem State.defer_gauging (s : State) (p : Port) (w r k : Bool) (a : Payload) : (s.defer p w r k a).gauging = s.gauging := rfl
@[simp] theorem State.defer_notices (s : State) (p : Port) (w r k : Bool) (a : Payload) : (s.defer p w r k a).notices = s.notices := rfl
@[simp] theorem State.defer_archive (s : State) (p : Port) (w r k : Bool) (a : Payload) : (s.defer p w r k a).archive = s.archive := rfl
@[simp] theorem State.defer_store (s : State) (p : Port) (w r k : Bool) (a : Payload) : (s.defer p w r k a).store = s.store := rfl
@[simp] theorem State.defer_pending (s : State) (p : Port) (w r k : Bool) (a : Payload) : (s.defer p w r k a).pending = s.pending := rfl

/-! ### State.write -/

@[simp] theorem State.write_elapsed (s : State) (p : Port) (d : WriteData) : (s.write p d).elapsed = s.elapsed := rfl
@[simp] theorem State.write_startingUp (s : State) (p : Port) (d : WriteData) : (s.write p d).startingUp = s.startingUp := rfl
@[simp] theorem State.write_clock (s : State) (p : Port) (d : WriteData) : (s.write p d).clock = s.clock := rfl
@[simp] theorem State.write_lau (s : State) (p : Port) (d : WriteData) : (s.write p d).lau = s.lau := rfl
@[simp] theorem State.write_rating (s : State) (p : Port) (d : WriteData) : (s.write p d).rating = s.rating := rfl
@[simp] theorem State.write_warning (s : State) (p : Port) (d : WriteData) : (s.write p d).warning = s.warning := rfl
@[simp] theorem State.write_cable (s : State) (p : Port) (d : WriteData) : (s.write p d).cable = s.cable := rfl
@[simp] theorem State.write_gauging (s : State) (p : Port) (d : WriteData) : (s.write p d).gauging = s.gauging := rfl
@[simp] theorem State.write_notices (s : State) (p : Port) (d : WriteData) : (s.write p d).notices = s.notices := rfl
@[simp] theorem State.write_archive (s : State) (p : Port) (d : WriteData) : (s.write p d).archive = s.archive := rfl
@[simp] theorem State.write_store (s : State) (p : Port) (d : WriteData) : (s.write p d).store = { s.store with queue := s.store.queue ++ [{ data := d, port := p, request := s.ports.owedId p, failures := 0 }] } := rfl
@[simp] theorem State.write_ports (s : State) (p : Port) (d : WriteData) : (s.write p d).ports = s.ports := rfl
@[simp] theorem State.write_pending (s : State) (p : Port) (d : WriteData) : (s.write p d).pending = s.pending := rfl

/-! ### State.writeThrough -/

@[simp] theorem State.writeThrough_elapsed (s : State) (p : Port) (d : WriteData) : (s.writeThrough p d).elapsed = s.elapsed := rfl
@[simp] theorem State.writeThrough_startingUp (s : State) (p : Port) (d : WriteData) : (s.writeThrough p d).startingUp = s.startingUp := rfl
@[simp] theorem State.writeThrough_clock (s : State) (p : Port) (d : WriteData) : (s.writeThrough p d).clock = s.clock := rfl
@[simp] theorem State.writeThrough_lau (s : State) (p : Port) (d : WriteData) : (s.writeThrough p d).lau = s.lau := rfl
@[simp] theorem State.writeThrough_rating (s : State) (p : Port) (d : WriteData) : (s.writeThrough p d).rating = s.rating := rfl
@[simp] theorem State.writeThrough_warning (s : State) (p : Port) (d : WriteData) : (s.writeThrough p d).warning = s.warning := rfl
@[simp] theorem State.writeThrough_cable (s : State) (p : Port) (d : WriteData) : (s.writeThrough p d).cable = s.cable := rfl
@[simp] theorem State.writeThrough_gauging (s : State) (p : Port) (d : WriteData) : (s.writeThrough p d).gauging = s.gauging := rfl
@[simp] theorem State.writeThrough_notices (s : State) (p : Port) (d : WriteData) : (s.writeThrough p d).notices = s.notices := rfl
@[simp] theorem State.writeThrough_archive (s : State) (p : Port) (d : WriteData) : (s.writeThrough p d).archive = s.archive := rfl
@[simp] theorem State.writeThrough_pending (s : State) (p : Port) (d : WriteData) : (s.writeThrough p d).pending = s.pending := rfl

/-! ### State.withCable -/

@[simp] theorem State.withCable_elapsed (s : State) (c : Cableway) : (s.withCable c).elapsed = s.elapsed := rfl
@[simp] theorem State.withCable_startingUp (s : State) (c : Cableway) : (s.withCable c).startingUp = s.startingUp := rfl
@[simp] theorem State.withCable_clock (s : State) (c : Cableway) : (s.withCable c).clock = s.clock := rfl
@[simp] theorem State.withCable_lau (s : State) (c : Cableway) : (s.withCable c).lau = s.lau := rfl
@[simp] theorem State.withCable_rating (s : State) (c : Cableway) : (s.withCable c).rating = s.rating := rfl
@[simp] theorem State.withCable_warning (s : State) (c : Cableway) : (s.withCable c).warning = s.warning := rfl
@[simp] theorem State.withCable_cable (s : State) (c : Cableway) : (s.withCable c).cable = c := rfl
@[simp] theorem State.withCable_gauging (s : State) (c : Cableway) : (s.withCable c).gauging = s.gauging := rfl
@[simp] theorem State.withCable_notices (s : State) (c : Cableway) : (s.withCable c).notices = s.notices := rfl
@[simp] theorem State.withCable_archive (s : State) (c : Cableway) : (s.withCable c).archive = s.archive := rfl
@[simp] theorem State.withCable_store (s : State) (c : Cableway) : (s.withCable c).store = s.store := rfl
@[simp] theorem State.withCable_ports (s : State) (c : Cableway) : (s.withCable c).ports = s.ports := rfl
@[simp] theorem State.withCable_pending (s : State) (c : Cableway) : (s.withCable c).pending = s.pending := rfl

/-! ### State.withRun -/

@[simp] theorem State.withRun_elapsed (s : State) (r : Run) : (s.withRun r).elapsed = s.elapsed := rfl
@[simp] theorem State.withRun_startingUp (s : State) (r : Run) : (s.withRun r).startingUp = s.startingUp := rfl
@[simp] theorem State.withRun_clock (s : State) (r : Run) : (s.withRun r).clock = s.clock := rfl
@[simp] theorem State.withRun_lau (s : State) (r : Run) : (s.withRun r).lau = s.lau := rfl
@[simp] theorem State.withRun_rating (s : State) (r : Run) : (s.withRun r).rating = s.rating := rfl
@[simp] theorem State.withRun_warning (s : State) (r : Run) : (s.withRun r).warning = s.warning := rfl
@[simp] theorem State.withRun_cable (s : State) (r : Run) : (s.withRun r).cable = { s.cable with run := some r } := rfl
@[simp] theorem State.withRun_gauging (s : State) (r : Run) : (s.withRun r).gauging = s.gauging := rfl
@[simp] theorem State.withRun_notices (s : State) (r : Run) : (s.withRun r).notices = s.notices := rfl
@[simp] theorem State.withRun_archive (s : State) (r : Run) : (s.withRun r).archive = s.archive := rfl
@[simp] theorem State.withRun_store (s : State) (r : Run) : (s.withRun r).store = s.store := rfl
@[simp] theorem State.withRun_ports (s : State) (r : Run) : (s.withRun r).ports = s.ports := rfl
@[simp] theorem State.withRun_pending (s : State) (r : Run) : (s.withRun r).pending = s.pending := rfl

/-! ### State.retrieve -/

@[simp] theorem State.retrieve_elapsed (s : State) : (s.retrieve).elapsed = s.elapsed := rfl
@[simp] theorem State.retrieve_startingUp (s : State) : (s.retrieve).startingUp = s.startingUp := rfl
@[simp] theorem State.retrieve_clock (s : State) : (s.retrieve).clock = s.clock := rfl
@[simp] theorem State.retrieve_lau (s : State) : (s.retrieve).lau = s.lau := rfl
@[simp] theorem State.retrieve_rating (s : State) : (s.retrieve).rating = s.rating := rfl
@[simp] theorem State.retrieve_warning (s : State) : (s.retrieve).warning = s.warning := rfl
@[simp] theorem State.retrieve_cable (s : State) : (s.retrieve).cable = s.cable.retrieve s.elapsed := rfl
@[simp] theorem State.retrieve_gauging (s : State) : (s.retrieve).gauging = s.gauging := rfl
@[simp] theorem State.retrieve_notices (s : State) : (s.retrieve).notices = s.notices := rfl
@[simp] theorem State.retrieve_archive (s : State) : (s.retrieve).archive = s.archive := rfl
@[simp] theorem State.retrieve_store (s : State) : (s.retrieve).store = s.store := rfl
@[simp] theorem State.retrieve_ports (s : State) : (s.retrieve).ports = s.ports := rfl
@[simp] theorem State.retrieve_pending (s : State) : (s.retrieve).pending = s.pending := rfl

/-! ### State.withWarning -/

@[simp] theorem State.withWarning_elapsed (s : State) (w : Warning) : (s.withWarning w).elapsed = s.elapsed := rfl
@[simp] theorem State.withWarning_startingUp (s : State) (w : Warning) : (s.withWarning w).startingUp = s.startingUp := rfl
@[simp] theorem State.withWarning_clock (s : State) (w : Warning) : (s.withWarning w).clock = s.clock := rfl
@[simp] theorem State.withWarning_lau (s : State) (w : Warning) : (s.withWarning w).lau = s.lau := rfl
@[simp] theorem State.withWarning_rating (s : State) (w : Warning) : (s.withWarning w).rating = s.rating := rfl
@[simp] theorem State.withWarning_warning (s : State) (w : Warning) : (s.withWarning w).warning = w.withRelay := rfl
@[simp] theorem State.withWarning_cable (s : State) (w : Warning) : (s.withWarning w).cable = s.cable := rfl
@[simp] theorem State.withWarning_gauging (s : State) (w : Warning) : (s.withWarning w).gauging = s.gauging := rfl
@[simp] theorem State.withWarning_notices (s : State) (w : Warning) : (s.withWarning w).notices = s.notices := rfl
@[simp] theorem State.withWarning_archive (s : State) (w : Warning) : (s.withWarning w).archive = s.archive := rfl
@[simp] theorem State.withWarning_store (s : State) (w : Warning) : (s.withWarning w).store = s.store := rfl
@[simp] theorem State.withWarning_ports (s : State) (w : Warning) : (s.withWarning w).ports = s.ports := rfl
@[simp] theorem State.withWarning_pending (s : State) (w : Warning) : (s.withWarning w).pending = s.pending := rfl

/-! ### State.levelRecord -/

@[simp] theorem State.levelRecord_elapsed (s : State) (e : LevelEvent) (o : Owner) : (s.levelRecord e o).elapsed = s.elapsed := rfl
@[simp] theorem State.levelRecord_startingUp (s : State) (e : LevelEvent) (o : Owner) : (s.levelRecord e o).startingUp = s.startingUp := rfl
@[simp] theorem State.levelRecord_clock (s : State) (e : LevelEvent) (o : Owner) : (s.levelRecord e o).clock = s.clock := rfl
@[simp] theorem State.levelRecord_lau (s : State) (e : LevelEvent) (o : Owner) : (s.levelRecord e o).lau = s.lau := rfl
@[simp] theorem State.levelRecord_rating (s : State) (e : LevelEvent) (o : Owner) : (s.levelRecord e o).rating = s.rating := rfl
@[simp] theorem State.levelRecord_warning (s : State) (e : LevelEvent) (o : Owner) : (s.levelRecord e o).warning = s.warning := rfl
@[simp] theorem State.levelRecord_cable (s : State) (e : LevelEvent) (o : Owner) : (s.levelRecord e o).cable = s.cable := rfl
@[simp] theorem State.levelRecord_store (s : State) (e : LevelEvent) (o : Owner) : (s.levelRecord e o).store = s.store := rfl
@[simp] theorem State.levelRecord_pending (s : State) (e : LevelEvent) (o : Owner) : (s.levelRecord e o).pending = s.pending := rfl

/-! ### State.withLau -/

@[simp] theorem State.withLau_elapsed (s : State) (l : Lau) : (s.withLau l).elapsed = s.elapsed := rfl
@[simp] theorem State.withLau_startingUp (s : State) (l : Lau) : (s.withLau l).startingUp = s.startingUp := rfl
@[simp] theorem State.withLau_clock (s : State) (l : Lau) : (s.withLau l).clock = s.clock := rfl
@[simp] theorem State.withLau_lau (s : State) (l : Lau) : (s.withLau l).lau = l := rfl
@[simp] theorem State.withLau_rating (s : State) (l : Lau) : (s.withLau l).rating = s.rating := rfl
@[simp] theorem State.withLau_warning (s : State) (l : Lau) : (s.withLau l).warning = s.warning := rfl
@[simp] theorem State.withLau_cable (s : State) (l : Lau) : (s.withLau l).cable = s.cable := rfl
@[simp] theorem State.withLau_gauging (s : State) (l : Lau) : (s.withLau l).gauging = s.gauging := rfl
@[simp] theorem State.withLau_notices (s : State) (l : Lau) : (s.withLau l).notices = s.notices := rfl
@[simp] theorem State.withLau_archive (s : State) (l : Lau) : (s.withLau l).archive = s.archive := rfl
@[simp] theorem State.withLau_store (s : State) (l : Lau) : (s.withLau l).store = s.store := rfl
@[simp] theorem State.withLau_ports (s : State) (l : Lau) : (s.withLau l).ports = s.ports := rfl
@[simp] theorem State.withLau_pending (s : State) (l : Lau) : (s.withLau l).pending = s.pending := rfl

/-! ### State.oweStart -/

@[simp] theorem State.oweStart_elapsed (s : State) : (s.oweStart).elapsed = s.elapsed := rfl
@[simp] theorem State.oweStart_startingUp (s : State) : (s.oweStart).startingUp = s.startingUp := rfl
@[simp] theorem State.oweStart_clock (s : State) : (s.oweStart).clock = s.clock := rfl
@[simp] theorem State.oweStart_lau (s : State) : (s.oweStart).lau = { s.lau with startOwed := true } := rfl
@[simp] theorem State.oweStart_rating (s : State) : (s.oweStart).rating = s.rating := rfl
@[simp] theorem State.oweStart_warning (s : State) : (s.oweStart).warning = s.warning := rfl
@[simp] theorem State.oweStart_cable (s : State) : (s.oweStart).cable = s.cable := rfl
@[simp] theorem State.oweStart_gauging (s : State) : (s.oweStart).gauging = s.gauging := rfl
@[simp] theorem State.oweStart_notices (s : State) : (s.oweStart).notices = s.notices := rfl
@[simp] theorem State.oweStart_archive (s : State) : (s.oweStart).archive = s.archive := rfl
@[simp] theorem State.oweStart_store (s : State) : (s.oweStart).store = s.store := rfl
@[simp] theorem State.oweStart_ports (s : State) : (s.oweStart).ports = s.ports := rfl
@[simp] theorem State.oweStart_pending (s : State) : (s.oweStart).pending = s.pending := rfl

/-! ### State.occupy -/

@[simp] theorem State.occupy_elapsed (s : State) (p : Port) (c g : Byte) : (s.occupy p c g).elapsed = s.elapsed := rfl
@[simp] theorem State.occupy_startingUp (s : State) (p : Port) (c g : Byte) : (s.occupy p c g).startingUp = s.startingUp := rfl
@[simp] theorem State.occupy_clock (s : State) (p : Port) (c g : Byte) : (s.occupy p c g).clock = s.clock := rfl
@[simp] theorem State.occupy_lau (s : State) (p : Port) (c g : Byte) : (s.occupy p c g).lau = s.lau := rfl
@[simp] theorem State.occupy_rating (s : State) (p : Port) (c g : Byte) : (s.occupy p c g).rating = s.rating := rfl
@[simp] theorem State.occupy_warning (s : State) (p : Port) (c g : Byte) : (s.occupy p c g).warning = s.warning := rfl
@[simp] theorem State.occupy_cable (s : State) (p : Port) (c g : Byte) : (s.occupy p c g).cable = s.cable := rfl
@[simp] theorem State.occupy_gauging (s : State) (p : Port) (c g : Byte) : (s.occupy p c g).gauging = s.gauging := rfl
@[simp] theorem State.occupy_notices (s : State) (p : Port) (c g : Byte) : (s.occupy p c g).notices = s.notices := rfl
@[simp] theorem State.occupy_archive (s : State) (p : Port) (c g : Byte) : (s.occupy p c g).archive = s.archive := rfl
@[simp] theorem State.occupy_store (s : State) (p : Port) (c g : Byte) : (s.occupy p c g).store = s.store := rfl
@[simp] theorem State.occupy_pending (s : State) (p : Port) (c g : Byte) : (s.occupy p c g).pending = s.pending := rfl

/-! ### PortAsync.idle -/

@[simp] theorem PortAsync.idle_receiving (a : PortAsync) : a.idle.receiving = false := rfl
@[simp] theorem PortAsync.idle_heard (a : PortAsync) : a.idle.heard = [] := rfl
@[simp] theorem PortAsync.idle_slot (a : PortAsync) : a.idle.slot = a.slot := rfl
@[simp] theorem PortAsync.idle_ready (a : PortAsync) : a.idle.ready = a.ready := rfl
@[simp] theorem PortAsync.idle_sending (a : PortAsync) : a.idle.sending = a.sending := rfl
@[simp] theorem PortAsync.idle_first (a : PortAsync) : a.idle.first = a.first := rfl

/-! ### State.onAsync -/

@[simp] theorem State.onAsync_elapsed (s : State) (p : AsyncPort) (f : PortAsync → PortAsync) : (s.onAsync p f).elapsed = s.elapsed := rfl
@[simp] theorem State.onAsync_startingUp (s : State) (p : AsyncPort) (f : PortAsync → PortAsync) : (s.onAsync p f).startingUp = s.startingUp := rfl
@[simp] theorem State.onAsync_clock (s : State) (p : AsyncPort) (f : PortAsync → PortAsync) : (s.onAsync p f).clock = s.clock := rfl
@[simp] theorem State.onAsync_lau (s : State) (p : AsyncPort) (f : PortAsync → PortAsync) : (s.onAsync p f).lau = s.lau := rfl
@[simp] theorem State.onAsync_rating (s : State) (p : AsyncPort) (f : PortAsync → PortAsync) : (s.onAsync p f).rating = s.rating := rfl
@[simp] theorem State.onAsync_warning (s : State) (p : AsyncPort) (f : PortAsync → PortAsync) : (s.onAsync p f).warning = s.warning := rfl
@[simp] theorem State.onAsync_cable (s : State) (p : AsyncPort) (f : PortAsync → PortAsync) : (s.onAsync p f).cable = s.cable := rfl
@[simp] theorem State.onAsync_gauging (s : State) (p : AsyncPort) (f : PortAsync → PortAsync) : (s.onAsync p f).gauging = s.gauging := rfl
@[simp] theorem State.onAsync_notices (s : State) (p : AsyncPort) (f : PortAsync → PortAsync) : (s.onAsync p f).notices = s.notices := rfl
@[simp] theorem State.onAsync_archive (s : State) (p : AsyncPort) (f : PortAsync → PortAsync) : (s.onAsync p f).archive = s.archive := rfl
@[simp] theorem State.onAsync_store (s : State) (p : AsyncPort) (f : PortAsync → PortAsync) : (s.onAsync p f).store = s.store := rfl
@[simp] theorem State.onAsync_ports (s : State) (p : AsyncPort) (f : PortAsync → PortAsync) : (s.onAsync p f).ports = s.ports.setAsync p (f (s.ports.async p)) := rfl
@[simp] theorem State.onAsync_pending (s : State) (p : AsyncPort) (f : PortAsync → PortAsync) : (s.onAsync p f).pending = s.pending := rfl

/-! ### State.settle -/

@[simp] theorem State.settle_elapsed (s : State) : (s.settle).elapsed = s.elapsed := rfl
@[simp] theorem State.settle_startingUp (s : State) : (s.settle).startingUp = s.startingUp := rfl
@[simp] theorem State.settle_clock (s : State) : (s.settle).clock = s.clock := rfl
@[simp] theorem State.settle_lau (s : State) : (s.settle).lau = s.lau := rfl
@[simp] theorem State.settle_rating (s : State) : (s.settle).rating = s.rating := rfl
@[simp] theorem State.settle_warning (s : State) : (s.settle).warning = s.warning := rfl
@[simp] theorem State.settle_cable (s : State) : (s.settle).cable = s.cable := rfl
@[simp] theorem State.settle_gauging (s : State) : (s.settle).gauging = s.gauging := rfl
@[simp] theorem State.settle_notices (s : State) : (s.settle).notices = s.pumpT.2 := rfl
@[simp] theorem State.settle_archive (s : State) : (s.settle).archive = s.archive := rfl
@[simp] theorem State.settle_store (s : State) : (s.settle).store = s.store := rfl
@[simp] theorem State.settle_ports (s : State) : (s.settle).ports = { s.ports with t := s.pumpT.1, f := s.pumpF } := rfl
@[simp] theorem State.settle_pending (s : State) : (s.settle).pending = s.pending := rfl

/-! ### Cableway.halt, Cableway.move -/

@[simp] theorem Cableway.halt_settings (c : Cableway) : c.halt.settings = c.settings := rfl
@[simp] theorem Cableway.halt_state (c : Cableway) : c.halt.state = c.state := rfl
@[simp] theorem Cableway.halt_holder (c : Cableway) : c.halt.holder = c.holder := rfl
@[simp] theorem Cableway.halt_plan (c : Cableway) : c.halt.plan = c.plan := rfl
@[simp] theorem Cableway.halt_run (c : Cableway) : c.halt.run = c.run := rfl
@[simp] theorem Cableway.halt_endCause (c : Cableway) : c.halt.endCause = c.endCause := rfl
@[simp] theorem Cableway.halt_latestHold (c : Cableway) : c.halt.latestHold = c.latestHold := rfl
@[simp] theorem Cableway.halt_remembered (c : Cableway) : c.halt.remembered = c.remembered := rfl
@[simp] theorem Cableway.halt_window (c : Cableway) : c.halt.window = c.window := rfl
@[simp] theorem Cableway.halt_motionTimer (c : Cableway) : c.halt.motionTimer = none := rfl
@[simp] theorem Cableway.halt_exposureTimer (c : Cableway) : c.halt.exposureTimer = c.exposureTimer := rfl
@[simp] theorem Cableway.halt_pauseTimer (c : Cableway) : c.halt.pauseTimer = c.pauseTimer := rfl
@[simp] theorem Cableway.halt_available (c : Cableway) : c.halt.available = c.available := rfl
@[simp] theorem Cableway.halt_drive (c : Cableway) : c.halt.drive = .off := rfl
@[simp] theorem Cableway.halt_target (c : Cableway) : c.halt.target = none := rfl
@[simp] theorem Cableway.halt_lines (c : Cableway) : c.halt.lines = c.lines := rfl
@[simp] theorem Cableway.move_settings (c : Cableway) (st : RunState) (t : Option Target) (d : Drive) (n now : Nat) :
    (c.move st t d n now).settings = c.settings := rfl
@[simp] theorem Cableway.move_state (c : Cableway) (st : RunState) (t : Option Target) (d : Drive) (n now : Nat) :
    (c.move st t d n now).state = st := rfl
@[simp] theorem Cableway.move_holder (c : Cableway) (st : RunState) (t : Option Target) (d : Drive) (n now : Nat) :
    (c.move st t d n now).holder = c.holder := rfl
@[simp] theorem Cableway.move_plan (c : Cableway) (st : RunState) (t : Option Target) (d : Drive) (n now : Nat) :
    (c.move st t d n now).plan = c.plan := rfl
@[simp] theorem Cableway.move_run (c : Cableway) (st : RunState) (t : Option Target) (d : Drive) (n now : Nat) :
    (c.move st t d n now).run = c.run := rfl
@[simp] theorem Cableway.move_endCause (c : Cableway) (st : RunState) (t : Option Target) (d : Drive) (n now : Nat) :
    (c.move st t d n now).endCause = c.endCause := rfl
@[simp] theorem Cableway.move_latestHold (c : Cableway) (st : RunState) (t : Option Target) (d : Drive) (n now : Nat) :
    (c.move st t d n now).latestHold = c.latestHold := rfl
@[simp] theorem Cableway.move_remembered (c : Cableway) (st : RunState) (t : Option Target) (d : Drive) (n now : Nat) :
    (c.move st t d n now).remembered = c.remembered := rfl
@[simp] theorem Cableway.move_window (c : Cableway) (st : RunState) (t : Option Target) (d : Drive) (n now : Nat) :
    (c.move st t d n now).window = c.window := rfl
@[simp] theorem Cableway.move_motionTimer (c : Cableway) (st : RunState) (t : Option Target) (d : Drive) (n now : Nat) :
    (c.move st t d n now).motionTimer = some (after now n) := rfl
@[simp] theorem Cableway.move_exposureTimer (c : Cableway) (st : RunState) (t : Option Target) (d : Drive) (n now : Nat) :
    (c.move st t d n now).exposureTimer = c.exposureTimer := rfl
@[simp] theorem Cableway.move_pauseTimer (c : Cableway) (st : RunState) (t : Option Target) (d : Drive) (n now : Nat) :
    (c.move st t d n now).pauseTimer = c.pauseTimer := rfl
@[simp] theorem Cableway.move_available (c : Cableway) (st : RunState) (t : Option Target) (d : Drive) (n now : Nat) :
    (c.move st t d n now).available = c.available := rfl
@[simp] theorem Cableway.move_drive (c : Cableway) (st : RunState) (t : Option Target) (d : Drive) (n now : Nat) :
    (c.move st t d n now).drive = d := rfl
@[simp] theorem Cableway.move_target (c : Cableway) (st : RunState) (t : Option Target) (d : Drive) (n now : Nat) :
    (c.move st t d n now).target = t := rfl
@[simp] theorem Cableway.move_lines (c : Cableway) (st : RunState) (t : Option Target) (d : Drive) (n now : Nat) :
    (c.move st t d n now).lines = c.lines := rfl

/-! ### Warning.withRelay -/

@[simp] theorem Warning.withRelay_settings (w : Warning) : w.withRelay.settings = w.settings := rfl
@[simp] theorem Warning.withRelay_live (w : Warning) : w.withRelay.live = w.live := rfl
@[simp] theorem Warning.withRelay_level (w : Warning) : w.withRelay.level = w.level := rfl
@[simp] theorem Warning.withRelay_owed (w : Warning) : w.withRelay.owed = w.owed := rfl
@[simp] theorem Warning.withRelay_firstTime (w : Warning) : w.withRelay.firstTime = w.firstTime := rfl
@[simp] theorem Warning.withRelay_deadline (w : Warning) : w.withRelay.deadline = w.deadline := rfl
@[simp] theorem Warning.withRelay_silent (w : Warning) : w.withRelay.silent = w.silent := rfl
@[simp] theorem Warning.withRelay_silenceTimer (w : Warning) : w.withRelay.silenceTimer = w.silenceTimer := rfl
@[simp] theorem Warning.withRelay_timers (w : Warning) : w.withRelay.timers = w.timers := rfl
@[simp] theorem Warning.withRelay_relay (w : Warning) : w.withRelay.relay = w.relayRequired := rfl

/-! ### State.wake -/

@[simp] theorem State.wake_time (s : State) : s.wake.time = s.clock.time := rfl
@[simp] theorem State.wake_startingUp (s : State) : s.wake.startingUp = s.startingUp := rfl
@[simp] theorem State.wake_elevation (s : State) : s.wake.elevation = s.rating.elevation := rfl
@[simp] theorem State.wake_archive (s : State) : s.wake.archive = s.archive := rfl
@[simp] theorem State.wake_gauging (s : State) : s.wake.gauging = s.gauging := rfl
@[simp] theorem State.wake_notices (s : State) : s.wake.notices = s.notices := rfl
@[simp] theorem State.wake_ports (s : State) : s.wake.ports = s.ports := rfl

end Sys2Proof.Machine
end

