-- ==== Sys2Proof/Laws/Archive.lean ====
section
/-! SUPPORT. What handing a notice or a record to its queue can do, and how its programming begins: each shared operation's
effect said once. -/

namespace Sys2Proof.Machine

/-! ### Notices -/

@[simp] theorem Wake.notice_time (w : Wake) (t : Nat) (b : NoticeBody) : (w.notice t b).time = w.time := rfl
@[simp] theorem Wake.notice_startingUp (w : Wake) (t : Nat) (b : NoticeBody) : (w.notice t b).startingUp = w.startingUp := rfl
@[simp] theorem Wake.notice_elevation (w : Wake) (t : Nat) (b : NoticeBody) : (w.notice t b).elevation = w.elevation := rfl
@[simp] theorem Wake.notice_archive (w : Wake) (t : Nat) (b : NoticeBody) : (w.notice t b).archive = w.archive := rfl
@[simp] theorem Wake.notice_gauging (w : Wake) (t : Nat) (b : NoticeBody) : (w.notice t b).gauging = w.gauging := rfl
@[simp] theorem Wake.notice_notices (w : Wake) (t : Nat) (b : NoticeBody) :
    (w.notice t b).notices = (w.notices.hand t b).1 := rfl

theorem PortAsync.noteLoss_slot (a : PortAsync) : a.noteLoss.slot = a.slot := by unfold PortAsync.noteLoss; split <;> rfl
theorem PortAsync.noteLoss_ready (a : PortAsync) : a.noteLoss.ready = a.ready := by unfold PortAsync.noteLoss; split <;> rfl
theorem PortAsync.noteLoss_receiving (a : PortAsync) : a.noteLoss.receiving = a.receiving := by
  unfold PortAsync.noteLoss; split <;> rfl
theorem PortAsync.noteLoss_heard (a : PortAsync) : a.noteLoss.heard = a.heard := by unfold PortAsync.noteLoss; split <;> rfl
theorem PortAsync.noteLoss_first (a : PortAsync) : a.noteLoss.first = a.first := by unfold PortAsync.noteLoss; split <;> rfl

@[simp] theorem Wake.notice_l (w : Wake) (t : Nat) (b : NoticeBody) : (w.notice t b).ports.l = w.ports.l := by
  unfold Wake.notice; simp only; split <;> rfl
@[simp] theorem Wake.notice_f (w : Wake) (t : Nat) (b : NoticeBody) : (w.notice t b).ports.f = w.ports.f := by
  unfold Wake.notice; simp only; split <;> rfl
@[simp] theorem Wake.notice_nextId (w : Wake) (t : Nat) (b : NoticeBody) :
    (w.notice t b).ports.nextId = w.ports.nextId := by
  unfold Wake.notice; simp only; split <;> rfl
@[simp] theorem Wake.notice_t_ready (w : Wake) (t : Nat) (b : NoticeBody) : (w.notice t b).ports.t.ready = w.ports.t.ready := by
  unfold Wake.notice; simp only; split
  · exact PortAsync.noteLoss_ready _
  · rfl

/-- A notice handed changes no slot. -/
@[simp] theorem Wake.notice_slot (w : Wake) (t : Nat) (b : NoticeBody) (p : Port) :
    (w.notice t b).ports.slot p = w.ports.slot p := by
  unfold Wake.notice; simp only; split
  · cases p
    · rfl
    · exact PortAsync.noteLoss_slot _
    · rfl
  · rfl

@[simp] theorem State.notice_ports (s : State) (b : NoticeBody) :
    (s.notice b).ports = (s.wake.notice s.clock.time b).ports := rfl

/-! ### Programming that begins -/

/-- The beginning of programming leaves the pages, the states and the counts, and of the queue only an index is new. -/
theorem Archive.begin_frame (a : Archive) :
    a.begin.pages = a.pages ∧ a.begin.state = a.state ∧ a.begin.waiting = a.waiting ∧ a.begin.firstOp = a.firstOp ∧
      a.begin.lastSequence = a.lastSequence ∧ a.begin.obsDropped = a.obsDropped ∧ a.begin.firstDropped = a.firstDropped ∧
      a.begin.lastDropped = a.lastDropped ∧ a.begin.othersDropped = a.othersDropped ∧
      a.begin.verifications = a.verifications ∧ a.begin.indexEnd = a.indexEnd ∧
      a.begin.queue.map QueuedRecord.content = a.queue.map QueuedRecord.content := by
  unfold Archive.begin
  split
  · simp
  · split
    · split
      · split <;> simp_all [QueuedRecord.content]
      · simp
    · simp

/-- The bytes in use on a page, as a sum. -/
theorem Page.used_eq (p : Page) : p.used = 16 + (p.records.map (fun r => r.record.length)).sum := by
  have h : ∀ (l : List StoredRecord) (n : Nat),
      l.foldl (fun n r => n + r.record.length) n = n + (l.map (fun r => r.record.length)).sum := by
    intro l
    induction l with
    | nil => simp
    | cons r l ih => intro n; simp [ih]; omega
  exact h _ _

theorem Record.length_pos (r : Record) : 0 < r.length := by unfold Record.length; omega

/-- All that the beginning of programming can do, where nothing is in flight: the head of the queue begins on the OPEN page. -/
theorem Archive.begin_spec (a : Archive) (n : Nat) (q : QueuedRecord) (rest : List QueuedRecord) (hop : a.op = .idle)
    (hf : a.state.isFailed = false) (ho : a.openPage = some n) (hq : a.queue = q :: rest) :
    ProgrammingBegun a a.begin n q rest := by
  intro used hu
  have hpos := q.record.length_pos
  have hspace : q.record.length ≤ (pageAt a.pages n).space ↔ used + q.record.length ≤ 4096 := by
    rw [Page.space, Page.used_eq, hu]; omega
  refine ⟨fun h => ⟨fun k hk => ?_, fun hk => ?_⟩, fun h => ?_⟩
  · simp [Archive.begin, hop, hf, ho, hq, hspace.2 h, hk]
  · simp [Archive.begin, hop, hf, ho, hq, hspace.2 h, hk]
  · have hn : ¬ q.record.length ≤ (pageAt a.pages n).space := fun hc => by have := hspace.1 hc; omega
    simp [Archive.begin, hop, hf, ho, hq, hn]

/-- Nothing begins while an operation is in flight, in a FAILED archive, without an OPEN page, or with an empty queue. -/
theorem Archive.begin_rest (a : Archive)
    (h : a.op ≠ .idle ∨ a.state.isFailed = true ∨ a.openPage = none ∨ a.queue = []) : a.begin = a := by
  unfold Archive.begin
  split
  · rfl
  · rename_i hc
    simp only [Bool.or_eq_true, decide_eq_true_eq, not_or, Bool.not_eq_true] at hc
    obtain ⟨h1, h2⟩ := hc
    rcases h with h | h | h | h
    · exact absurd h (by simpa using h1)
    · simp [h] at h2
    · simp [h]
    · simp [h]

/-- Taking the archive state afresh changes nothing where the counts give the state that stands. -/
theorem Wake.freshState_same (w : Wake) (h : w.archive.freshState = w.archive.state) : w.freshState = w := by
  simp [Wake.freshState, h]

@[simp] theorem Wake.kick_time (w : Wake) : w.kick.time = w.time := by unfold Wake.kick; split <;> rfl
@[simp] theorem Wake.kick_gauging (w : Wake) : w.kick.gauging = w.gauging := by unfold Wake.kick; split <;> rfl
@[simp] theorem Wake.kick_notices (w : Wake) : w.kick.notices = w.notices := by unfold Wake.kick; split <;> rfl
@[simp] theorem Wake.kick_ports (w : Wake) : w.kick.ports = w.ports := by unfold Wake.kick; split <;> rfl

theorem Wake.kick_state (w : Wake) : w.kick.archive.state = w.archive.state := by
  unfold Wake.kick; split
  · rfl
  · exact (Archive.begin_frame _).2.1

theorem Wake.kick_pages (w : Wake) : w.kick.archive.pages = w.archive.pages := by
  unfold Wake.kick; split
  · rfl
  · exact (Archive.begin_frame _).1

theorem Wake.kick_waiting (w : Wake) : w.kick.archive.waiting = w.archive.waiting := by
  unfold Wake.kick; split
  · rfl
  · exact (Archive.begin_frame _).2.2.1

theorem Wake.kick_content (w : Wake) :
    w.kick.archive.queue.map QueuedRecord.content = w.archive.queue.map QueuedRecord.content := by
  unfold Wake.kick; split
  · rfl
  · exact (Archive.begin_frame _).2.2.2.2.2.2.2.2.2.2.2

/-! ### Handing a record (R160, R165) -/

/-- The ports after a record is reported as entered. -/
def Ports.entered (ps : Ports) : Owner → Ports
  | .nobody | .gauging => ps
  | .request p id => ps.report p id (fun o => { o with waitRecord := false })

@[simp] theorem Wake.reportEntered_archive (w : Wake) (o : Owner) : (w.reportEntered o).archive = w.archive := by
  cases o <;> rfl
@[simp] theorem Wake.reportEntered_gauging (w : Wake) (o : Owner) : (w.reportEntered o).gauging = w.gauging := by
  cases o <;> rfl
@[simp] theorem Wake.reportEntered_notices (w : Wake) (o : Owner) : (w.reportEntered o).notices = w.notices := by
  cases o <;> rfl
theorem Wake.reportEntered_ports (w : Wake) (o : Owner) : (w.reportEntered o).ports = w.ports.entered o := by
  cases o <;> rfl

/-- A record handed to an archive with room joins the queue as its newest, and its producer is told; nothing else changes
but the beginning of programming. -/
theorem Wake.hand_room (w : Wake) (r : Record) (t : Nat) (o : Owner) (h : w.archive.hasRoom = true) :
    (w.hand r t o).archive.queue.map QueuedRecord.content = w.archive.queue.map QueuedRecord.content ++ [(r, t, o)] ∧
      (w.hand r t o).archive.state = w.archive.state ∧ (w.hand r t o).archive.pages = w.archive.pages ∧
      (w.hand r t o).archive.waiting = [] ∧ (w.hand r t o).gauging = w.gauging ∧
      (w.hand r t o).notices = w.notices ∧ (w.hand r t o).ports = w.ports.entered o := by
  simp only [Archive.hasRoom, Bool.and_eq_true, Bool.not_eq_true', decide_eq_true_eq, List.isEmpty_iff] at h
  obtain ⟨⟨hf, hl⟩, hw⟩ := h
  have he : w.hand r t o =
      (({ w with archive := { w.archive with queue := w.archive.queue ++
          [{ record := r, time := t, owner := o, index := none }] } } : Wake).reportEntered o).kick := by
    unfold Wake.hand
    simp [hf, hl, hw]
  rw [he]
  refine ⟨?_, ?_, ?_, ?_, ?_, ?_, ?_⟩
  · rw [Wake.kick_content]; simp [QueuedRecord.content]
  · rw [Wake.kick_state]; simp
  · rw [Wake.kick_pages]; simp
  · rw [Wake.kick_waiting]; simp [hw]
  · simp
  · simp
  · simp [Wake.reportEntered_ports]

/-- A record that nobody waits for, handed anywhere, changes the archive alone. -/
theorem Wake.hand_nobody (w : Wake) (r : Record) (t : Nat) :
    (w.hand r t .nobody).gauging = w.gauging ∧ (w.hand r t .nobody).notices = w.notices ∧
      (w.hand r t .nobody).ports = w.ports := by
  unfold Wake.hand
  simp only
  split
  · exact ⟨rfl, rfl, rfl⟩
  · split
    · simp [Wake.reportEntered]
    · split
      · exact ⟨rfl, rfl, rfl⟩
      · split <;> exact ⟨rfl, rfl, rfl⟩

/-- A record handed to a FAILED archive is dropped and reported so to its producer. -/
theorem Wake.hand_failed (w : Wake) (r : Record) (t : Nat) (o : Owner) (h : w.archive.state.isFailed = true) :
    w.hand r t o = w.reportDropped o := by
  simp [Wake.hand, h]

/-- A record handed to an archive without room, which is not FAILED, is counted as dropped or joins the waiting line. -/
theorem Wake.hand_full (w : Wake) (r : Record) (t : Nat) (o : Owner) (hf : w.archive.state.isFailed = false)
    (h : w.archive.hasRoom = false) :
    w.hand r t o =
      match r.obsNumber with
      | some n => { w with archive := w.archive.countObs n }
      | none =>
        if o = .nobody && decide (freeCapacity ≤ freeCount w.archive.waiting) then
          { w with archive := { w.archive with othersDropped := heldCount w.archive.othersDropped } }
        else
          { w with
            archive :=
              { w.archive with waiting := w.archive.waiting ++ [{ record := r, time := t, owner := o, index := none }] } } := by
  have hq : (decide (w.archive.queue.length < queueCapacity) && w.archive.waiting.isEmpty) = false := by
    simpa [Archive.hasRoom, hf] using h
  cases hn : r.obsNumber <;> simp only [Wake.hand, hf, hq, hn, Bool.false_eq_true, if_false]

end Sys2Proof.Machine
end

