-- ==== Sys2Proof/Laws/Ports.lean ====
section
/-! SUPPORT. When a message is taken, what the taking and the end of a command change, and what the characters of a line do. -/

namespace Sys2Proof.Machine

/-! ### Hearing a message -/

theorem State.restartSilence_frame (s : State) :
    s.restartSilence.elapsed = s.elapsed ∧ s.restartSilence.startingUp = s.startingUp ∧ s.restartSilence.clock = s.clock ∧
      s.restartSilence.lau = s.lau ∧ s.restartSilence.rating = s.rating ∧ s.restartSilence.cable = s.cable ∧
      s.restartSilence.gauging = s.gauging ∧ s.restartSilence.notices = s.notices ∧ s.restartSilence.store = s.store ∧
      s.restartSilence.ports = s.ports ∧ s.restartSilence.pending = s.pending := by
  unfold State.restartSilence
  simp only
  split
  · refine ⟨rfl, rfl, rfl, rfl, rfl, rfl, ?_, ?_, rfl, ?_, rfl⟩
    · exact (Wake.hand_nobody _ _ _).1
    · exact (Wake.hand_nobody _ _ _).2.1
    · exact (Wake.hand_nobody _ _ _).2.2
  · exact ⟨rfl, rfl, rfl, rfl, rfl, rfl, rfl, rfl, rfl, rfl, rfl⟩

/-- Hearing a message leaves the clock, the LAU, the rating store, the cableway, the gauging unit, the notice queue, the
settings store and the queue of commands as they were. -/
theorem State.heard_frame (s : State) (p : Port) :
    (s.heard p).elapsed = s.elapsed ∧ (s.heard p).startingUp = s.startingUp ∧ (s.heard p).clock = s.clock ∧
      (s.heard p).lau = s.lau ∧ (s.heard p).rating = s.rating ∧ (s.heard p).cable = s.cable ∧
      (s.heard p).gauging = s.gauging ∧ (s.heard p).notices = s.notices ∧ (s.heard p).store = s.store ∧
      (s.heard p).pending = s.pending := by
  cases p with
  | L => simp only [State.heard]; split <;> exact ⟨rfl, rfl, rfl, rfl, rfl, rfl, rfl, rfl, rfl, rfl⟩
  | T =>
    have h := State.restartSilence_frame (s.onAsync .T PortAsync.idle)
    obtain ⟨h1, h2, h3, h4, h5, h6, h7, h8, h9, _, h11⟩ := h
    exact ⟨h1, h2, h3, h4, h5, h6, h7, h8, h9, h11⟩
  | F => exact ⟨rfl, rfl, rfl, rfl, rfl, rfl, rfl, rfl, rfl, rfl⟩

@[simp] theorem PortL.sent_slot (l : PortL) (r : Response) : (l.sent r).slot = if r.answers then none else l.slot := by
  unfold PortL.sent; split <;> rfl

@[simp] theorem PortL.sent_frame (l : PortL) (r : Response) : (l.sent r).frame = none := by
  unfold PortL.sent; split <;> rfl

/-- A message that is taken finds the slot of its port FREE. -/
theorem State.heard_slot (s : State) (p : Port) (h : s.takes p = true) : (s.heard p).ports.slot p = none := by
  cases p with
  | L =>
    unfold State.takes at h
    unfold State.heard
    cases hf : s.ports.l.frame with
    | none => rw [hf] at h; cases h
    | some r =>
      rw [hf] at h
      have h' : r.response.answers = true ∨ s.ports.l.slot = none := by simpa using h
      show (s.ports.l.sent r.response).slot = none
      rw [PortL.sent_slot]
      rcases h' with h' | h'
      · rw [h']; rfl
      · rw [h', ite_self]
  | T =>
    simp only [State.takes, Bool.and_eq_true, Option.isNone_iff_eq_none] at h
    have hp := (State.restartSilence_frame (s.onAsync .T PortAsync.idle)).2.2.2.2.2.2.2.2.2.1
    show (State.restartSilence _).ports.slot .T = none
    rw [hp]
    exact h.2
  | F =>
    simp only [State.takes, Bool.and_eq_true, Option.isNone_iff_eq_none] at h
    exact h.2

/-- A message that finds its port ready is taken in the state in which it is heard. -/
theorem State.receive_taken (s : State) (p : Port) (a : Arrival) (h : s.takes p = true) :
    s.receive p a = (s.heard p).take p a := by
  cases p with
  | L =>
    have hs := State.heard_slot s .L h
    unfold State.takes at h
    show s.frameEnd a.inbound = _
    unfold State.frameEnd
    unfold State.heard at hs ⊢
    cases hf : s.ports.l.frame with
    | none => rw [hf] at h; cases h
    | some r =>
      rw [hf] at hs
      have hs' : (s.ports.l.sent r.response).slot.isSome = false := by
        have : (s.ports.l.sent r.response).slot = none := hs
        rw [this]; rfl
      cases a <;> simp only [Arrival.inbound, State.judgeInbound, hs', Bool.false_eq_true, if_false]
  | T =>
    simp only [State.takes, Bool.and_eq_true] at h
    show s.arrive .T a = _
    unfold State.arrive
    rw [if_pos h.1]
    exact if_pos h.2
  | F =>
    simp only [State.takes, Bool.and_eq_true] at h
    show s.arrive .F a = _
    unfold State.arrive
    rw [if_pos h.1]
    exact if_pos h.2

/-! ### A request newly taken -/

@[simp] theorem State.occupy_slot (s : State) (p q : Port) (c g : Byte) :
    (s.occupy p c g).ports.slot q = if q = p then some (Owed.new s.ports.nextId c g) else s.ports.slot q := by
  unfold State.occupy
  have : ∀ (ps : Ports) (n : Nat), ({ ps with nextId := n } : Ports).slot q = ps.slot q := by intros; cases q <;> rfl
  simp only [this, Ports.slot_setSlot]

@[simp] theorem State.occupy_owedId (s : State) (p : Port) (c g : Byte) : (s.occupy p c g).ports.owedId p = s.ports.nextId := by
  simp [Ports.owedId, Owed.new]

/-! ### The end of a command -/

/-- The responses ready to send on Port T before the lines are pumped are still there, or the oldest is being sent. -/
theorem State.pumpT_ready (s : State) (r : Response) (h : r ∈ s.ports.t.ready) :
    r ∈ s.pumpT.1.ready ∨ ∃ m, s.pumpT.1.sending = some (.response m) ∧ m.response = r := by
  unfold State.pumpT
  split
  · exact Or.inl h
  · split
    · rename_i q rest hq
      rw [hq] at h
      cases h with
      | head => exact Or.inr ⟨_, rfl, rfl⟩
      | tail _ h => exact Or.inl h
    · rename_i hq
      rw [hq] at h
      cases h

/-- The same on Port F. -/
theorem State.pumpF_ready (s : State) (r : Response) (h : r ∈ s.ports.f.ready) :
    r ∈ s.pumpF.ready ∨ ∃ m, s.pumpF.sending = some (.response m) ∧ m.response = r := by
  unfold State.pumpF
  split
  · rename_i q rest _ hq
    rw [hq] at h
    cases h with
    | head => exact Or.inr ⟨_, rfl, rfl⟩
    | tail _ h => exact Or.inl h
  · exact Or.inl h

theorem State.pumpT_slot (s : State) : s.pumpT.1.slot = s.ports.t.slot := by
  unfold State.pumpT
  split
  · rfl
  · split
    · rfl
    · simp only; split <;> rfl

theorem State.pumpF_slot (s : State) : s.pumpF.slot = s.ports.f.slot := by unfold State.pumpF; split <;> rfl

/-- The end of a command changes no slot. -/
@[simp] theorem State.settle_slot (s : State) (p : Port) : s.settle.ports.slot p = s.ports.slot p := by
  cases p
  · rfl
  · exact State.pumpT_slot s
  · exact State.pumpF_slot s

theorem State.markOldest_contents (k : Nat) (l : List Notice) :
    (markOldest k l).2.map (fun n => (n.time, n.body)) = l.map (fun n => (n.time, n.body)) := by
  induction l with
  | nil => rfl
  | cons n l ih =>
    simp only [markOldest]
    split
    · rfl
    · simp only [List.map_cons, ih]

/-- The end of a command changes of the notice queue only the mark of the notice in transmission. -/
theorem State.settle_notices_frame (s : State) :
    s.settle.notices.overflowed = s.notices.overflowed ∧
      s.settle.notices.held.map (fun n => (n.time, n.body)) = s.notices.held.map (fun n => (n.time, n.body)) := by
  show s.pumpT.2.overflowed = _ ∧ s.pumpT.2.held.map _ = _
  unfold State.pumpT
  split
  · exact ⟨rfl, rfl⟩
  · split
    · exact ⟨rfl, rfl⟩
    · simp only
      split
      · exact ⟨rfl, rfl⟩
      · exact ⟨rfl, State.markOldest_contents _ _⟩

/-- The end of a command leaves every block but the ports and the notice queue's mark as it was. -/
theorem State.settle_sameBlocks (s : State) : SameBlocks s s.settle :=
  ⟨rfl, rfl, rfl, rfl, rfl, rfl, rfl, rfl, rfl, rfl, rfl, (State.settle_notices_frame s).1, (State.settle_notices_frame s).2⟩

/-- The end of a command begins at most the next transmission on Port T's line. -/
theorem State.settle_sameAsync_t (s : State) : SameAsync s.ports.t s.settle.ports.t := by
  show SameAsync s.ports.t s.pumpT.1
  unfold State.pumpT
  split
  · rename_i m hm
    exact ⟨rfl, rfl, rfl, rfl, fun k h => ⟨h, rfl⟩, fun h => by simp [h] at hm, fun h => by simp [h] at hm⟩
  · rename_i hs
    split
    · rename_i r rest hr
      refine ⟨rfl, rfl, rfl, rfl, fun m h => by simp [h] at hs, fun _ h => by simp [h] at hr, ?_⟩
      intro _ q l h
      rw [hr] at h
      cases h
      exact ⟨rfl, _, rfl, rfl⟩
    · rename_i hr
      have hno : ∀ r rest, s.ports.t.ready = r :: rest → False := by intro r rest h; simp [h] at hr
      simp only
      split
      · exact ⟨rfl, rfl, rfl, rfl, fun m h => by simp [h] at hs, fun _ _ => ⟨hr, fun m h => by simp [hs] at h⟩,
          fun _ r rest h => (hno r rest h).elim⟩
      · refine ⟨rfl, rfl, rfl, rfl, fun m h => by simp [h] at hs, fun _ _ => ⟨hr, ?_⟩, fun _ r rest h => (hno r rest h).elim⟩
        intro m h
        exact ⟨_, (Option.some.inj h).symm⟩

/-- The end of a command begins at most the oldest waiting response on Port F's line. -/
theorem State.settle_sameAsync_f (s : State) : SameAsync s.ports.f s.settle.ports.f := by
  show SameAsync s.ports.f s.pumpF
  unfold State.pumpF
  split
  · rename_i r rest hs hr
    refine ⟨rfl, rfl, rfl, rfl, fun m h => by simp [h] at hs, fun _ h => by simp [h] at hr, ?_⟩
    intro _ q l h
    rw [hr] at h
    cases h
    exact ⟨rfl, _, rfl, rfl⟩
  · rename_i hno
    exact ⟨rfl, rfl, rfl, rfl, fun m h => ⟨h, rfl⟩, fun hs hr => ⟨hr, fun m h => by simp [hs] at h⟩,
      fun hs r rest hr => (hno r rest hs hr).elim⟩

/-- The end of a command begins at most the next transmission on the line of Port T or F. -/
theorem State.settle_sameAsync (s : State) (p : AsyncPort) : SameAsync (s.ports.async p) (s.settle.ports.async p) := by
  cases p
  · exact State.settle_sameAsync_t s
  · exact State.settle_sameAsync_f s

/-- A change of Port T or F is that change at the end of the command, but that a free line may begin the next transmission. -/
theorem State.onAsync_settle (s : State) (p : AsyncPort) (f : PortAsync → PortAsync) :
    SameAsync (f (s.ports.async p)) ((s.onAsync p f).settle.ports.async p) := by
  have h := State.settle_sameAsync (s.onAsync p f) p
  simp only [State.onAsync_ports, Ports.async_setAsync, if_true] at h
  exact h

/-- A change of Port T or F changes no other block, and the end of the command nothing more than it can. -/
theorem State.onAsync_sameBlocks (s : State) (p : AsyncPort) (f : PortAsync → PortAsync) : SameBlocks s (s.onAsync p f).settle :=
  State.settle_sameBlocks (s.onAsync p f)

/-- A change of Port T or F that keeps its slot changes no slot. -/
theorem State.onAsync_slot (s : State) (p : AsyncPort) (f : PortAsync → PortAsync)
    (h : (f (s.ports.async p)).slot = s.ports.slot p.port) (q : Port) : (s.onAsync p f).settle.ports.slot q = s.ports.slot q := by
  rw [State.settle_slot, State.onAsync_ports, Ports.slot_setAsync]
  split
  · rename_i e; rw [h, e]
  · rfl

/-! ### The characters of a line (R183) -/

/-- A message whose end has come is judged by its parity and its check, whatever follows it. -/
theorem Inbound.judgeLine_message (code tag h k check : Character) (payload more : List Character)
    (hn : payload.length = 256 * h.data.toNat + k.data.toNat) (hl : payload.length ≤ 576) :
    Inbound.judgeLine (code :: tag :: h :: k :: (payload ++ check :: more)) =
      if (code :: tag :: h :: k :: payload ++ [check]).all (·.sound)
          && decide (crc ((code :: tag :: h :: k :: payload).map (·.data)) = check.data) then
        Inbound.ofMessage code.data tag.data (payload.map (·.data))
      else .faulty := by
  have hd : (payload ++ check :: more).drop payload.length = check :: more := by simp
  have ht : (payload ++ check :: more).take payload.length = payload := by simp
  simp only [Inbound.judgeLine]
  rw [← hn, if_neg (by omega), hd, ht]

/-- A message that has not ended is not judged yet. -/
theorem Inbound.judgeLine_unended (code tag h k : Character) (body : List Character)
    (hn : 256 * h.data.toNat + k.data.toNat ≤ 576) (hl : body.length ≤ 256 * h.data.toNat + k.data.toNat) :
    Inbound.judgeLine (code :: tag :: h :: k :: body) = .empty := by
  simp only [Inbound.judgeLine]
  rw [if_neg (by omega), List.drop_of_length_le hl]

/-- What the characters of FRAME_ERROR do to a port that hears them, by what the message they make up is judged to be. -/
theorem State.frameError_eq (s : State) (p : AsyncPort) (l : List Character) (h : s.hears p = true) :
    s.frameError p l =
      match Inbound.judgeLine ((s.ports.async p).heard ++ l) with
      | .empty => s.onAsync p (fun a => { a with heard := (s.ports.async p).heard ++ l })
      | .faulty => s.onAsync p (fun a => a.idle.immediate 0 0 .frameError)
      | .unknown code tag => s.arrive p (.unknown code tag)
      | .request tag r => s.arrive p (.request tag r) := by
  unfold State.frameError
  exact if_pos h

/-- A port that hears nothing lets the characters pass. -/
theorem State.frameError_unheard (s : State) (p : AsyncPort) (l : List Character) (h : s.hears p = false) :
    s.frameError p l = s := by
  unfold State.frameError
  rw [if_neg (by simp [h])]

/-- An immediate answer joins the ready ones unless one is waiting (R184). -/
theorem PortAsync.immediate_ready (a : PortAsync) (code tag : Byte) (result : Result) :
    (a.immediate code tag result).ready =
      if a.ready.any (fun r => !r.answers) then a.ready
      else a.ready ++ [{ code := code, tag := tag, result := result, payload := .empty, answers := false }] := by
  unfold PortAsync.immediate
  split <;> rfl

@[simp] theorem PortAsync.immediate_slot (a : PortAsync) (code tag : Byte) (result : Result) :
    (a.immediate code tag result).slot = a.slot := by
  unfold PortAsync.immediate
  split <;> rfl

end Sys2Proof.Machine
end

