-- ==== Sys2Proof/Laws/Commands.lean ====
section
/-! SUPPORT. From a command to its block: a request that its port takes is its owner's operation in the state where the slot
has just become OWED; and the answer that the owner gives. -/

namespace Sys2Proof.Machine

/-! ### From a request command to its owner -/

/-- A request command is its request reaching its port, the encoder lines read first when it carries them. -/
theorem exec_sent (i : Instr) (p : Port) (tag : Byte) (r : Request) (s : State) (h : i.sent = some (p, tag, r)) :
    exec i s = .next (((s.sampled i).request p tag r).settle) := by
  cases i <;> simp only [Instr.sent, Option.some.injEq, Prod.mk.injEq, reduceCtorEq] at h <;>
    obtain ⟨rfl, rfl, rfl⟩ := h <;> rfl

theorem State.sampled_frame (s : State) (i : Instr) :
    (s.sampled i).elapsed = s.elapsed ∧ (s.sampled i).startingUp = s.startingUp ∧ (s.sampled i).clock = s.clock ∧
      (s.sampled i).lau = s.lau ∧ (s.sampled i).rating = s.rating ∧ (s.sampled i).warning = s.warning ∧
      (s.sampled i).gauging = s.gauging ∧ (s.sampled i).notices = s.notices ∧ (s.sampled i).archive = s.archive ∧
      (s.sampled i).store = s.store ∧ (s.sampled i).ports = s.ports ∧ (s.sampled i).pending = s.pending := by
  unfold State.sampled
  split <;> exact ⟨rfl, rfl, rfl, rfl, rfl, rfl, rfl, rfl, rfl, rfl, rfl, rfl⟩

/-- The encoder lines do not decide whether a port takes a message. -/
theorem State.sampled_takes (s : State) (i : Instr) (p : Port) : (s.sampled i).takes p = s.takes p := by
  unfold State.sampled
  split
  · rfl
  · cases p <;> rfl

/-- The state in which the slot of a port has just become OWED by a request that the port takes. -/
def State.owing (s : State) (i : Instr) (p : Port) (tag : Byte) (r : Request) : State :=
  ((s.sampled i).heard p).occupy p (BitVec.ofNat 8 (requestCode r)) tag

/-- A request that its port takes and allows goes to its owner in the state where the slot has just become OWED. -/
theorem exec_permitted (i : Instr) (p : Port) (tag : Byte) (r : Request) (s : State) (h : i.sent = some (p, tag, r))
    (ht : s.takes p = true) (hp : permitted p r = true) :
    exec i s = .next (((s.owing i p tag r).toOwner p r).settle) := by
  rw [exec_sent i p tag r s h]
  unfold State.request
  rw [State.receive_taken _ _ _ (by rw [State.sampled_takes]; exact ht)]
  simp only [State.take, Arrival.code, Arrival.tag]
  rw [if_pos hp]
  rfl

/-- A request that its port takes and does not allow is answered NOT_PERMITTED. -/
theorem exec_notPermitted (i : Instr) (p : Port) (tag : Byte) (r : Request) (s : State) (h : i.sent = some (p, tag, r))
    (ht : s.takes p = true) (hp : permitted p r = false) :
    exec i s = .next (((s.owing i p tag r).reply p .notPermitted).settle) := by
  rw [exec_sent i p tag r s h]
  unfold State.request
  rw [State.receive_taken _ _ _ (by rw [State.sampled_takes]; exact ht)]
  simp only [State.take, Arrival.code, Arrival.tag]
  rw [if_neg (by simp [hp])]
  rfl

/-- The slot of the state where it has just become OWED. -/
@[simp] theorem State.owing_slot (s : State) (i : Instr) (p : Port) (tag : Byte) (r : Request) :
    (s.owing i p tag r).ports.slot p =
      some (Owed.new ((s.sampled i).heard p).ports.nextId (BitVec.ofNat 8 (requestCode r)) tag) := by
  simp [State.owing]

/-! ### The owner's answer -/

/-- An answer given to an unanswered request is ready, or being sent, at the end of the command. -/
theorem answered_settle (s : State) (p : Port) (o : Owed) (r : Result) (a : Payload) (hs : s.ports.slot p = some o)
    (hn : o.answered = false) :
    Answers ((s.answer p r a).settle) { code := o.code, tag := o.tag, result := r, payload := a, answers := true } p ∧
      ∃ o', ((s.answer p r a).settle).ports.slot p = some o' ∧ o'.answered = true := by
  refine ⟨?_, ?_⟩
  · cases p with
    | L => exact Ports.answer_l s.ports r a o hs hn
    | T =>
      apply State.pumpT_ready
      show _ ∈ (s.ports.answer .T r a).t.ready
      rw [Ports.answer_t s.ports r a o hs hn]
      simp
    | F =>
      apply State.pumpF_ready
      show _ ∈ (s.ports.answer .F r a).f.ready
      rw [Ports.answer_f s.ports r a o hs hn]
      simp
  · refine ⟨{ o with answered := true }, ?_, rfl⟩
    rw [State.settle_slot]
    exact Ports.slot_answer_same s.ports p r a o hs hn

theorem SameBlocks.trans {s t u : State} (h : SameBlocks s t) (k : SameBlocks t u) : SameBlocks s u := by
  obtain ⟨a1, a2, a3, a4, a5, a6, a7, a8, a9, a10, a11, a12, a13⟩ := h
  obtain ⟨b1, b2, b3, b4, b5, b6, b7, b8, b9, b10, b11, b12, b13⟩ := k
  exact ⟨b1.trans a1, b2.trans a2, b3.trans a3, b4.trans a4, b5.trans a5, b6.trans a6, b7.trans a7, b8.trans a8, b9.trans a9,
    b10.trans a10, b11.trans a11, b12.trans a12, b13.trans a13⟩

/-- An answer changes the ports alone, and the end of the command nothing more than it can. -/
theorem answer_sameBlocks (s : State) (p : Port) (r : Result) (a : Payload) : SameBlocks s (s.answer p r a).settle :=
  SameBlocks.trans ⟨rfl, rfl, rfl, rfl, rfl, rfl, rfl, rfl, rfl, rfl, rfl, rfl, rfl⟩ (State.settle_sameBlocks _)

/-- A slot that has become OWED changes the ports alone. -/
theorem occupy_sameBlocks (s : State) (p : Port) (c g : Byte) : SameBlocks s (s.occupy p c g) :=
  ⟨rfl, rfl, rfl, rfl, rfl, rfl, rfl, rfl, rfl, rfl, rfl, rfl, rfl⟩

/-- The beginning of a transmission changes neither receive state, nor what is being received, nor the marker. -/
theorem PortAsync.pump_frame (s : State) :
    s.pumpT.1.receiving = s.ports.t.receiving ∧ s.pumpT.1.heard = s.ports.t.heard ∧ s.pumpT.1.first = s.ports.t.first ∧
      s.pumpF.receiving = s.ports.f.receiving ∧ s.pumpF.heard = s.ports.f.heard ∧ s.pumpF.first = s.ports.f.first := by
  have ht := State.settle_sameAsync_t s
  have hf := State.settle_sameAsync_f s
  exact ⟨ht.1, ht.2.1, ht.2.2.2.1, hf.1, hf.2.1, hf.2.2.2.1⟩

end Sys2Proof.Machine
end

