-- ==== Sys2Proof/Laws/Cableway.lean ====
section
/-! SUPPORT. What the stowed weight of a run brings: the carriage sent to a vertical, or the run's completion (R105, R115, R119). -/

namespace Sys2Proof.Machine

/-- Equal states have the same blocks. -/
theorem SameBlocks.of_eq {s t : State} (h : t = s) : SameBlocks s t := by
  subst h; simp [SameBlocks]

/-- What is said of the blocks alone holds in every state with the same blocks. -/
theorem Recorded.same {s t u : State} {r : Record} (h : Recorded s t r) (g : SameBlocks t u) : Recorded s u r := by
  have ha : u.archive = t.archive := g.2.2.2.2.2.2.2.2.1
  have hc : u.clock = t.clock := g.2.2.1
  refine ⟨?_, ?_⟩
  · rw [ha]; exact h.1.trans g
  · have := h.2
    unfold RecordQueued at *
    rwa [ha, hc]

/-- The same of the words for a stowed weight. -/
theorem SentToVertical.same {s t u : State} {r : Run} (h : SentToVertical s t r) (g : SameBlocks t u) : SentToVertical s u r :=
  fun d hd => ⟨fun hf => ((h d hd).1 hf).trans g, fun hn => ((h d hd).2 hn).trans g⟩

theorem StowedInRun.same {s t u : State} {r : Run} (h : StowedInRun s t r) (g : SameBlocks t u) : StowedInRun s u r :=
  ⟨fun hh => (h.1 hh).same g, fun hh rr hr e he =>
    ⟨fun k hk => ((h.2 hh rr hr e he).1 k hk).same g, fun hk hroom => by
      obtain ⟨run, h1, r2, h2, h3⟩ := (h.2 hh rr hr e he).2 hk hroom
      exact ⟨run, h1, r2, h2, h3.same g⟩⟩⟩

/-- TRAVERSING entered sends the carriage, or begins the sounding of a vertical already reached. -/
theorem State.enterTraversing_sent (s : State) (r : Run) : SentToVertical s (s.enterTraversing r) r := by
  intro d hd
  subst hd
  refine ⟨fun h => .of_eq ?_, fun h => .of_eq ?_⟩
  · have hn : ¬ (s.cable.lines.carriage - ((s.cable.vertical r.vertical).distance : Nat)).natAbs ≤ 50 := by omega
    simp [State.enterTraversing, reached, hn, State.withRun, State.withCable, Cableway.move, driveFor, after]
  · simp [State.enterTraversing, reached, h, State.enterSounding, State.lower, State.withRun, State.withCable, Cableway.move,
      after, Run.fresh, Run.at]

theorem State.enterTraversing_ports (s : State) (r : Run) : (s.enterTraversing r).ports = s.ports := by
  unfold State.enterTraversing; simp only; split <;> rfl

/-- The beginning of programming changes of the archive the queue, the operation in flight and the next index alone. -/
theorem Archive.begin_only (a : Archive) : { a.begin with queue := a.queue, op := a.op, nextIndex := a.nextIndex } = a := by
  unfold Archive.begin
  split
  · rfl
  · split
    · split
      · split <;> rfl
      · rfl
    · rfl

/-- A record handed to an archive with room is queued, with nothing else changed in the archive. -/
theorem Wake.hand_queued (w : Wake) (r : Record) (t : Nat) (o : Owner) (h : w.archive.hasRoom = true) :
    (w.hand r t o).archive.queue.map (fun q => (q.record, q.time)) =
        w.archive.queue.map (fun q => (q.record, q.time)) ++ [(r, t)] ∧
      { (w.hand r t o).archive with
        queue := w.archive.queue, op := w.archive.op, nextIndex := w.archive.nextIndex } = w.archive := by
  constructor
  · have := congrArg (List.map (fun c : Record × Nat × Owner => (c.1, c.2.1))) (w.hand_room r t o h).1
    simpa [QueuedRecord.content, Function.comp_def] using this
  · simp only [Archive.hasRoom, Bool.and_eq_true, Bool.not_eq_true', decide_eq_true_eq, List.isEmpty_iff] at h
    obtain ⟨⟨hf, hl⟩, hw⟩ := h
    have he : w.hand r t o =
        (({ w with archive := { w.archive with queue := w.archive.queue ++
            [{ record := r, time := t, owner := o, index := none }] } } : Wake).reportEntered o).kick := by
      unfold Wake.hand
      simp [hf, hl, hw]
    rw [he]
    unfold Wake.kick
    split
    · simp
    · have hb := Archive.begin_only
        { w.archive with queue := w.archive.queue ++ [{ record := r, time := t, owner := o, index := none }] }
      simp only [Wake.reportEntered_archive]
      have := congrArg (fun a : Archive => { a with queue := w.archive.queue }) hb
      exact this

/-- A run's completion with room hands its record alone to the archive. -/
theorem State.endRun_complete (s : State) (run : Run) (h : s.cable.run = some run) (rr : RunRecord)
    (hr : s.gauging.run = some rr) (hroom : s.archive.hasRoom = true) :
    RunEnded s (s.endAndRetrieve .complete) .complete ((s.cable.ended .complete).retrieve s.elapsed) ∧
      (s.endAndRetrieve .complete).ports = s.ports := by
  generalize hw : ({ s.wake with
    gauging :=
      { s.gauging with
        run := none, exposure := none, kept := [], result := .computing, computing := some (s.formRecord rr .complete)
        nextId := nextGaugingId s.gauging.nextId } } : Wake) = w
  have hwa : w.archive = s.archive := by rw [← hw]; rfl
  have hq := Wake.hand_queued w (.gauging (s.formRecord rr .complete)) s.clock.time .gauging (hwa ▸ hroom)
  obtain ⟨-, -, -, -, hg, hn, hp⟩ :=
    Wake.hand_room w (.gauging (s.formRecord rr .complete)) s.clock.time .gauging (hwa ▸ hroom)
  have key : s.endAndRetrieve .complete =
      ({ s with cable := (s.cable.ended .complete).retrieve s.elapsed }).withWake
        (w.hand (.gauging (s.formRecord rr .complete)) s.clock.time .gauging) := by
    subst hw
    simp only [State.endAndRetrieve, State.endRun, h, endEvent, State.gaugeEnd, State.withCable, hr, State.retrieve]
    rfl
  rw [key]
  rw [hwa] at hq
  refine ⟨⟨run, h, rr, hr, ?_, hq⟩, ?_⟩
  · simp only [State.withWake, hg, hn, endEvent]
    subst hw
    exact ⟨rfl, rfl, rfl, rfl, rfl, rfl, rfl, rfl, rfl, rfl, rfl, rfl, rfl⟩
  · simp only [State.withWake, hp, Ports.entered]
    subst hw
    rfl

/-- The stowed weight of a run, at the end of a RAISING (R115). -/
theorem State.stowedArrival_spec (s : State) (r : Run) (h : s.cable.run.isSome = true) : StowedInRun s (s.stowedArrival r) r := by
  refine ⟨fun hh => ?_, fun hh rr hr g hg => ?_⟩
  · simpa [State.stowedArrival, hh] using s.enterTraversing_sent { r with homing := false }
  · have hc : s.gauging.complete r s.clock.time = g := by simp [Gauging.complete, hr, hg]
    refine ⟨fun k hk => ?_, fun hk hroom => ?_⟩
    · have hf : r.at k = r.fresh k := rfl
      simpa [State.stowedArrival, hh, State.completeVertical, hc, hk, hf] using
        State.enterTraversing_sent { s with gauging := g } (r.fresh k)
    · obtain ⟨run, hrun⟩ := Option.isSome_iff_exists.1 h
      simp only [State.hasRoom, Bool.and_eq_true] at hroom
      have := (State.endRun_complete { s with gauging := g } run hrun _ (by simp [hg]; rfl) hroom.1.1).1
      simpa [State.stowedArrival, hh, State.completeVertical, hc, hk] using this

/-- The stowed weight of a run leaves the ports as they are, but perhaps at the end of a run without room for its record. -/
theorem State.stowedArrival_ports (s : State) (r : Run) (h : s.cable.run.isSome = true) (hq : s.stowsQuietly r = true) :
    (s.stowedArrival r).ports = s.ports := by
  simp only [State.stowsQuietly, Bool.or_eq_true, Option.isSome_iff_exists] at hq
  unfold State.stowedArrival
  split
  · exact State.enterTraversing_ports _ _
  · rename_i hh
    unfold State.completeVertical
    simp only
    split
    · exact State.enterTraversing_ports _ _
    · rename_i hk
      rcases hq with (hq | ⟨k, hq⟩) | hq
      · exact absurd hq hh
      · simp [hk] at hq
      · obtain ⟨run, hrun⟩ := Option.isSome_iff_exists.1 h
        simp only [State.hasRoom, Bool.and_eq_true] at hq
        cases hr : s.gauging.run with
        | none =>
          simp [State.endAndRetrieve, State.endRun, hrun, endEvent, State.gaugeEnd, State.withCable, State.retrieve,
            Gauging.complete, hr]
        | some rr =>
          refine (State.endRun_complete { s with gauging := s.gauging.complete r s.clock.time } run hrun
            { rr with results := rr.results ++ [formResult rr s.gauging.kept r], lastCompletion := some s.clock.time }
            ?_ hq.1.1).2
          simp [Gauging.complete, hr]

end Sys2Proof.Machine
end

