-- ==== Sys2Proof/Laws/Layouts.lean ====
section
/-! SUPPORT. How long the bytes of a page and its parts are, and where its records stand (R157, R202). -/

namespace Sys2Proof.Machine

@[simp] theorem be_length (n v : Nat) : (be n v).length = n := by induction n <;> simp [be, *]

@[simp] theorem recordBytes_length (r : Record) (index time : Nat) : (recordBytes r index time).length = r.length := by
  simp [recordBytes, Record.length]; omega

@[simp] theorem Page.headerBytes_length (p : Page) : p.headerBytes.length = 16 := by
  unfold Page.headerBytes; split
  · rfl
  · simp [PageHeader.bytes, beInt]

@[simp] theorem damagedBytes_length (free rest : List Byte) : (damagedBytes free rest).length = free.length := by
  simp [damagedBytes]

/-- A failing byte is not the one that passes. -/
theorem failingByte_ne (free pass : Byte) : failingByte free pass ≠ pass := by
  unfold failingByte; split
  · have key : ∀ b : Byte, b + 1 ≠ b := by decide
    exact key pass
  · assumption

/-- A header that fails its check does not hold the check byte that passes (R202). -/
theorem PageHeader.check_fails (h : PageHeader) (hf : h.checkOk = false) : h.check ≠ headerCheck h.sequence h.elevation := by
  unfold PageHeader.check
  simp only [hf, Bool.false_eq_true, if_false]
  split
  · exact failingByte_ne _ _
  · rename_i hu
    split
    · simp only [PageHeader.unwritten, Bool.not_eq_true', Bool.and_eq_true, decide_eq_true_eq,
        Bool.not_eq_false] at hu
      rw [hu.1, hu.2]
      decide +kernel
    · exact failingByte_ne _ _

/-- The records of a page, and the erased space behind them, reach the page's end. -/
theorem recordsBytes_length (sequence offset : Nat) (l : List StoredRecord) :
    (recordsBytes sequence offset l).length =
      (l.map (fun r => r.record.length)).sum + (4096 - (offset + (l.map (fun r => r.record.length)).sum)) := by
  induction l generalizing offset with
  | nil => simp [recordsBytes]
  | cons r l ih => simp only [recordsBytes, List.length_append, ih, List.map_cons, List.sum_cons]; split <;> simp <;> omega

/-- Behind the bytes of a page's first records stand those of the others, at their own offset. -/
theorem recordsBytes_drop (sequence offset : Nat) (a b : List StoredRecord) :
    (recordsBytes sequence offset (a ++ b)).drop (a.map (fun r => r.record.length)).sum =
      recordsBytes sequence (offset + (a.map (fun r => r.record.length)).sum) b := by
  induction a generalizing offset with
  | nil => simp
  | cons r l ih =>
    simp only [List.cons_append, recordsBytes, List.map_cons, List.sum_cons, ← Nat.add_assoc]
    rw [← ih, ← List.drop_drop, List.drop_left' (by split <;> simp)]

end Sys2Proof.Machine
end

