-- ==== Sys2Proof/Laws/Observations.lean ====
section
/-! SUPPORT. What the append of an observation can do, operation by operation: the SENSOR notices, a record nobody waits for, a
level change without a run, and what the cableway controller leaves when nothing bars (R12, R18, R85, R123). -/

namespace Sys2Proof.Machine

/-- A notice handed changes the notice queue and the mark on Port T's packet alone. -/
theorem State.notice_frame (s : State) (b : NoticeBody) :
    s.notice b = { s with notices := (s.notice b).notices, ports := (s.notice b).ports } := by
  simp [State.notice, State.withWake, State.wake]

/-- SENSOR notices change the notice queue and the mark on Port T's packet alone. -/
theorem State.sensorNotices_frame (s : State) (n : Nat) (l : List (SensorEvent × Channel × Option Nat)) :
    s.sensorNotices n l =
      { s with notices := (s.sensorNotices n l).notices, ports := (s.sensorNotices n l).ports } := by
  induction l generalizing s with
  | nil => rfl
  | cons e l ih =>
    obtain ⟨e, c, d⟩ := e
    simp only [State.sensorNotices]
    rw [ih, State.notice_frame]

/-- A record that nobody waits for changes the archive alone. -/
theorem State.hand_nobody (s : State) (r : Record) :
    s.hand r .nobody = { s with archive := (s.hand r .nobody).archive } := by
  obtain ⟨hg, hn, hp⟩ := Wake.hand_nobody s.wake r s.clock.time
  simp only [State.hand, State.withWake, hg, hn, hp]
  rfl

/-- A level that stays is no change. -/
theorem State.changeLevel_same (s : State) (cause : LevelCause) (o : Owner) : s.changeLevel s.warning.level cause o = s := by
  simp [State.changeLevel]

/-- A level change without a run, for whose record nobody waits, changes the warning unit, the notice queue with the mark on Port
T's packet, and the archive alone. -/
theorem State.changeLevel_frame (s : State) (new : Level) (cause : LevelCause) (h : s.cable.run = none) :
    s.changeLevel new cause .nobody =
      { s with
        warning := (s.changeLevel new cause .nobody).warning, notices := (s.changeLevel new cause .nobody).notices
        ports := (s.changeLevel new cause .nobody).ports, archive := (s.changeLevel new cause .nobody).archive } := by
  by_cases hn : new = s.warning.level
  · simp [State.changeLevel, hn]
  · simp only [State.changeLevel, hn, if_false, State.levelRecord, State.withWarning]
    rw [State.hand_nobody, State.notice_frame]
    simp [State.floodOnLevel, h]

/-- An append ends no run where none is in progress. -/
theorem State.floodOnAppend_idle (s : State) (o : Observation) (h : s.cable.run = none) : s.floodOnAppend o = s := by
  simp [State.floodOnAppend, h]

/-- An append leaves a run that neither its stage nor the level ends. -/
theorem State.floodOnAppend_run (s : State) (o : Observation) (r : Run) (h : s.cable.run = some r)
    (hl : levelBars r.kind s.warning.level = false) (hs : ∀ v, o.stage = some v → v ≤ stageLimit s.cable.settings r.kind) :
    s.floodOnAppend o = s := by
  cases ho : o.stage with
  | none => simp [State.floodOnAppend, h, hl, ho]
  | some v => simp [State.floodOnAppend, h, hl, ho, hs v ho]

end Sys2Proof.Machine
end

