-- ==== Sys2Proof/Laws/Pages.lean ====
section
/-! SUPPORT. The page list: reading a page after another is stored, and the canonical form, which every store keeps. -/

namespace Sys2Proof.Machine

/-- The page numbers of a list lie above a bound and rise strictly, each below 256, and no page is blank. -/
def pagesFrom : Nat → List (Nat × Page) → Prop
  | _, [] => True
  | b, (k, p) :: l => b ≤ k ∧ k < pageCount ∧ p ≠ Page.blank ∧ pagesFrom (k + 1) l

theorem pagesWf_iff (l : List (Nat × Page)) : pagesWf l = true ↔ pagesFrom 0 l := by
  have key : ∀ (l : List (Nat × Page)) (k : Nat) (p : Page),
      pagesWf ((k, p) :: l) = true ↔ (k < pageCount ∧ p ≠ Page.blank ∧ pagesFrom (k + 1) l) := by
    intro l
    induction l with
    | nil => intro k p; simp [pagesWf, pagesFrom]
    | cons e l ih =>
      intro k p
      obtain ⟨k', p'⟩ := e
      simp only [pagesWf, Bool.and_eq_true, decide_eq_true_eq, ih, pagesFrom]
      constructor
      · rintro ⟨⟨h1, h2⟩, h3, h4, h5⟩
        exact ⟨by omega, h2, by omega, h3, h4, h5⟩
      · rintro ⟨_, h2, h3, h4, h5, h6⟩
        exact ⟨⟨by omega, h2⟩, h4, h5, h6⟩
  cases l with
  | nil => simp [pagesWf, pagesFrom]
  | cons e l =>
    obtain ⟨k, p⟩ := e
    rw [key]
    simp [pagesFrom]

theorem pagesFrom_weaken {b c : Nat} (h : b ≤ c) : ∀ {l : List (Nat × Page)}, pagesFrom c l → pagesFrom b l
  | [], _ => trivial
  | (_, _) :: _, ⟨h1, h2⟩ => ⟨Nat.le_trans h h1, h2⟩

theorem pagesFrom_drop {l : List (Nat × Page)} : ∀ {b : Nat} (n : Nat), pagesFrom b l → pagesFrom b (dropPage l n) := by
  induction l with
  | nil => intros; trivial
  | cons e l ih =>
    intro b n h
    obtain ⟨k, p⟩ := e
    obtain ⟨h1, h2, h3, h4⟩ := h
    simp only [dropPage]
    split
    · exact pagesFrom_weaken (by omega) (ih n h4)
    · exact ⟨h1, h2, h3, ih n h4⟩

theorem pagesFrom_put {l : List (Nat × Page)} :
    ∀ {b : Nat} (n : Nat) (q : Page), b ≤ n → n < pageCount → q ≠ Page.blank → pagesFrom b l → pagesFrom b (putPage l n q) := by
  induction l with
  | nil => intro b n q hb hn hq _; exact ⟨hb, hn, hq, trivial⟩
  | cons e l ih =>
    intro b n q hb hn hq h
    obtain ⟨k, p⟩ := e
    obtain ⟨h1, h2, h3, h4⟩ := h
    simp only [putPage]
    split
    · exact ⟨hb, hn, hq, by omega, h2, h3, h4⟩
    · split
      · rename_i hk
        exact ⟨hb, hn, hq, by rw [hk] at h4; exact h4⟩
      · exact ⟨h1, h2, h3, ih n q (by omega) hn hq h4⟩

/-- Every store of a page of the archive keeps the canonical form. -/
theorem pagesWf_setPage {l : List (Nat × Page)} (n : Nat) (q : Page) (hn : n < pageCount) (h : pagesWf l = true) :
    pagesWf (setPage l n q) = true := by
  rw [pagesWf_iff] at h ⊢
  unfold setPage
  split
  · exact pagesFrom_drop n h
  · rename_i hq
    exact pagesFrom_put n q (Nat.zero_le n) hn hq h

/-- The page numbers of a canonical list are below 256. -/
theorem lt_of_mem_pages {l : List (Nat × Page)} : ∀ {b : Nat}, pagesFrom b l → ∀ e ∈ l, e.1 < pageCount := by
  induction l with
  | nil => intro b _ e he; cases he
  | cons a l ih =>
    intro b h e he
    obtain ⟨k, p⟩ := a
    obtain ⟨_, h2, _, h4⟩ := h
    cases he with
    | head => exact h2
    | tail _ he => exact ih h4 e he

theorem pageAt_drop (l : List (Nat × Page)) (n m : Nat) :
    pageAt (dropPage l n) m = if m = n then Page.blank else pageAt l m := by
  induction l with
  | nil => simp [dropPage, pageAt]
  | cons e l ih =>
    obtain ⟨k, p⟩ := e
    simp only [dropPage]
    split
    · rename_i hk
      rw [ih]
      split
      · rfl
      · simp only [pageAt]
        rw [if_neg (by omega)]
    · simp only [pageAt, ih]
      split
      · rename_i hm
        rw [if_neg (by omega)]
      · rfl

theorem pageAt_put (l : List (Nat × Page)) (n m : Nat) (q : Page) :
    ∀ {b : Nat}, pagesFrom b l → pageAt (putPage l n q) m = if m = n then q else pageAt l m := by
  induction l with
  | nil =>
    intro b _
    simp only [putPage, pageAt]
    by_cases h : n = m
    · rw [if_pos h, if_pos h.symm]
    · rw [if_neg h, if_neg (Ne.symm h)]
  | cons e l ih =>
    intro b hw
    obtain ⟨k, p⟩ := e
    obtain ⟨h1, h2, h3, h4⟩ := hw
    simp only [putPage]
    split
    · simp only [pageAt]
      by_cases h : n = m
      · rw [if_pos h, if_pos h.symm]
      · rw [if_neg h, if_neg (Ne.symm h)]
    · split
      · rename_i hk
        simp only [pageAt]
        by_cases h : n = m
        · rw [if_pos h, if_pos h.symm]
        · rw [if_neg h, if_neg (Ne.symm h), if_neg (by omega)]
      · simp only [pageAt, ih h4]
        by_cases h : k = m
        · rw [if_pos h, if_pos h, if_neg (by omega)]
        · rw [if_neg h, if_neg h]

/-- Reading a page after a store: the page stored at its own number, and every other page as before. -/
theorem pageAt_setPage {l : List (Nat × Page)} (n m : Nat) (q : Page) (h : pagesWf l = true) :
    pageAt (setPage l n q) m = if m = n then q else pageAt l m := by
  unfold setPage
  split
  · rename_i hq
    rw [pageAt_drop, hq]
  · exact pageAt_put l n m q ((pagesWf_iff l).1 h)

end Sys2Proof.Machine
end

