-- ==== Sys2Proof/Laws/PerInstr.lean ====
section
/-! SUPPORT. The per-instruction family RequestCodes: the code of the request that a command carries is one of the 37 of R200,
and an event carries none. -/

namespace Sys2Proof.Laws.RequestCodes

open Sys2Proof Sys2Proof.Machine

/-- The request a command carries has a code from 1 to 37 (R200). -/
def Statement (i : Instr) : Prop := ∀ r, i.request = some r → 1 ≤ requestCode r ∧ requestCode r ≤ 37

theorem abortRun (p : Port) (tag : Byte) (sized : Bool) (x : Encoders) : Statement (.abortRun p tag sized x) := by
  intro r h; cases h; simp [requestCode]

theorem acceptShift (p : Port) (tag : Byte) (id : Option Nat) : Statement (.acceptShift p tag id) := by
  intro r h; cases h; simp [requestCode]

theorem ackLevel (p : Port) (tag : Byte) (level : Option (Option Level)) : Statement (.ackLevel p tag level) := by
  intro r h; cases h; simp [requestCode]

theorem acquireNow (p : Port) (tag : Byte) (sized : Bool) (x : Encoders) : Statement (.acquireNow p tag sized x) := by
  intro r h; cases h; simp [requestCode]

theorem claimCableway (p : Port) (tag : Byte) (sized : Bool) : Statement (.claimCableway p tag sized) := by
  intro r h; cases h; simp [requestCode]

theorem clearFault (p : Port) (tag : Byte) (sized : Bool) : Statement (.clearFault p tag sized) := by
  intro r h; cases h; simp [requestCode]

theorem commitRating (p : Port) (tag : Byte) (f : Option RatingFields) : Statement (.commitRating p tag f) := by
  intro r h; cases h; simp [requestCode]

theorem deleteRating (p : Port) (tag : Byte) (id : Option Nat) : Statement (.deleteRating p tag id) := by
  intro r h; cases h; simp [requestCode]

theorem deleteShift (p : Port) (tag : Byte) (time : Option Nat) : Statement (.deleteShift p tag time) := by
  intro r h; cases h; simp [requestCode]

theorem enterHold (p : Port) (tag : Byte) (sized : Bool) : Statement (.enterHold p tag sized) := by
  intro r h; cases h; simp [requestCode]

theorem fixDatum (p : Port) (tag : Byte) (sized : Bool) : Statement (.fixDatum p tag sized) := by
  intro r h; cases h; simp [requestCode]

theorem forceClaim (p : Port) (tag : Byte) (sized : Bool) (x : Encoders) : Statement (.forceClaim p tag sized x) := by
  intro r h; cases h; simp [requestCode]

theorem freezeRating (p : Port) (tag : Byte) (sized : Bool) : Statement (.freezeRating p tag sized) := by
  intro r h; cases h; simp [requestCode]

theorem holdAlive (p : Port) (tag : Byte) (sized : Bool) : Statement (.holdAlive p tag sized) := by
  intro r h; cases h; simp [requestCode]

theorem leaveHold (p : Port) (tag : Byte) (sized : Bool) : Statement (.leaveHold p tag sized) := by
  intro r h; cases h; simp [requestCode]

theorem loadPlan (p : Port) (tag : Byte) (f : Option PlanFields) : Statement (.loadPlan p tag f) := by
  intro r h; cases h; simp [requestCode]

theorem manualReading (p : Port) (tag : Byte) (stage : Option Int) (x : Encoders) : Statement (.manualReading p tag stage x) := by
  intro r h; cases h; simp [requestCode]

theorem readArchive (p : Port) (tag : Byte) (f : Option ReadArchiveFields) : Statement (.readArchive p tag f) := by
  intro r h; cases h; simp [requestCode]

theorem readDescriptor (p : Port) (tag : Byte) (sized : Bool) : Statement (.readDescriptor p tag sized) := by
  intro r h; cases h; simp [requestCode]

theorem readGauging (p : Port) (tag : Byte) (id : Option Nat) : Statement (.readGauging p tag id) := by
  intro r h; cases h; simp [requestCode]

theorem readObs (p : Port) (tag : Byte) (count : Option Nat) : Statement (.readObs p tag count) := by
  intro r h; cases h; simp [requestCode]

theorem readSettings (p : Port) (tag : Byte) (f : Option ReadSettingsFields) : Statement (.readSettings p tag f) := by
  intro r h; cases h; simp [requestCode]

theorem rejectShift (p : Port) (tag : Byte) (id : Option Nat) : Statement (.rejectShift p tag id) := by
  intro r h; cases h; simp [requestCode]

theorem releaseCableway (p : Port) (tag : Byte) (sized : Bool) (x : Encoders) : Statement (.releaseCableway p tag sized x) := by
  intro r h; cases h; simp [requestCode]

theorem resume (p : Port) (tag : Byte) (sized : Bool) (x : Encoders) : Statement (.resume p tag sized x) := by
  intro r h; cases h; simp [requestCode]

theorem setAcquisition (p : Port) (tag : Byte) (f : Option AcqSettings) (x : Encoders) : Statement (.setAcquisition p tag f x) := by
  intro r h; cases h; simp [requestCode]

theorem setCableway (p : Port) (tag : Byte) (f : Option CablewaySettings) : Statement (.setCableway p tag f) := by
  intro r h; cases h; simp [requestCode]

theorem setChannel (p : Port) (tag : Byte) (f : Option ChannelFields) : Statement (.setChannel p tag f) := by
  intro r h; cases h; simp [requestCode]

theorem setHoldLimit (p : Port) (tag : Byte) (limit : Option Nat) : Statement (.setHoldLimit p tag limit) := by
  intro r h; cases h; simp [requestCode]

theorem setShift (p : Port) (tag : Byte) (f : Option ShiftFields) : Statement (.setShift p tag f) := by
  intro r h; cases h; simp [requestCode]

theorem setThreshold (p : Port) (tag : Byte) (f : Option ThresholdFields) (x : Encoders) : Statement (.setThreshold p tag f x) := by
  intro r h; cases h; simp [requestCode]

theorem setTime (p : Port) (tag : Byte) (time : Option Nat) (x : Encoders) : Statement (.setTime p tag time x) := by
  intro r h; cases h; simp [requestCode]

theorem setWarningTimers (p : Port) (tag : Byte) (f : Option WarningTimers) : Statement (.setWarningTimers p tag f) := by
  intro r h; cases h; simp [requestCode]

theorem startRun (p : Port) (tag : Byte) (sized : Bool) (x : Encoders) : Statement (.startRun p tag sized x) := by
  intro r h; cases h; simp [requestCode]

theorem status (p : Port) (tag : Byte) (sized : Bool) : Statement (.status p tag sized) := by
  intro r h; cases h; simp [requestCode]

theorem verifyArchive (p : Port) (tag : Byte) (f : Option VerifyFields) : Statement (.verifyArchive p tag f) := by
  intro r h; cases h; simp [requestCode]

theorem writeDatum (p : Port) (tag : Byte) (elevation : Option Int) : Statement (.writeDatum p tag elevation) := by
  intro r h; cases h; simp [requestCode]

theorem codeNamesNoRequest (p : Port) (code : Byte) (tag : Byte) : Statement (.codeNamesNoRequest p code tag) := by
  intro r h; cases h

theorem powerOn (r : ResetInputs) : Statement (.powerOn r) := by
  intro r h; cases h

theorem pinReset (r : ResetInputs) : Statement (.pinReset r) := by
  intro r h; cases h

theorem duePointReached (x : Encoders) : Statement (.duePointReached x) := by
  intro r h; cases h

theorem warmUpExpiry (r : Readings) (x : Encoders) : Statement (.warmUpExpiry r x) := by
  intro r h; cases h

theorem burstReading (r : Readings) (x : Encoders) : Statement (.burstReading r x) := by
  intro r h; cases h

theorem stationSecond (x : Encoders) : Statement (.stationSecond x) := by
  intro r h; cases h

theorem holdTimerExpiry : Statement (.holdTimerExpiry) := by
  intro r h; cases h

theorem deadlineExpiry : Statement (.deadlineExpiry) := by
  intro r h; cases h

theorem silenceTimerExpiry : Statement (.silenceTimerExpiry) := by
  intro r h; cases h

theorem traverseArrival (x : Encoders) : Statement (.traverseArrival x) := by
  intro r h; cases h

theorem reelArrival (x : Encoders) : Statement (.reelArrival x) := by
  intro r h; cases h

theorem surfaceContact (x : Encoders) : Statement (.surfaceContact x) := by
  intro r h; cases h

theorem bottomContact (x : Encoders) : Statement (.bottomContact x) := by
  intro r h; cases h

theorem reelDepthReaches25000 (x : Encoders) : Statement (.reelDepthReaches25000 x) := by
  intro r h; cases h

theorem meterPulse : Statement (.meterPulse) := by
  intro r h; cases h

theorem exposureTimerExpiry (x : Encoders) : Statement (.exposureTimerExpiry x) := by
  intro r h; cases h

theorem motionTimerExpiry (x : Encoders) : Statement (.motionTimerExpiry x) := by
  intro r h; cases h

theorem overload (x : Encoders) : Statement (.overload x) := by
  intro r h; cases h

theorem deadManWindowExpiry (x : Encoders) : Statement (.deadManWindowExpiry x) := by
  intro r h; cases h

theorem pauseTimerExpiry (x : Encoders) : Statement (.pauseTimerExpiry x) := by
  intro r h; cases h

theorem recordProgrammed : Statement (.recordProgrammed) := by
  intro r h; cases h

theorem eraseComplete : Statement (.eraseComplete) := by
  intro r h; cases h

theorem programFailure (left : Remnant) : Statement (.programFailure left) := by
  intro r h; cases h

theorem eraseFailure (left : Remnant) : Statement (.eraseFailure left) := by
  intro r h; cases h

theorem verificationEnd (p : Port) : Statement (.verificationEnd p) := by
  intro r h; cases h

theorem settingsWriteComplete : Statement (.settingsWriteComplete) := by
  intro r h; cases h

theorem readBackFailed : Statement (.readBackFailed) := by
  intro r h; cases h

theorem frameBegin : Statement (.frameBegin) := by
  intro r h; cases h

theorem frameEnd (inbound : List Byte) (x : Encoders) : Statement (.frameEnd inbound x) := by
  intro r h; cases h

theorem lineBreak (p : AsyncPort) : Statement (.lineBreak p) := by
  intro r h; cases h

theorem longGap (p : AsyncPort) : Statement (.longGap p) := by
  intro r h; cases h

theorem frameError (l : LineInput) : Statement (.frameError l) := by
  intro r h; cases h

theorem busy (p : AsyncPort) (code : Byte) (tag : Byte) : Statement (.busy p code tag) := by
  intro r h; cases h

theorem responseSent (p : AsyncPort) : Statement (.responseSent p) := by
  intro r h; cases h

theorem noticePacketComplete : Statement (.noticePacketComplete) := by
  intro r h; cases h

theorem startUpSequenceEnd : Statement (.startUpSequenceEnd) := by
  intro r h; cases h

theorem pageHeaderProgrammed : Statement (.pageHeaderProgrammed) := by
  intro r h; cases h

theorem verifyRecordChecked (p : Port) : Statement (.verifyRecordChecked p) := by
  intro r h; cases h

end Sys2Proof.Laws.RequestCodes
end

