-- ==== Sys2Proof/Laws/Reading.lean ====
section
/-! SUPPORT. What reading the archive meets: the held pages in order, a page's records up to the first damaged one, the
whole up to the newest that passes its check, and the indexes under which they stand (R168, R169). -/

namespace Sys2Proof.Machine

/-- The records that reading meets on a page. -/
theorem readable_eq (l : List StoredRecord) : readable l = l.take ((l.takeWhile (·.intact)).length + 1) := by
  induction l with
  | nil => rfl
  | cons r l ih => by_cases h : r.intact <;> simp [readable, List.takeWhile, h, ih]

theorem insertPage_perm (e : Nat × Page) (l : List (Nat × Page)) : (insertPage e l).Perm (e :: l) := by
  induction l with
  | nil => exact List.Perm.refl _
  | cons f l ih =>
    simp only [insertPage]
    split
    · exact List.Perm.refl _
    · exact (List.Perm.cons f ih).trans (List.Perm.swap e f l)

theorem insertPage_sorted (e : Nat × Page) (l : List (Nat × Page))
    (h : l.Pairwise (fun a b => a.2.sequence ≤ b.2.sequence)) :
    (insertPage e l).Pairwise (fun a b => a.2.sequence ≤ b.2.sequence) := by
  induction l with
  | nil => simp [insertPage]
  | cons f l ih =>
    simp only [List.pairwise_cons] at h
    simp only [insertPage]
    split
    · rename_i hle
      simp only [List.pairwise_cons]
      refine ⟨fun a ha => ?_, h⟩
      rcases List.mem_cons.1 ha with rfl | ha
      · exact hle
      · exact le_trans hle (h.1 a ha)
    · rename_i hle
      simp only [List.pairwise_cons]
      refine ⟨fun a ha => ?_, ih h.2⟩
      rcases List.mem_cons.1 ((insertPage_perm e l).mem_iff.1 ha) with rfl | ha
      · omega
      · exact h.1 a ha

/-- The held pages are those of the list that are held, in some order. -/
theorem heldPages_perm (l : List (Nat × Page)) : (heldPages l).Perm (l.filter (fun e => e.2.isHeld)) := by
  induction l with
  | nil => exact List.Perm.refl _
  | cons e l ih =>
    simp only [heldPages, List.filter_cons]
    split
    · exact (insertPage_perm e _).trans (List.Perm.cons e ih)
    · exact ih

/-- The held pages stand in order of their sequence numbers. -/
theorem heldPages_sorted (l : List (Nat × Page)) : (heldPages l).Pairwise (fun a b => a.2.sequence ≤ b.2.sequence) := by
  induction l with
  | nil => exact List.Pairwise.nil
  | cons e l ih =>
    simp only [heldPages]
    split
    · exact insertPage_sorted e _ ih
    · exact ih

/-- What is kept up to the newest passing record is followed only by records that fail their check, and ends with one that
passes it. -/
theorem upToNewest_spec (l : List StoredRecord) :
    (∃ beyond, l = upToNewest l ++ beyond ∧ ∀ r ∈ beyond, r.intact = false) ∧
      ∀ r, (upToNewest l).getLast? = some r → r.intact = true := by
  induction l with
  | nil => simp [upToNewest]
  | cons a l ih =>
    obtain ⟨⟨beyond, hl, hb⟩, hi⟩ := ih
    cases hu : upToNewest l with
    | nil =>
      rw [hu, List.nil_append] at hl
      by_cases ha : a.intact = true
      · simp only [upToNewest, hu, ha, if_true]
        exact ⟨⟨beyond, by simp [hl], hb⟩, fun r hr => by simp at hr; exact hr ▸ ha⟩
      · simp only [upToNewest, hu, ha]
        refine ⟨⟨a :: l, rfl, fun r hr => ?_⟩, by simp⟩
        rcases List.mem_cons.1 hr with rfl | hr
        · simpa using ha
        · exact hb r (hl ▸ hr)
    | cons b k =>
      rw [hu] at hl hi
      simp only [upToNewest, hu]
      refine ⟨⟨beyond, by rw [hl]; rfl, hb⟩, fun r hr => hi r ?_⟩
      simpa using hr

theorem walk_length (s w : Nat) (before : Option Nat) (l : List StoredRecord) : (walk s w before l).length = l.length := by
  induction l generalizing before with
  | nil => rfl
  | cons r l ih => simp only [walk]; split <;> [skip; split] <;> simp [ih]

/-- A record that passes its check keeps its index. -/
theorem walk_intact (s w : Nat) (before : Option Nat) (l : List StoredRecord) (i : Nat) (r : StoredRecord)
    (h : l[i]? = some r) (hr : r.intact = true) : (walk s w before l)[i]? = some r := by
  induction l generalizing before i with
  | nil => simp at h
  | cons a l ih =>
    cases i with
    | zero =>
      simp only [List.getElem?_cons_zero, Option.some.injEq] at h
      subst h
      simp [walk, hr]
    | succ i =>
      simp only [List.getElem?_cons_succ] at h
      simp only [walk]
      split <;> [skip; split] <;> simpa using ih _ i h

end Sys2Proof.Machine
end

