-- ==== Sys2Proof/Tests/Slice0.lean ====
section
/-! SUPPORT. The model's own tests: the ill-formed commands, the spec's worked examples, and for every statement with
hypotheses a state and operands that meet them, clause by clause. -/

namespace Sys2Proof.Tests

open Sys2Proof Sys2Proof.Machine

/-! ### Ill-formed commands: one for each check of WellFormed.lean -/

theorem test_illFormed_operands :
    ([.acceptShift .L 0 (some 65536), .commitRating .L 0 (some ⟨4294967296, []⟩), .commitRating .L 0 (some ⟨0, [⟨32768, 0⟩]⟩),
      .commitRating .L 0 (some ⟨0, List.replicate 96 ⟨0, 0⟩⟩), .deleteRating .T 0 (some 256),
      .deleteShift .L 0 (some 4294967296), .loadPlan .F 0 (some ⟨65536, 0, []⟩), .loadPlan .F 0 (some ⟨1, 256, []⟩),
      .loadPlan .F 0 (some ⟨1, 0, List.replicate 82 ⟨0, none, 0, 0⟩⟩), .loadPlan .F 0 (some ⟨1, 0, [⟨16777216, none, 0, 0⟩]⟩)]
        : List Instr).all (fun i => !i.wellFormed) = true := by decide

theorem test_illFormed_fields :
    ([.manualReading .F 0 (some (-32769)) ⟨0, 0⟩, .readArchive .L 0 (some ⟨0, 256, .absent⟩), .readObs .L 0 (some 256),
      .readSettings .L 0 (some ⟨none, some 256⟩), .setAcquisition .L 0 (some ⟨0, 0, 0, 0, 0, 0, 0, 65536⟩) ⟨0, 0⟩,
      .setCableway .F 0 (some ⟨0, 0, 32768, 0, 0, 0, 0, 0, 0⟩), .setChannel .L 0 (some ⟨none, none, 256, 0, 0⟩),
      .setHoldLimit .L 0 (some 65536), .setShift .L 0 (some ⟨0, 32768⟩), .setThreshold .L 0 (some ⟨0, none, none, 0, 0, 256, none⟩) ⟨0, 0⟩,
      .setWarningTimers .L 0 (some ⟨65536, 0⟩), .verifyArchive .L 0 (some ⟨0, 65536⟩), .writeDatum .F 0 (some 2147483648)]
        : List Instr).all (fun i => !i.wellFormed) = true := by decide

theorem test_illFormed_events :
    ([.codeNamesNoRequest .T 37 0, .codeNamesNoRequest .T 255 0, .busy .F 255 0, .powerOn ⟨false, .done, .done, [], [256], []⟩,
      .pinReset ⟨false, .done, .done, [], [300], []⟩] : List Instr).all (fun i => !i.wellFormed) = true := by decide

theorem test_wellFormed_commands :
    ([.setShift .L 7 (some ⟨4294967295, -1000⟩), .codeNamesNoRequest .T 38 0, .busy .F 254 0, .meterPulse,
      .powerOn ⟨true, .bad, .bad, [.datum], [255], [3]⟩] : List Instr).all Instr.wellFormed = true := by decide

/-! ### The spec's worked examples -/

/-- R176. -/
theorem test_crc : crc [0x00#8] = 0xC4#8 := by decide

/-- 01_stage_acquisition.md, section 1.8: the median, the stage and the rate of rise. -/
theorem test_example_acquisition :
    channelResult ⟨⟨true, 1, -1500, 20000⟩, [10240, 10244, 0, 10238, 10250, 10242, 10246], true⟩ 7 = some (1626, false) ∧
      channelResult ⟨⟨true, 2, -1480, 20000⟩, [10251, 10249, 10255, 10250, 10252, 10248, 10253], true⟩ 7 = some (1648, false) ∧
      channelResult ⟨⟨true, 3, 0, 5000⟩, [65535, 65535, 41000, 65535, 65535, 40990, 65535], true⟩ 7 = none ∧
      (Disagree.update ⟨true, 0, 2⟩ 50 22) = (⟨false, 0, 3⟩, some .disagreeClear) ∧
      (ChannelStatus.update ⟨false, 1, 0⟩ false) = (⟨true, 0, 0⟩, some .channelFault) := by decide

/-- 04_shifts_and_discharge_computation.md, sections 4.10 to 4.12. -/
theorem test_example_shifts :
    [500, 1000, 4000, 7000, 8500, 12000].map (shiftAt [⟨1000, 20, .manual⟩, ⟨7000, -45, .manual⟩, ⟨10000, 0, .manual⟩]) =
      [20, 20, -13, -45, -22, 0] := by decide

/-- The points of section 4.11. -/
def points411 : List RatingPoint := [⟨800, 0⟩, ⟨1000, 0⟩, ⟨1400, 25000⟩, ⟨3000, 600000⟩, ⟨6000, 12000000⟩]

theorem test_example_lookup :
    [730, 930, 1200, 6000, 9030, 20000].map (lookup points411) =
      [(0, false, false, false), (0, false, false, false), (12500, false, false, false), (12000000, false, false, false),
        (23514000, false, true, false), (40000000, false, true, true)] := by decide

theorem test_example_inverse :
    [0, 4100, 6000, 20000, 26000, 40000000].map
        (inverse [⟨1200, 0⟩, ⟨1350, 0⟩, ⟨1500, 6000⟩, ⟨1700, 6000⟩, ⟨2000, 20000⟩]) =
      [some 1350, some 1453, some 1700, some 2000, some 2129, some 20000] := by decide

/-- 06_the_cableway.md, section 6.8: the sample points of the three verticals. -/
theorem test_example_samplePoints :
    samplePoints (.twoPoint 40) 750 150 600 = ([360], true, false) ∧
      samplePoints (.twoPoint 40) 750 150 1500 = ([300, 1200], false, false) ∧
      samplePoints (.onePoint 40) 750 150 200 = ([50], false, true) := by decide

/-- 07_gauging_computation_and_results.md, section 7.9: velocities, mid-time, discharge, percent difference. -/
theorem test_example_gauging :
    pointVelocity 2500 12 40 94 = 600 ∧ meanVelocity 2500 12 100 [⟨219, false⟩, ⟨171, false⟩] = 500 ∧
      midTime 86400 87400 = 86900 ∧ rawPercent (some 9320) (some 4280) = some 1178 ∧
      inverse [⟨1200, 0⟩, ⟨1500, 6000⟩, ⟨2000, 20000⟩] 9320 = some 1619 ∧
      rawDischarge
          [⟨1, 0, .edge, some 0, some 0, 0, [], VerticalFlags.none⟩, ⟨2, 4000, .onePoint, some 800, some 600, 40, [], VerticalFlags.none⟩,
            ⟨3, 8000, .onePoint, some 1500, some 900, 40, [], VerticalFlags.none⟩,
            ⟨4, 12000, .twoPoint, some 1000, some 500, 100, [], VerticalFlags.none⟩,
            ⟨5, 16000, .edge, some 0, some 0, 0, [], VerticalFlags.none⟩] = 9320 := by decide

/-- A power-on of a factory-new part leaves State.reset, where the start-up sequence runs (log entry 6). -/
theorem test_powerOn_factory : exec (.powerOn ⟨false, .former, .former, [], [], []⟩) State.reset = .next State.reset := rfl

/-! ### States of the witnesses -/

/-- The idle response of a frame in progress on Port L. -/
def frame0 : SentResponse :=
  { response := { code := 0, tag := 0, result := .ok, payload := .empty, answers := false }, discarded := false
    summary := State.reset.summary true }

/-- The part after start-up, every port about to take a message. -/
def base : State :=
  { State.reset with
    startingUp := false
    ports :=
      { l := { PortL.reset with frame := some frame0 }, t := { PortAsync.reset with receiving := true }
        f := { PortAsync.reset with receiving := true }, nextId := 0 } }

theorem test_base_takes : base.takes .L = true ∧ base.takes .T = true ∧ base.takes .F = true := by decide

/-- A request owed and not answered. -/
def owed0 : Owed := Owed.new 0 30 7

/-- The slots of all three ports owed. -/
def owing : State :=
  { base with
    ports :=
      { base.ports with
        l := { base.ports.l with slot := some owed0 }, t := { base.ports.t with slot := some owed0 }
        f := { base.ports.f with slot := some owed0 } } }

/-- An observation of a stage at a time. -/
def obs0 (time : Nat) (stage : Option Int) : Observation :=
  { number := 1, time := time, quality := .set, stage := stage, source := none, range := false, disagree := false, manual := false
    rate := none, discharge := none, flags := DischargeFlags.none, ratingId := none, shift := none }

/-- A station time of 10, after an observation at 5 with stage 1,000 mm. -/
def later : State :=
  { base with
    clock := { base.clock with time := 10, floor := 5 }, lau := { base.lau with series := [obs0 5 (some 1000)], nextObs := 2 } }

/-- The same with the newest observation in the present second. -/
def sameSec : State := { later with clock := { later.clock with time := 5 } }

/-- An acquisition in flight: one of three readings is taken of channel LA. -/
def acq0 (phase : AcqPhase) (taken : Nat) : Acquisition :=
  { phase := phase, capture := ⟨some ⟨⟨true, 1, 0, 10000⟩, [9000], true⟩, none, none⟩, warmUp := 2, burst := 3, start := 0, taken := taken }

/-- A state with an acquisition in flight. -/
def acquiring (s : State) (a : Acquisition) : State := { s with lau := { s.lau with acq := some a, lastStart := some 0 } }

/-- A state in a service hold. -/
def holding (s : State) (st : HoldState) : State :=
  { s with lau := { s.lau with hold := { s.lau.hold with state := st, timer := some 180000 } } }

/-- The example's cableway settings of section 6.8. -/
def settings0 : CablewaySettings := ⟨60000, 4000, 3000, 150, 750, 5, 300, 600, 120⟩

/-- A plan as LOAD_PLAN carries it. -/
def planFields : PlanFields :=
  ⟨5000, 10, [⟨2000, some .edge, 0, 0⟩, ⟨8000, some .twoPoint, 40, 0⟩, ⟨14000, some .onePoint, 40, 0⟩, ⟨26000, some .edge, 0, 100⟩]⟩

/-- The plan it gives. -/
def plan0 : Plan := ⟨5000, 10, [⟨2000, .edge 0⟩, ⟨8000, .twoPoint 40⟩, ⟨14000, .onePoint 40⟩, ⟨26000, .edge 100⟩]⟩

/-- A cableway held by a port, with its plan. -/
def claimed (p : Port) : Cableway :=
  { base.cable with settings := settings0, available := true, holder := some p, state := .claimed, plan := some plan0 }

/-- A run at the second vertical of the plan. -/
def run0 (k : HoldKind) : Run :=
  { kind := k, startTime := 0, vertical := 1, sample := 0, zs := none, zb := none, sounded := .searching, points := []
    methodChanged := false, depthLimited := false, homing := false }

/-- The run record of the gauging unit. -/
def record0 : RunRecord :=
  { holdPort := .F, startTime := 0, startElapsed := 0, startObs := some 1, plan := plan0, results := [], lastCompletion := none }

/-- A run in progress in a run state, with a target. -/
def running (p : Port) (st : RunState) (r : Run) (t : Option Target) : State :=
  { later with
    cable :=
      { claimed p with
        state := st, run := some r, target := t, latestHold := some p, motionTimer := some 700, window := some 0
        pauseTimer := some 900 }
    gauging := { base.gauging with run := some record0 } }

/-- A state with a cableway. -/
def withCable (c : Cableway) : State := { later with cable := c }

/-- A gauging record. -/
def gauging0 (d : Disposition) : GaugingRecord :=
  { later.formRecord record0 .complete with id := 4, disposition := d, candidate := some 215 }

/-- A state whose gauging list holds one record. -/
def gauged (d : Disposition) : State :=
  { base with gauging := { base.gauging with list := [⟨gauging0 d, some 3⟩], result := .ready } }

/-- A rating version. -/
def version (id effective : Nat) : RatingVersion := { id := id, effective := effective, points := [⟨0, 0⟩, ⟨1000, 5000⟩] }

/-- A state that holds some rating versions. -/
def rated (a b c d : Option RatingVersion) : State :=
  { base with
    clock := { base.clock with time := 4000100 }
    rating := { base.rating with slots := ⟨⟨a, 255, 1⟩, ⟨b, 255, 2⟩, ⟨c, 255, 3⟩, ⟨d, 255, 4⟩⟩, lastId := 255 } }

/-- The full store of section 3.7, at 4,000,100. -/
def fullStore : State :=
  rated (some (version 1 1000000)) (some (version 253 2000000)) (some (version 254 3000000)) (some (version 255 5000000))

/-- A full store in which nothing is superseded. -/
def futureStore : State :=
  rated (some (version 3 6000000)) (some (version 2 4500000)) (some (version 254 3000000)) (some (version 255 5000000))

/-- Section 3.7: the id passes over the one in use, and the superseded version with the earliest effective-from goes. -/
theorem test_example_commits :
    fullStore.rating.newId = 2 ∧ namedForRemoval fullStore.rating.versions 4000100 = some (version 1 1000000) ∧
      namedForRemoval futureStore.rating.versions 4000300 = none ∧
      inForce futureStore.rating.versions 4000310 = some (version 254 3000000) := by decide

/-- A warning unit at WARN with an owed acknowledgement, through record T1. -/
def warned : State :=
  { base with
    warning :=
      { base.warning with
        settings := { base.warning.settings with t1 := ⟨true, .stage, 3000, 100, 1, .warn⟩ }
        live := { base.warning.live with t1 := ⟨true, 0⟩ }, level := .warn, owed := true, firstTime := some 3
        deadline := .running 60000 } }

/-- A page opened, with no records. -/
def page0 (st : PageStatus) : Page :=
  { status := st, header := some ⟨1, 0, true, false, false⟩, records := [] }

/-- A record in the write queue, at its first attempt. -/
def queued (o : Owner) : QueuedRecord := { record := .obs (obs0 5 none), time := 5, owner := o, index := some 0 }

/-- An archive whose page 0 is open, with an operation in flight. -/
def archiving (op : ArchiveOp) (q : List QueuedRecord) : State :=
  { base with archive := { base.archive with pages := [(0, page0 .opened)], op := op, queue := q, nextIndex := 1 } }

/-- A settings write in flight for Port T's owed request. -/
def writing (failures : Nat) : State :=
  { owing with
    store := { owing.store with queue := [{ data := .holdLimit 300, port := .T, request := 0, failures := failures }] }
    ports := { owing.ports with t := { owing.ports.t with slot := some { owed0 with waitWrite := true } } } }

/-! ### Witnesses: for every statement with hypotheses, a state and operands that meet each clause's -/

/-- The invariants hold of a state that steps. -/
theorem test_witness_invariants :
    let s : State := { base with pending := [.meterPulse], ports := { base.ports with l := PortL.reset } }
    SeriesOk s ∧ WarningOk s ∧ CablewayOk s ∧ NoticesOk s ∧ ArchiveOk s ∧ ShiftsOk s ∧ ∃ t, step s = .next t := by
  refine ⟨⟨by decide, by decide, ?_, ?_⟩, ⟨by decide, by decide, by decide, by decide, by decide, by decide⟩,
    ⟨by decide, by decide, by decide, ?_, by decide, ?_, by decide, by decide, ?_, by decide, by decide⟩,
    ⟨by decide, by decide, by decide, ?_⟩, ⟨by decide, ?_, ?_, by decide, by decide⟩,
    ⟨⟨by decide, by decide⟩, fun _ => ⟨by decide, by decide⟩, ?_⟩, ⟨_, rfl⟩⟩
  · intro o h; cases h
  · intro h; cases h
  · intro b h; cases h; decide
  · intro r h; cases h
  · intro m h; cases h
  · intro h; exact absurd h (by decide)
  · intro n h; cases h
  · intro n h; cases h; decide
  · intro w h; cases h

/-- StepOnAnEmptyQueueIsOneHundredth. -/
theorem test_witness_step : base.pending = [] := rfl

/-- RequestsReadBackFromTheirBytes, at both ends of a signed field. -/
theorem test_witness_readBack :
    (Request.setShift (some ⟨4294967295, -32768⟩)).fits = true ∧
      requestPayload (.setShift (some ⟨4294967295, -32768⟩)) = some [0xFF#8, 0xFF#8, 0xFF#8, 0xFF#8, 0x80#8, 0x00#8] ∧
      (Request.manualReading (some 32767)).fits = true ∧ requestPayload (.manualReading (some 32767)) = some [0x7F#8, 0xFF#8] ∧
      (Request.ackLevel (some (some .warn))).fits = true ∧ requestPayload (.ackLevel (some (some .warn))) = some [2#8] := by decide

/-- The headers of MessagesWrittenOutAreJudged that fail their check, all ones and not: what their check byte is, whatever stood
there (R202). -/
theorem test_failingHeader :
    (be 4 max32 ++ beInt 4 (-1)) = List.replicate 8 0xFF#8 ∧ headerCheck max32 (-1) = 0x3E#8 ∧
      PageHeader.check { sequence := max32, elevation := -1, checkOk := false, closed := true, retiredMark := false } = 0xFF#8 ∧
      (failingByte 0x3E#8 0x3E#8 = 0x3F#8 ∧ failingByte 0x00#8 0x3E#8 = 0x00#8) ∧ (1 : Nat) ≤ max32 ∧ (-9999999 : Int) ≤ -1 := by
  decide +kernel

/-- ARequestFromAPortNotAllowedIsRefused and MalformedRequestsAreRefused. -/
theorem test_witness_refusals :
    (Instr.forceClaim .L 5 true ⟨0, 0⟩).sent = some (.L, 5, .forceClaim true) ∧ base.takes .L = true ∧
      permitted .L (.forceClaim true) = false ∧
      (Instr.status .T 5 false).sent = some (.T, 5, .status false) ∧ base.takes .T = true ∧ permitted .T (.status false) = true ∧
      requestPayload (.status false) = none ∧ Request.status false ≠ .loadPlan none := by decide

/-- The same, the requests by port: one of the holder's, one of Port F's, and one of every port's. -/
theorem test_permitted :
    [Port.L, .T, .F].map (fun p => permitted p (.holdAlive true)) = [true, false, true] ∧
      [Port.L, .T, .F].map (fun p => permitted p (.setCableway none)) = [false, false, true] ∧
      [Port.L, .T, .F].map (fun p => permitted p (.status true)) = [true, true, true] := by decide

/-- AMessageOnAnOwedSlotIsAnsweredBusy and ARequestInAFrameOfAnOwedSlotIsDiscarded. -/
theorem test_witness_owed :
    owing.hears .T = true ∧ (owing.ports.slot .T).isSome = true ∧ (owing.ports.async .T).ready.all (·.answers) = true ∧
      owing.hears .F = true ∧ (owing.ports.slot .F).isSome = true ∧ (owing.ports.async .F).ready.all (·.answers) = true ∧
      (Instr.status .T 5 true).sent = some (AsyncPort.T.port, 5, .status true) ∧
      (Instr.status .L 5 true).sent = some (.L, 5, .status true) ∧ owing.ports.l.frame = some frame0 ∧
      frame0.response.answers = false ∧ owing.ports.l.slot.isSome = true := by decide

/-- The silence timer and the SILENT link of AMessageOnAnOwedSlotIsAnsweredBusy. -/
theorem test_witness_received :
    base.warning.silent = false ∧ ({ base with warning := { base.warning with silent := true } } : State).archive.hasRoom = true := by
  decide

/-- AFrameBeginsWithTheResponseItFinds: a ready answer, WAIT, FRAME_ERROR, idle. -/
theorem test_witness_frameBegin :
    let free : PortL := PortL.reset
    let r : Response := { frame0.response with answers := true }
    ([{ free with slot := some owed0, answer := some r }, { free with slot := some owed0 }, { free with frameError := true }, free]
        : List PortL).all (fun l =>
      let s : State := { base with ports := { base.ports with l := l } }
      decide (s.startingUp = false ∧ s.ports.l.frame = none)) = true := by decide

/-- The same, the attention line: before the first frame, after a frame, and after a change of one item. -/
theorem test_witness_attention :
    let s : State := { base with ports := { base.ports with l := PortL.reset } }
    s.ports.l.lastSummary = none ∧
      (match exec .frameBegin s with
        | .next t =>
          t.ports.l.lastSummary.isSome && !t.attention && ({ t with clock := { t.clock with quality := .set } } : State).attention
        | _ => false) = true := by decide

/-- The same, the judging of inbound bytes: two and three bytes after the code, the greatest length field and one above it, a body
that ends before its check byte, and a wrong and a right check with a byte after it. -/
theorem test_witness_inbound :
    (0x23#8 : Byte) ≠ 255#8 ∧ ([0x09#8, 0x00#8] : List Byte).length < 3 ∧ Inbound.judge [0x23#8, 0x09#8, 0x00#8] = .faulty ∧
      Inbound.judge [0x23#8, 0x09#8, 0x00#8, 0x00#8] = .faulty ∧ 576 < 256 * (0x02#8 : Byte).toNat + (0x41#8 : Byte).toNat ∧
      256 * (0x02#8 : Byte).toNat + (0x40#8 : Byte).toNat ≤ 576 ∧
      Inbound.judge [0x23#8, 0x09#8, 0x00#8, 0x00#8, 0x00#8, 0x07#8] = .faulty ∧
      Inbound.judge (message 0x23#8 0x09#8 [] ++ [0x07#8]) = .request 0x09#8 (.status true) := by decide +kernel

/-- AFrameEndsWithItsResponseSent: an empty frame; a faulty one, a code that names no request and a request on a FREE slot; and a
slot that stays OWED. -/
theorem test_witness_frameEnd :
    base.ports.l.frame = some frame0 ∧ Inbound.judge [0xFF#8, 0xFF#8, 0xFF#8, 0xFF#8, 0xFF#8] = .empty ∧
      Inbound.judge [0x23#8, 0x09#8, 0x00#8, 0x00#8, 0x00#8] = .faulty ∧ base.ports.l.slot = none ∧
      Inbound.judge (message 0x26#8 0x09#8 []) = .unknown 0x26#8 0x09#8 ∧
      Inbound.judge (message 0x23#8 0x09#8 []) = .request 0x09#8 (.status true) ∧
      (Instr.status .L 0x09#8 true).sent = some (.L, 0x09#8, .status true) ∧ (Instr.status .L 0x09#8 true).lines = none ∧
      frame0.response.answers = false ∧ owing.ports.l.frame = some frame0 ∧ owing.ports.l.slot.isSome = true := by decide +kernel

/-- The parity and the levels of a byte as Ports T and F carry it (R183), and the bits of bytes on Port L (R179). -/
theorem test_characters :
    evenParity 0x00#8 = false ∧ evenParity 0x01#8 = true ∧ evenParity 0xFF#8 = false ∧
      (Character.of 0x01#8).levels = [false, true, false, false, false, false, false, false, false, true, true] ∧
      (Character.mk 0x01#8 false).sound = false ∧ Character.ofLevels (List.replicate 11 false) = none ∧
      Character.ofLevels (Character.mk 0xA5#8 true).levels = some ⟨0xA5#8, true⟩ ∧
      clockedBits [0x81#8, 0x40#8] =
        [true, false, false, false, false, false, false, true, false, true, false, false, false, false, false, false] ∧
      clockedBytes (clockedBits [0x23#8, 0x0A#8] ++ [true, true, false]) = [0x23#8, 0x0A#8] := by decide

/-- The levels a response puts on the line of Port T or F: a break of a byte time, then characters of eleven levels (R183). -/
theorem test_transmission_levels :
    (Transmission.response frame0).levels.take 13 = List.replicate 11 false ++ [true, false] ∧
      (Transmission.response frame0).levels.length = 12 + 11 * frame0.bytes.length := by decide +kernel

/-- The bytes of a damaged record (R202): neither erased space nor a check that passes, whatever stood there; an erased kind byte and
a check that passes are changed, and other bytes are not. -/
theorem test_damagedBytes :
    let q := recordBytes (.gap ⟨0, 0, 0, 1⟩) 7 5
    checkOf q = (q[11]?).getD 0 ∧ lengthField q = q.length ∧ damagedBytes q [] = q.set 11 (checkOf q + 1) ∧
      damagedBytes (q.set 0 0xFF#8) [] = q.set 0 0x00#8 ∧ damagedBytes (q.set 7 0x01#8) [] = q.set 7 0x01#8 := by decide +kernel

/-- A page of one record: its header, the record, and erased space behind it; and a page whose used part ends in a damaged one. -/
theorem test_page_bytes :
    let r (ok : Bool) : StoredRecord := { record := .gap ⟨0, 0, 0, 1⟩, time := 5, index := 7, intact := ok }
    let p : Page := { page0 .opened with records := [r true] }
    p.bytes.take 44 = p.headerBytes ++ recordBytes (.gap ⟨0, 0, 0, 1⟩) 7 5 ++ List.replicate 4 0xFF#8 ∧
      16 + (p.records.map (fun r => r.record.length)).sum ≤ 4096 ∧
      16 + (({ p with records := [r true, r false] } : Page).records.map (fun r => r.record.length)).sum ≤ 4096 := by
  decide +kernel

/-- The characters of a STATUS request on Port T or F. -/
def statusLine : List Character := (message 0x23#8 0x09#8 []).map Character.of

/-- BreaksGapsAndFaultsEndAMessage, the judging: a message not ended, in its fields and one byte before its check; the greatest
length field and one above it; a parity error, a wrong check; a whole message with a character after it; and a code that names no
request, all ones among them. -/
theorem test_witness_line :
    Inbound.judgeLine [] = .empty ∧ Inbound.judgeLine (statusLine.take 3) = .empty ∧ Inbound.judgeLine (statusLine.take 4) = .empty ∧
      Inbound.judgeLine (([0x23#8, 0x09#8, 0x02#8, 0x40#8] : List Byte).map Character.of) = .empty ∧
      Inbound.judgeLine (([0x23#8, 0x09#8, 0x02#8, 0x41#8] : List Byte).map Character.of) = .faulty ∧
      Inbound.judgeLine (⟨0x23#8, false⟩ :: statusLine.drop 1) = .faulty ∧
      Inbound.judgeLine (statusLine.take 4 ++ [Character.of 0x00#8]) = .faulty ∧
      Inbound.judgeLine (statusLine ++ [⟨0xFF#8, true⟩]) = .request 0x09#8 (.status true) ∧
      Inbound.judgeLine ((message 0xFF#8 0x09#8 []).map Character.of) = .unknown 0xFF#8 0x09#8 := by decide +kernel

/-- The same, the ports: one that hears and one that does not, an immediate answer waiting, and a message given in two parts. -/
theorem test_witness_frameError :
    let a : PortAsync :=
      { base.ports.f with ready := [{ code := 0, tag := 0, result := .frameError, payload := .empty, answers := false }] }
    State.reset.hears .F = false ∧ State.reset.startingUp = true ∧ base.hears .F = true ∧ base.ports.f.heard = [] ∧
      a.ready.all (·.answers) = false ∧ ((base.frameError .F (statusLine.take 3)).ports.f.heard = statusLine.take 3) ∧
      ((base.frameError .F (statusLine.take 3)).frameError .F (statusLine.drop 3)).ports.slot .F =
        (base.request .F 0x09#8 (.status true)).ports.slot .F ∧
      (Instr.status .F 0x09#8 true).sent = some (AsyncPort.F.port, 0x09#8, .status true) := by decide +kernel

/-- BreaksGapsAndFaultsEndAMessage, AResponseSentFreesItsSlot and ANoticePacketRemovesItsNotice. -/
theorem test_witness_lines :
    base.startingUp = false ∧ base.hears .T = true ∧ (base.ports.async .T).ready.all (·.answers) = true ∧
      base.hears .F = true ∧ (base.ports.async .F).ready.all (·.answers) = true ∧
      (({ base with ports := { base.ports with f := { base.ports.f with sending := some (.response frame0) } } } : State).ports.async
        .F).sending = some (.response frame0) ∧
      ({ base with
          ports :=
            { base.ports with
              t := { base.ports.t with sending := some (.notice ⟨0, .archive .degraded 16 240, true, false⟩) } } } : State).ports.t.sending
        = some (.notice ⟨0, .archive .degraded 16 240, true, false⟩) := by decide

/-- A queue of 16 notices, the first in transmission, the last of a kind of their own. -/
def fullQueue : NoticeQueue :=
  { held :=
      ⟨0, .archive .degraded 16 240, true⟩ :: List.replicate 14 ⟨0, .gauging 1 .complete none none false, false⟩ ++
        [⟨0, .sensor .channelOk .LA none 0, false⟩]
    overflowed := false }

/-- ANoticePacketRemovesItsNotice: the next packet's notice; joining, the replacement of a held LEVEL notice by a lower and by a
higher peak, and the two losses of a full queue. -/
theorem test_witness_notices :
    let level (peak : Level) : Notice := ⟨0, .level .watch .clear peak, true⟩
    dropSent fullQueue.held =
        List.replicate 14 ⟨0, .gauging 1 .complete none none false, false⟩ ++ ⟨0, .sensor .channelOk .LA none 0, false⟩ :: [] ∧
      noticeKind (.sensor .channelOk .LA none 0) < noticeKind (.gauging 1 .complete none none false) ∧
      (List.replicate 15 (level .watch)).length < 16 ∧ (level .watch).isLevel = true ∧
      levelRank .watch ≤ levelRank .alarm ∧ levelRank .watch < levelRank .warn ∧ 16 ≤ fullQueue.held.length ∧
      (∀ m ∈ fullQueue.held, m.isLevel = false) ∧
      fullQueue.hand 5 (.level .warn .watch .warn) =
        ({ held := ⟨0, .archive .degraded 16 240, true⟩ :: List.replicate 13 ⟨0, .gauging 1 .complete none none false, false⟩ ++
              [⟨0, .sensor .channelOk .LA none 0, false⟩, ⟨5, .level .warn .watch .warn, false⟩]
           overflowed := true }, true) := by decide

/-- The LEVEL notice held is replaced in its place, with the higher of the two peaks (R189). -/
theorem test_level_replaced :
    (NoticeQueue.mk [⟨0, .level .alarm .warn .alarm, true⟩, ⟨1, .archive .degraded 16 240, false⟩] false).hand 9 (.level .clear .alarm .clear)
      = ({ held := [⟨9, .level .clear .alarm .alarm, false⟩, ⟨1, .archive .degraded 16 240, false⟩], overflowed := false }, false) := by
  decide

/-- ReadsAreAnsweredAtOnce: every section, and the greatest counts. -/
theorem test_witness_reads :
    base.takes .T = true ∧
      ([(.acquisition, none), (.warning, none), (.cableway, none), (.rating, some 1), (.rating, some 4), (.shifts, none),
          (.datum, none)] : List (SettingsSection × Option Nat)).all
        (fun x => ((base.heard .T).section x.1 x.2).isSome) = true ∧
      (64 : Nat) ≤ 64 ∧ (32 : Nat) ≤ 32 ∧ (KindFilter.absent ≠ .unknown) := by decide

/-- The same: the refusals. -/
theorem test_witness_reads_refused :
    64 < (65 : Nat) ∧ 32 < (33 : Nat) ∧ (base.heard .T).section .rating none = none ∧
      (base.heard .T).section .rating (some 0) = none ∧ (base.heard .T).section .rating (some 5) = none := by decide

/-- The same, READ_ARCHIVE: two pages, the first of which ends in a damaged record, read from before the oldest record; the count
reached with the damaged record next; and a filter that nothing passes. -/
theorem test_readArchive :
    let r (i : Nat) (ok : Bool) : StoredRecord := { record := .obs (obs0 5 none), time := 5, index := i, intact := ok }
    let g (i : Nat) : StoredRecord := { record := .gap ⟨0, 0, 0, 1⟩, time := 5, index := i, intact := true }
    let p (n : Nat) (st : PageStatus) (l : List StoredRecord) : Page :=
      { status := st, header := some ⟨n, 0, true, false, false⟩, records := l }
    let a : Archive := { base.archive with pages := [(3, p 2 .opened [r 9 true]), (4, p 1 .full [r 5 true, g 6, r 0 false])] }
    a.read 4 3 .absent = ⟨[r 5 true, g 6, r 9 true], 10, true, true, true, some 7⟩ ∧
      a.read 5 2 .absent = ⟨[r 5 true, g 6], 7, false, false, false, none⟩ ∧
      a.read 6 2 (.kind .gap) = ⟨[g 6], 10, false, true, true, some 7⟩ ∧ a.read 10 1 .absent = ⟨[], 10, false, false, false, none⟩ ∧
      a.read 0 1 (.kind .time) = ⟨[], 10, true, true, true, some 7⟩ := by decide

/-- The same, and AVerificationChecksItsRange: a record cut off behind the newest durable one is neither met nor in a range, until a
newer record stands on a later page; an archive whose only record is cut off holds none. -/
theorem test_newest_durable :
    let r (i : Nat) (ok : Bool) : StoredRecord := { record := .obs (obs0 5 none), time := 5, index := i, intact := ok }
    let p (n : Nat) (st : PageStatus) (l : List StoredRecord) : Nat × Page :=
      (n, { status := st, header := some ⟨n, 0, true, false, false⟩, records := l })
    let a : Archive := { base.archive with pages := [p 3 .full [r 7 true, r 8 false]] }
    let b : Archive := { base.archive with pages := [p 3 .full [r 7 true, r 8 false], p 4 .opened [r 10 true]] }
    let c : Archive := { base.archive with pages := [p 3 .full [r 8 false]] }
    a.read 7 3 .absent = ⟨[r 7 true], 8, false, false, false, none⟩ ∧ a.read 8 3 .absent = ⟨[], 8, false, false, false, none⟩ ∧
      a.verifyRange 8 65535 = [] ∧ (a.verifyRange 0 65535).map (·.index) = [7] ∧ c.read 0 1 .absent = ⟨[], 0, false, false, false, none⟩ ∧
      c.verifyRange 0 65535 = [] ∧ b.read 7 3 .absent = ⟨[r 7 true, r 10 true], 11, false, true, true, some 8⟩ ∧
      (b.verifyRange 8 65535).map (·.index) = [8, 10] := by decide

/-- The same, STATUS: a run PAUSED, timers that run, a deadline RUNNING and EXPIRED, a SILENT link, and a gauging in the list. -/
theorem test_witness_status :
    let s : State :=
      { running .F .paused (run0 .attended) none with
        elapsed := 5, warning := { warned.warning with silenceTimer := some 204 }, lau := (holding later .held).lau }
    let u : State := { gauged .pending with warning := { warned.warning with silent := true, deadline := .expired } }
    s.cable.state = .paused ∧ s.cable.pauseTimer = some 900 ∧ s.warning.deadline = .running 60000 ∧ s.warning.silent = false ∧
      s.lau.hold.timer = some 180000 ∧ s.lau.status.get .LA = some ⟨false, 0, 0⟩ ∧ s.lau.status.get .LB = none ∧
      s.statusAnswer.pauseRemaining = some 8 ∧ s.statusAnswer.deadlineRemaining = some 599 ∧
      s.statusAnswer.silenceRemaining = some 1 ∧ s.statusAnswer.holdRemaining = some 1799 ∧ s.statusAnswer.vertical = some 2 ∧
      s.statusAnswer.runVerticals = some 0 ∧ s.statusAnswer.newestGauging = none ∧ u.warning.silent = true ∧
      u.statusAnswer.silenceRemaining = none ∧ u.statusAnswer.deadline = .expired ∧ u.statusAnswer.newestGauging = some 4 ∧
      u.statusAnswer.pauseRemaining = none ∧ u.statusAnswer.runVerticals = none := by decide

/-- ReadGaugingAnswersFromTheList: found by id and as the newest, not found, and COMPUTING. -/
theorem test_witness_readGauging :
    (gauged .pending).takes .T = true ∧ (gauged .pending).gauging.result ≠ .computing ∧
      (gauged .pending).gauging.list.getLast? = some ⟨gauging0 .pending, some 3⟩ ∧
      (gauged .pending).gauging.list.find? (fun e => e.record.id = 4) = some ⟨gauging0 .pending, some 3⟩ ∧
      (gauged .pending).gauging.list.find? (fun e => e.record.id = 5) = none ∧ base.gauging.list.getLast? = none ∧
      base.gauging.result ≠ .computing ∧
      ({ base with gauging := { base.gauging with result := .computing } } : State).takes .L = true := by decide

/-- The same, a read deferred: the record is about to be durable. -/
theorem test_witness_deferredRead :
    let s : State :=
      { archiving (.record 0) [queued .gauging] with
        gauging := { base.gauging with result := .computing, computing := some (gauging0 .pending) }
        ports := { owing.ports with t := { owing.ports.t with slot := some { owed0 with waitGauging := some 4 } } } }
    s.ports.slot .T = some { owed0 with waitGauging := some 4 } ∧ s.gauging.computing = some (gauging0 .pending) ∧
      s.archive.op = .record 0 ∧ s.archive.queue.head? = some (queued .gauging) ∧
      (match exec .recordProgrammed s with
        | .next t => (match t.ports.t.sending with | some (.response r) => decide (r.response.result = .ok) | _ => false)
        | _ => false) = true := by decide

/-- The place of the record of index 7 in the archive below. -/
def item7 : RangeItem := { page := 0, sequence := 1, place := 0, index := 7 }

/-- An archive whose open page holds one record, with a verification on Port T. -/
def verifying (remaining : List RangeItem) (intact : Bool) : State :=
  { owing with
    archive :=
      { base.archive with
        pages := [(0, { page0 .opened with records := [⟨.obs (obs0 5 none), 5, 7, intact⟩] })]
        verifications := ⟨none, some ⟨remaining, 0, 0, false⟩, none⟩ } }

/-- AVerificationChecksItsRange: an empty range, a range, a record that passes, the end of the range. -/
theorem test_witness_verify :
    (base.heard .T).archive.verifyRange 0 65535 = [] ∧ (verifying [] true).archive.standing.all (·.intact) = true ∧
      (({ verifying [] true with ports := base.ports } : State).heard .T).archive.verifyRange 7 1 = [item7] ∧
      ({ verifying [] true with ports := base.ports } : State).takes .T = true ∧
      (verifying [item7] true).archive.verifications.get .T = some ⟨[item7], 0, 0, false⟩ ∧
      (verifying [item7] true).archive.stillHeld item7 = true ∧ (verifying [item7] true).archive.passes item7 = true ∧
      (verifying [] true).archive.verifications.get .T = some ⟨[], 0, 0, false⟩ ∧
      (verifying [] true).ports.slot .T = some owed0 ∧ owed0.answered = false := by decide

/-- The same: a record that fails, behind one of a page erased since (R171); no index of the failing one is computed again. -/
theorem test_witness_verify_failing :
    let gone : RangeItem := { page := 255, sequence := 0, place := 0, index := 6 }
    let s := verifying [gone, item7] false
    [gone].all (fun i => !s.archive.stillHeld i) = true ∧ s.archive.stillHeld item7 = true ∧ s.archive.passes item7 = false ∧
      s.archive.verifyAnswer .T = some { firstBad := some 7, checked := 0, passed := 1, earlierGone := false } := by decide

/-- SetChannelReplacesTheRecord: the ends of the ranges, enabling, disabling, and a preference taken. -/
theorem test_witness_setChannel :
    (ChannelFields.mk (some .LB) (some true) 3 (-30000) 1).channel = some .LB ∧
      (1 ≤ 3 ∧ 3 ≤ 3 ∧ (-30000 : Int) ≤ -30000 ∧ (-30000 : Int) ≤ 30000 ∧ 1 ≤ 1 ∧ 1 ≤ 60000) ∧
      ((base.heard .T).lau.channels.get .LA).enabled = true ∧ ((base.heard .T).lau.channels.get .LA).preference = 1 ∧
      ((base.heard .T).lau.channels.get .LC).enabled = false := by decide

theorem test_witness_setChannel_free :
    true = true → ∀ d : Channel, d ≠ .LB → ((base.heard .T).lau.channels.get d).enabled = true →
      ((base.heard .T).lau.channels.get d).preference ≠ 3 := by
  intro _ d; cases d <;> decide

/-- SettingsChangesAreWrittenThrough: the ends of the ranges; SET_CABLEWAY in IDLE and outside it. -/
theorem test_witness_settings :
    (300 ≤ 300 ∧ 300 ≤ 7200) ∧ (300 ≤ 7200 ∧ 7200 ≤ 7200) ∧ (299 < 300 ∨ 7200 < 299) ∧
      (60 ≤ 60 ∧ 60 ≤ 3600 ∧ 600 ≤ 86400 ∧ 86400 ≤ 86400) ∧ base.takes .F = true ∧ (base.heard .F).cable.state = .idle ∧
      (withCable (claimed .F)).takes .F = true ∧ ((withCable (claimed .F)).heard .F).cable.state ≠ .idle := by decide

theorem test_witness_setCableway :
    let c : CablewaySettings := ⟨600000, 20000, -2000, 50, 2000, 15, 900, 60, 600⟩
    (c.span = 0 ∨ (10000 ≤ c.span ∧ c.span ≤ 600000)) ∧ -2000 ≤ c.unattendedLimit ∧ c.unattendedLimit ≤ c.attendedLimit ∧
      c.attendedLimit ≤ 20000 ∧ 50 ≤ c.weightOffset ∧ c.weightOffset ≤ 500 ∧ 300 ≤ c.twoPointMinimum ∧
      c.twoPointMinimum ≤ 2000 ∧ 3 ≤ c.deadMan ∧ c.deadMan ≤ 15 ∧ 60 ≤ c.pauseLimit ∧ c.pauseLimit ≤ 900 ∧
      60 ≤ c.traverseTimeout ∧ c.traverseTimeout ≤ 1800 ∧ 30 ≤ c.reelTimeout ∧ c.reelTimeout ≤ 600 := by decide

/-- SET_CABLEWAY out of range, field by field, one past each limit. -/
theorem test_witness_setCableway_range :
    ([⟨9999, 0, 0, 50, 300, 3, 60, 60, 30⟩, ⟨600001, 0, 0, 50, 300, 3, 60, 60, 30⟩, ⟨0, 20001, 0, 50, 300, 3, 60, 60, 30⟩,
        ⟨0, 0, -2001, 50, 300, 3, 60, 60, 30⟩, ⟨0, -1, 0, 50, 300, 3, 60, 60, 30⟩, ⟨0, 0, 0, 49, 300, 3, 60, 60, 30⟩,
        ⟨0, 0, 0, 501, 300, 3, 60, 60, 30⟩, ⟨0, 0, 0, 50, 299, 3, 60, 60, 30⟩, ⟨0, 0, 0, 50, 2001, 3, 60, 60, 30⟩,
        ⟨0, 0, 0, 50, 300, 2, 60, 60, 30⟩, ⟨0, 0, 0, 50, 300, 16, 60, 60, 30⟩, ⟨0, 0, 0, 50, 300, 3, 59, 60, 30⟩,
        ⟨0, 0, 0, 50, 300, 3, 901, 60, 30⟩, ⟨0, 0, 0, 50, 300, 3, 60, 59, 30⟩, ⟨0, 0, 0, 50, 300, 3, 60, 1801, 30⟩,
        ⟨0, 0, 0, 50, 300, 3, 60, 60, 29⟩, ⟨0, 0, 0, 50, 300, 3, 60, 60, 601⟩] : List CablewaySettings).all (fun c =>
      decide ((0 < c.span ∧ c.span < 10000) ∨ 600000 < c.span ∨ c.unattendedLimit < -2000 ∨ c.attendedLimit < c.unattendedLimit ∨
        20000 < c.attendedLimit ∨ c.weightOffset < 50 ∨ 500 < c.weightOffset ∨ c.twoPointMinimum < 300 ∨
        2000 < c.twoPointMinimum ∨ c.deadMan < 3 ∨ 15 < c.deadMan ∨ c.pauseLimit < 60 ∨ 900 < c.pauseLimit ∨
        c.traverseTimeout < 60 ∨ 1800 < c.traverseTimeout ∨ c.reelTimeout < 30 ∨ 600 < c.reelTimeout) && !cablewayValid c) = true := by
  decide

/-- SetAcquisitionReplacesTheRecord: the same interval, a shorter one still ahead, a shorter one past with an acquisition in
flight, a record out of range. -/
theorem test_witness_setAcquisition :
    let f : AcqSettings := ⟨10, 15, 300, 500, 3600, 3600, 15, 15⟩
    let g : AcqSettings := ⟨0, 3, 3600, 5, 15, 15, 15, 15⟩
    let s : State := { acquiring base (acq0 .burst 1) with elapsed := 1500 }
    let h := (s.sample ⟨0, 0⟩).heard .T
    (f.warmUp ≤ 10 ∧ 3 ≤ f.burst ∧ f.burst ≤ 15 ∧ f.burst % 2 = 1 ∧ 300 ≤ f.window ∧ f.window ≤ 3600 ∧ 5 ≤ f.tolerance ∧
        f.tolerance ≤ 500 ∧ 15 ≤ f.alarm ∧ f.alarm ≤ f.warn ∧ f.warn ≤ f.watch ∧ f.watch ≤ f.clear ∧ f.clear ≤ 3600) ∧
      g.burst % 2 = 1 ∧ s.takes .T = true ∧ h.lau.lastStart = some 0 ∧
      h.elapsed < 0 + 100 * intervalAt f h.warning.level ∧
      intervalAt g h.warning.level ≠ intervalAt h.lau.settings h.warning.level ∧ h.lau.acq.isSome = true ∧
      0 + 100 * intervalAt g h.warning.level ≤ h.elapsed ∧ (AcqSettings.mk 11 3 300 50 900 300 60 15).warmUp > 10 := by decide

/-- The same with no acquisition in flight: in the second of the newest observation, and in a later one. -/
theorem test_witness_setAcquisition_start :
    let g : AcqSettings := ⟨0, 3, 3600, 5, 15, 15, 15, 15⟩
    let on (s : State) : State := (({ s with elapsed := 1500, lau := { s.lau with lastStart := some 0 } } : State).sample ⟨0, 0⟩).heard .T
    intervalAt g (on later).warning.level ≠ intervalAt (on later).lau.settings (on later).warning.level ∧
      (on later).lau.lastStart = some 0 ∧ 0 + 100 * intervalAt g (on later).warning.level ≤ (on later).elapsed ∧
      (on sameSec).sameSecond = true ∧ (on later).sameSecond = false ∧ (on later).lau.acq = none ∧
      (on later).lau.hold.state ≠ .held ∧ ((on later).lau.channels.get .LA).enabled = true := by decide

/-- SetThresholdReplacesTheRecord: malformed, out of range, the same level, and a lower one. -/
theorem test_witness_setThreshold :
    let f : ThresholdFields := ⟨1, some true, some .stage, 20000, 22000, 10, some .alarm⟩
    let h := (warned.sample ⟨0, 0⟩).heard .T
    let r : ThresholdSettings := ⟨true, .stage, 20000, 22000, 10, .alarm⟩
    let w : Warning := { h.warning with settings := h.warning.settings.set 0 r, live := h.warning.live.set 0 ⟨false, 0⟩ }
    let b := (base.sample ⟨0, 0⟩).heard .T
    let v : Warning := { b.warning with settings := b.warning.settings.set 0 r, live := b.warning.live.set 0 ⟨false, 0⟩ }
    warned.takes .T = true ∧ f.number = (0 : Fin 8).val + 1 ∧
      ((-2000 : Int) ≤ f.level ∧ f.level ≤ 20000 ∧ 0 ≤ f.margin ∧ -2000 ≤ f.level - f.margin ∧ 1 ≤ f.persistence ∧ f.persistence ≤ 10) ∧
      v.formed = b.warning.level ∧ levelRank w.formed < levelRank h.warning.level ∧ h.hasRoom = true ∧ h.cable.run = none ∧
      h.lau.lastStart = none ∧ (20000 : Int) < 20001 ∧ 8 < 9 := by decide

/-- CommitRatingPlacesTheVersion: frozen, a malformed list, a duplicate, a full store with and without a superseded version, and
a vacant slot. -/
theorem test_witness_commitRating :
    let l : List RatingPoint := [⟨-2000, 0⟩, ⟨20000, 40000000⟩]
    fullStore.takes .T = true ∧ (fullStore.heard .T).rating.frozen = false ∧ pointsValid l = true ∧
      pointsValid [⟨0, 5⟩, ⟨10, 4⟩] = false ∧ (∃ v ∈ (fullStore.heard .T).rating.versions, v.effective = 1000000) ∧
      (∀ v ∈ (fullStore.heard .T).rating.versions, v.effective ≠ 4500000) ∧ (fullStore.heard .T).rating.vacantSlot = none ∧
      namedForRemoval (fullStore.heard .T).rating.versions (fullStore.heard .T).clock.time = some (version 1 1000000) ∧
      (fullStore.heard .T).rating.slotOf 1 = some 0 ∧ (fullStore.heard .T).archive.hasRoom = true ∧
      (∀ v ∈ (futureStore.heard .T).rating.versions, v.effective ≠ 3500000) ∧ (futureStore.heard .T).rating.vacantSlot = none ∧
      namedForRemoval (futureStore.heard .T).rating.versions (futureStore.heard .T).clock.time = none ∧
      (base.heard .T).rating.vacantSlot = some 0 ∧ (base.heard .T).archive.hasRoom = true ∧
      ({ base with rating := { base.rating with frozen := true } } : State).takes .T = true := by decide

/-- The same: the id after 255 and one passed over, after 0, and the write number. -/
theorem test_newId :
    fullStore.rating.lastId ≤ 255 ∧ (255 + 1) % 255 + 1 = 2 ∧ fullStore.rating.newId = 2 ∧
      ({ fullStore.rating with lastId := 252 } : RatingStore).newId = 2 ∧ base.rating.newId = 1 ∧
      fullStore.rating.nextWrite = 5 ∧ base.rating.nextWrite = 1 := by decide

/-- DeleteAndFreezeChangeTheRatingStore: not held, in force, and deleted. -/
theorem test_witness_deleteRating :
    let h := fullStore.heard .T
    h.rating.versions.all (fun v => v.id ≠ 9) = true ∧ h.rating.versions.find? (fun v => v.id = 254) = some (version 254 3000000) ∧
      inForce h.rating.versions h.clock.time = some (version 254 3000000) ∧
      h.rating.versions.find? (fun v => v.id = 255) = some (version 255 5000000) ∧
      inForce h.rating.versions h.clock.time ≠ some (version 255 5000000) ∧ h.archive.hasRoom = true ∧
      h.rating.slotOf 255 = some 3 ∧ h.rating.frozen = false := by decide

/-- DatumRequestsChangeTheDatum: FIXED, out of range, and the ends of the range. -/
theorem test_witness_datum :
    base.takes .F = true ∧ (base.heard .F).rating.fixed = false ∧ (base.heard .F).archive.hasRoom = true ∧
      (-9999999 : Int) ≤ -9999999 ∧ (9999999 : Int) ≤ 9999999 ∧ (9999999 : Int) < 10000000 ∧
      ({ base with rating := { base.rating with fixed := true } } : State).takes .F = true := by decide

/-- ShiftsAreInsertedInOrder and ShiftRequestsChangeTheTable: a held time, room, and a full table. -/
theorem test_witness_shifts :
    let l : List ShiftEntry := (List.range 16).map (fun k => ⟨100000 * (k + 1), 10, .manual⟩)
    l.length ≤ 16 ∧ shiftsIncrease l = true ∧ (∃ old ∈ l, old.time = 200000) ∧ (∀ a ∈ l, a.time ≠ 50000) ∧ l.length = 16 ∧
      (∀ a ∈ l.drop 1, a.time ≠ 50000) ∧ (l.drop 1).length < 16 ∧
      (insertShift l ⟨50000, 12, .manual⟩).2 = (none, some ⟨100000, 10, .manual⟩) ∧
      base.takes .L = true ∧ (base.heard .L).archive.hasRoom = true ∧ (-1000 : Int) ≤ -1000 ∧ (1000 : Int) < 1001 ∧
      (base.heard .L).rating.shifts.all (fun a => a.time ≠ 5) = true ∧
      l.find? (fun a => a.time = 100000) = some ⟨100000, 10, .manual⟩ := by decide

/-- GaugingsAreDisposedOfOnce: not held, disposed of already, and PENDING with its candidate. -/
theorem test_witness_dispositions :
    let h := (gauged .pending).heard .T
    (gauged .pending).takes .T = true ∧ h.gauging.list.all (fun e => e.record.id ≠ 5) = true ∧
      h.gauging.list.find? (fun e => e.record.id = 4) = some ⟨gauging0 .pending, some 3⟩ ∧
      (gauging0 .pending).disposition = .pending ∧ (gauging0 .pending).candidate = some 215 ∧ h.archive.hasRoom = true ∧
      ((gauged .accepted).heard .T).gauging.list.find? (fun e => e.record.id = 4) = some ⟨gauging0 .accepted, some 3⟩ ∧
      (gauging0 .accepted).disposition ≠ .pending := by decide

/-- TheLookupInterpolates: a segment's foot, its last millimetre, the last point, below the first, above the last. -/
theorem test_witness_lookup :
    pointsValid ([⟨800, 0⟩, ⟨1000, 0⟩] ++ ⟨1400, 25000⟩ :: ⟨3000, 600000⟩ :: [⟨6000, 12000000⟩]) = true ∧
      (1400 : Int) ≤ 1400 ∧ (2999 : Int) < 3000 ∧ pointsValid ([⟨800, 0⟩, ⟨1000, 0⟩] ++ [⟨1400, 25000⟩]) = true ∧
      (799 : Int) < 800 ∧ pointsValid ([⟨800, 0⟩] ++ [⟨1000, 0⟩, ⟨1400, 25000⟩]) = true ∧ (1400 : Int) < 1401 ∧
      25000 + ((25000 - 0) * ((20000 : Int) - 1400).toNat + ((1400 : Int) - 1000).toNat / 2) / ((1400 : Int) - 1000).toNat ≤ 40000000 ∧
      pointsValid ([] ++ [⟨0, 0⟩, ⟨1, 30000000⟩]) = true ∧
      40000000 < 30000000 + ((30000000 - 0) * ((2 : Int) - 1).toNat + ((1 : Int) - 0).toNat / 2) / ((1 : Int) - 0).toNat := by
  decide

/-- The inverse rating of TheLookupInterpolates: below the first point, a flat version, a segment's foot and its last value, a flat
end, and the last point's discharge extended. -/
theorem test_witness_inverse :
    pointsValid ([⟨800, 5⟩, ⟨1000, 5⟩] ++ ⟨1400, 25000⟩ :: ⟨3000, 600000⟩ :: []) = true ∧ 4 < 5 ∧ 25000 ≤ 25000 ∧ 599999 < 600000 ∧
      (∀ p ∈ ([⟨800, 7⟩, ⟨900, 7⟩] : List RatingPoint), p.discharge = 7) ∧
      pointsValid ([⟨800, 5⟩] ++ [⟨1000, 9⟩, ⟨1400, 9⟩]) = true ∧ inverse [⟨800, 5⟩, ⟨1000, 9⟩, ⟨1400, 9⟩] 9 = none ∧
      inverse [⟨800, 5⟩, ⟨1000, 9⟩, ⟨1400, 9⟩] 8 = some 950 ∧ pointsValid ([] ++ [⟨800, 5⟩, ⟨1000, 9⟩]) = true ∧
      inverse [⟨800, 5⟩, ⟨1000, 9⟩] 9 = some 1000 := by decide

/-- The same: a table between, at and outside its entries; a version in force and none; an effective stage past its limit. -/
theorem test_witness_rate :
    shiftsIncrease ([⟨1000, 20, .manual⟩] ++ ⟨7000, -45, .manual⟩ :: ⟨10000, 0, .manual⟩ :: []) = true ∧ 7000 ≤ 8500 ∧ 8500 ≤ 10000 ∧
      inForce [version 1 100, version 2 200] 99 = none ∧ inForce [version 1 100, version 2 200] 200 = some (version 2 200) ∧
      (20000 : Int) < 20000 + shiftAt [⟨1000, 20, .manual⟩] 5 := by decide

/-- A state with no sensor to power: a hold HELD, or every channel disabled. -/
def unpowered (s : State) (held : Bool) : State :=
  if held then holding s .held
  else { s with lau := { s.lau with channels := { s.lau.channels with la := { s.lau.channels.la with enabled := false } } } }

/-- SetTimeSetsTheClock: below the floor, and at it; in a burst; waiting in COMPLETING for a later time, and for one it has; with
an owed start, in another second and in the same; and a start that powers no sensor. -/
theorem test_witness_setTime :
    let on (s : State) : State := (s.sample ⟨0, 0⟩).heard .T
    let owing (s : State) : State := on { s with lau := { s.lau with startOwed := true } }
    later.takes .T = true ∧ 4 < (on later).clock.floor ∧ (on later).clock.floor ≤ 5 ∧ (on later).archive.hasRoom = true ∧
      (on later).lau.startOwed = false ∧ (on later).lau.acq = none ∧
      (on (acquiring later (acq0 .burst 1))).lau.acq = some (acq0 .burst 1) ∧ (acq0 .burst 1).phase ≠ .completing ∧
      (on (acquiring later (acq0 .completing 3))).lau.acq = some (acq0 .completing 3) ∧
      (on later).lau.series.getLast? = some (obs0 5 (some 1000)) ∧ (obs0 5 (some 1000)).time = 5 ∧
      (owing later).lau.startOwed = true ∧ (owing later).lau.hold.state ≠ .held ∧
      ((owing later).lau.channels.get .LA).enabled = true ∧
      [true, false].all (fun held => (owing (unpowered later held)).lau.startsWithoutSensors) = true := by decide

/-- HoldsAreEnteredAndLeft: each hold state, with and without an acquisition in flight. -/
theorem test_witness_holds :
    let q := (acquiring later (acq0 .burst 1)).heard .F
    (acquiring later (acq0 .burst 1)).takes .F = true ∧ q.lau.hold.state = .none ∧ q.lau.acq.isSome = true ∧
      (later.heard .F).lau.hold.state = .none ∧ (later.heard .F).lau.acq = none ∧ (later.heard .F).hasRoom = true ∧
      ((holding later .pending).heard .F).lau.hold.state = .pending ∧ ((holding later .held).heard .F).lau.hold.state = .held ∧
      ((holding later .held).heard .F).hasRoom = true ∧ (holding later .held).lau.hold.timer = some 180000 := by decide

/-- AManualReadingGivesItsObservation: NOT_HELD, out of range, the same second, and a later one. -/
theorem test_witness_manualReading :
    let h := ((holding sameSec .held).sample ⟨0, 0⟩).heard .F
    let g := ((holding later .held).sample ⟨0, 0⟩).heard .F
    (holding later .held).takes .F = true ∧ (later.heard .F).lau.hold.state ≠ .held ∧ h.lau.hold.state = .held ∧
      (20000 : Int) < 20001 ∧ h.sameSecond = true ∧ h.lau.hold.count ≤ 65535 ∧ g.lau.hold.state = .held ∧ g.sameSecond = false ∧
      g.lau.acq = none := by decide

/-- AcquisitionsStart: in flight, in the same second, and started. -/
theorem test_witness_starts :
    let s : State := { later with lau := { later.lau with lastStart := some 0 } }
    let u : State := { sameSec with lau := { sameSec.lau with lastStart := some 0 } }
    let h := (s.sample ⟨0, 0⟩).heard .T
    (acquiring later (acq0 .burst 1)).takes .T = true ∧
      (((acquiring later (acq0 .burst 1)).sample ⟨0, 0⟩).heard .T).lau.acq.isSome = true ∧ h.lau.acq = none ∧
      h.lau.startOwed = false ∧ h.sameSecond = false ∧ h.lau.hold.state ≠ .held ∧ (h.lau.channels.get .LA).enabled = true ∧
      ((u.sample ⟨0, 0⟩).heard .T).sameSecond = true ∧ u.sameSecond = true ∧ s.lau.lastStart = some 0 ∧
      State.reset.startingUp = true ∧ State.reset.lau.hold.state ≠ .held ∧ (State.reset.lau.channels.get .LA).enabled = true ∧
      State.reset.archive.state.isFailed = false ∧ State.reset.archive.firstOp = .openFirst 0 ∧
      base.archive.nextInRing 0 = some 1 ∧ (pageAt base.archive.pages 1).status = .erased := by decide

theorem test_witness_starts_full :
    let a : Archive := { base.archive with pages := [(0, page0 .full), (1, page0 .full)], firstOp := .takeNext 0 }
    a.nextInRing 0 = some 1 ∧ (pageAt a.pages 1).status = .full ∧ a.state.isFailed = false := by decide

/-- AcquisitionsStart, with no sensor to power: by ACQUIRE_NOW, at the due point and after start-up; and AStationSecondBegins. -/
theorem test_witness_starts_unpowered :
    [true, false].all (fun held =>
      let s := unpowered { later with lau := { later.lau with lastStart := some 0 } } held
      let h := (s.sample ⟨0, 0⟩).heard .T
      let u := unpowered State.reset held
      let v := unpowered { sameSec with lau := { sameSec.lau with startOwed := true } } held
      s.takes .T && decide (h.lau.acq = none) && !h.lau.startOwed && h.laterSecond && h.lau.startsWithoutSensors &&
        decide (s.lau.lastStart = some 0) && s.laterSecond && s.lau.startsWithoutSensors && u.startingUp && u.laterSecond &&
        u.lau.startsWithoutSensors && decide (v.lau.acq = none) && v.lau.startOwed && v.lau.startsWithoutSensors) = true := by
  decide

/-- ReadingsAreTaken and ObservationsAreFormed: in warm-up, in mid-burst, and the last reading in either second. -/
theorem test_witness_readings :
    (acquiring later (acq0 .warming 0)).lau.acq = some (acq0 .warming 0) ∧ (acq0 .warming 0).taken + 1 < (acq0 .warming 0).burst ∧
      (acq0 .burst 2).burst ≤ (acq0 .burst 2).taken + 1 ∧ (acquiring sameSec (acq0 .burst 2)).laterSecond = false ∧
      (acquiring later (acq0 .burst 2)).laterSecond = true ∧ (acq0 .burst 2).phase = .burst ∧
      (acquiring sameSec (acq0 .completing 3)).clock.time < 4294967295 ∧
      (acquiring sameSec (acq0 .completing 3)).lau.series.getLast? = some (obs0 5 (some 1000)) ∧ (5 : Nat) ≤ 5 ∧
      (holding (acquiring later (acq0 .burst 2)) .pending).lau.hold.state = .pending ∧
      (holding (acquiring sameSec (acq0 .completing 3)) .pending).lau.hold.state = .pending ∧
      later.notices.held.length + 4 ≤ 12 ∧ later.notices.held.any Notice.isLevel = false := by decide

/-- A PENDING hold is entered from COMPLETING in the second that the acquisition waited for. -/
theorem test_hold_from_completing :
    let s := holding (acquiring sameSec (acq0 .completing 3)) .pending
    (match exec (.stationSecond ⟨0, 0⟩) s with
      | .next t => decide (t.lau.hold.state = .held ∧ t.lau.hold.timer = some (100 + 100 * s.lau.hold.limit) ∧ t.lau.acq = none)
      | _ => false) = true := by decide +kernel

/-- AStationSecondBegins: nothing waits, an acquisition goes on, a start is owed, and the greatest station time. -/
theorem test_witness_stationSecond :
    later.clock.time < 4294967295 ∧ later.lau.acq = none ∧ later.lau.startOwed = false ∧ (acq0 .burst 1).phase ≠ .completing ∧
      ({ sameSec with lau := { sameSec.lau with startOwed := true } } : State).lau.startOwed = true ∧
      sameSec.lau.hold.state ≠ .held ∧ (sameSec.lau.channels.get .LA).enabled = true ∧
      ({ base with clock := { base.clock with time := 4294967295 } } : State).clock.time = 4294967295 := by decide

/-- AChannelStageIsTheMedianOfItsReadings: one reading short of half the burst, half of it, and both limits. -/
theorem test_witness_channelStage :
    let c (l : List Nat) (offset : Int) : Captured := ⟨⟨true, 1, offset, 60000⟩, l, true⟩
    (sortNat [7, 2, 9])[1]? = some 7 ∧ (sortNat [7, 2])[0]? = some 2 ∧ (sortNat [7, 2])[1]? = some 7 ∧
    ((c [0, 65535, 4] 0).readings.filter (fun n => decide (n ≠ 0 ∧ n < 65535))).length < (3 + 1) / 2 ∧
      (3 + 1) / 2 ≤ ((c [1, 0, 65534] 0).readings.filter (fun n => decide (n ≠ 0 ∧ n < 65535))).length ∧
      rawStage (-30000) 60000 (median [1, 1]) < -2000 ∧ rawStage 0 60000 (median [1, 65534]) > 20000 ∧
      rawStage (-30000) 60000 (median [1, 65534]) = 0 := by decide

/-- The same, what an acquisition finds: three captured channels, LA and LB of one preference, LC invalid for the second time, and
the third disagreement, by 228 mm with 50 allowed. -/
def votes0 : Lau × Acquisition :=
  let c (preference : Nat) (l : List Nat) (stayed : Bool) : Option Captured := some ⟨⟨true, preference, 0, 60000⟩, l, stayed⟩
  ({ base.lau with
      status := ⟨some ⟨false, 0, 0⟩, some ⟨true, 0, 1⟩, some ⟨false, 1, 0⟩⟩, disagree := ⟨false, 2, 0⟩ },
    { phase := .burst, capture := ⟨c 2 [1000, 1000, 1000] true, c 2 [1250, 1250, 0] true, c 1 [0, 0, 1000] true⟩
      warmUp := 2, burst := 3, start := 0, taken := 3 })

theorem test_judge :
    (votes0.1.judge votes0.2).2 =
        { stage := some 916, source := some (.channel .LA), range := false, manual := false
          events := [(.channelOk, .LB, none), (.channelFault, .LC, none), (.disagreeSet, .LA, some 228)] } ∧
      (votes0.1.judge votes0.2).1.status = ⟨some ⟨false, 0, 0⟩, some ⟨false, 0, 0⟩, some ⟨true, 0, 0⟩⟩ ∧
      (votes0.1.judge votes0.2).1.disagree = ⟨true, 3, 0⟩ := by decide

/-- The same, clause by clause: no valid channel; the first named of two equals; one valid channel alone; the tolerance met and
passed; the counts at 2; and both ends of the window. -/
theorem test_witness_judge :
    let one : Acquisition := { votes0.2 with capture := { votes0.2.capture with lb := none } }
    ([Channel.LA, .LB, .LC].all (fun c => (((acq0 .burst 0).capture.get c).bind (fun k => channelResult k 3)).isNone)) = true ∧
      (votes0.2.capture.la.bind (fun k => channelResult k 3)) = some (916, false) ∧
      (votes0.2.capture.lb.bind (fun k => channelResult k 3)) = some (1144, false) ∧
      (votes0.2.capture.lc.bind (fun k => channelResult k 3)) = none ∧ (one.capture.lb.bind (fun k => channelResult k 3)) = none ∧
      channelCode .LA ≤ channelCode .LB ∧ ((1144 : Int) - 916).natAbs = 228 ∧ 50 < 51 ∧ 50 ≤ 50 ∧ min 3 (2 + 1) = 3 ∧
      (900 : Int) - 2 * 300 ≤ 300 ∧ (600 : Int) ≤ 900 - 300 ∧
      rateOfRise [obs0 300 (some 1000), obs0 601 (some 1100)] 1001 900 300 = some 6 ∧
      rateOfRise [obs0 299 (some 1000), obs0 600 none] 1001 900 300 = none := by decide

/-- SetAcquisitionReplacesTheRecord and SetThresholdReplacesTheRecord, with no sensor to power and a start that the new interval
asks for, and a run that the lower level does not bar. -/
theorem test_witness_settings_start :
    let g : AcqSettings := ⟨0, 3, 3600, 5, 15, 15, 15, 15⟩
    let n : ThresholdSettings := ⟨true, .stage, 20000, 22000, 10, .alarm⟩
    let run := running .F .counting (run0 .attended) none
    let s : State :=
      { run with
        elapsed := 90000, warning := warned.warning
        lau := { run.lau with lastStart := some 0, settings := { run.lau.settings with clear := 15 } } }
    let h := (s.sample ⟨0, 0⟩).heard .T
    let w : Warning := { h.warning with settings := h.warning.settings.set 0 n, live := h.warning.live.set 0 ⟨false, 0⟩ }
    [true, false].all (fun held =>
      let u := ((unpowered { later with elapsed := 1500, lau := { later.lau with lastStart := some 0 } } held).sample ⟨0, 0⟩).heard .T
      decide (u.lau.acq = none) && u.laterSecond && u.lau.startsWithoutSensors &&
        decide (intervalAt g u.warning.level ≠ intervalAt u.lau.settings u.warning.level) &&
        decide (u.lau.lastStart = some 0 ∧ 0 + 100 * intervalAt g u.warning.level ≤ u.elapsed) &&
        (((unpowered s held).sample ⟨0, 0⟩).heard .T).lau.startsWithoutSensors) = true ∧
      s.takes .T = true ∧ w.formed = .clear ∧ levelRank w.formed < levelRank h.warning.level ∧ h.hasRoom = true ∧
      h.cable.run = some (run0 .attended) ∧ (run0 .attended).kind ≠ .unattended ∧
      intervalAt h.lau.settings w.formed ≠ intervalAt h.lau.settings h.warning.level ∧ h.lau.lastStart = some 0 ∧
      0 + 100 * intervalAt h.lau.settings w.formed ≤ h.elapsed ∧ h.lau.acq = none ∧ h.sameSecond = false ∧ h.laterSecond = true ∧
      h.lau.hold.state ≠ .held ∧ (h.lau.channels.get .LA).enabled = true := by decide

/-- AnEnabledRecordFollowsTheTable, row by row: at the level, above it, at the clear level, above it. -/
theorem test_witness_evaluation :
    let t : ThresholdSettings := ⟨true, .stage, 1000, 100, 2, .warn⟩
    t.enabled = true ∧ quantityValue t.quantity (obs0 5 (some 1001)) = some 1001 ∧ t.level < 1001 ∧ (1000 : Int) ≤ t.level ∧
      (900 : Int) ≤ t.level - t.margin ∧ t.level - t.margin < 901 ∧ (ThresholdLive.mk false 1).count + 1 = t.persistence ∧
      (ThresholdLive.mk true 0).count + 1 ≠ t.persistence := by decide

/-- The same: a disabled record, an absent value, and records of two severities ACTIVE. -/
theorem test_witness_evaluation_rest :
    Factory.threshold.enabled = false ∧ quantityValue .stage (obs0 5 none) = none ∧ quantityValue .flow (obs0 5 (some 1)) = none ∧
      (warned.warning.live.get 0).active = true ∧ warned.warning.formed = .warn ∧ base.warning.formed = .clear ∧
      ({ warned.warning with live := Eight.all ⟨true, 0⟩ } : Warning).formed = .warn := by decide

/-- ALevelChangeHasItsEffects: up from a STOPPED and from a RUNNING deadline, down to CLEAR and to another level. -/
theorem test_witness_levelChange :
    base.hasRoom = true ∧ base.cable.run = none ∧ levelRank base.warning.level < levelRank .warn ∧
      base.warning.deadline = .stopped ∧ warned.hasRoom = true ∧ warned.cable.run = none ∧
      levelRank warned.warning.level < levelRank .alarm ∧ warned.warning.deadline ≠ .stopped ∧
      levelRank .clear < levelRank warned.warning.level ∧ levelRank .watch < levelRank warned.warning.level := by decide

/-- The same with a run in progress that the new level does not bar. -/
theorem test_levelChange_run :
    let s := running .F .counting (run0 .attended) none
    s.cable.run = some (run0 .attended) ∧ s.hasRoom = true ∧ (run0 .attended).kind = .attended ∧
      (s.changeLevel .warn (.observation 1) .nobody).cable = s.cable ∧
      (s.changeLevel .alarm (.observation 1) .nobody).cable.run = none := by decide +kernel

/-- A state whose record T1 is enabled above a stage of 1,000 mm with a severity. -/
def watching (s : State) (severity : Severity) : State :=
  { s with
    warning := { s.warning with settings := { s.warning.settings with t1 := ⟨true, .stage, 1000, 100, 1, severity⟩ } } }

/-- ObservationsAreFormed, the append: the last reading of a burst raises the level, which gives its notice and its records. -/
theorem test_observation_escalates :
    (match exec (.burstReading ⟨some 9000#16, none, none⟩ ⟨0, 0⟩) (watching (acquiring later (acq0 .burst 2)) .warn) with
      | .next t =>
        decide
          (t.warning.level = .warn ∧ t.warning.owed = true ∧ t.warning.firstTime = some 10 ∧
            t.warning.deadline = .running (250 + 60000) ∧
            t.archive.queue.map (fun q => q.record.kind) = [.obs, .level] ∧
            t.notices.held.map (·.body) = [.level .warn .clear .warn])
      | _ => false) = true := by decide +kernel

/-- AcknowledgementsAndTimersOfTheWarningUnit. -/
theorem test_witness_ackLevel :
    warned.takes .T = true ∧ (base.heard .T).warning.owed = false ∧ (warned.heard .T).warning.owed = true ∧
      levelRank .watch < levelRank (warned.heard .T).warning.level ∧
      levelRank (warned.heard .T).warning.level ≤ levelRank .warn ∧ (warned.heard .T).archive.hasRoom = true ∧
      warned.archive.hasRoom = true ∧ warned.warning.deadline = .running 60000 ∧ warned.warning.owed = true ∧
      warned.warning.silent = false ∧ warned.warning.silenceTimer = some 360000 ∧ warned.warning.level = .warn := by decide

/-- The same: an accepted ACK_LEVEL de-energises the relay on a LIVE link, and leaves it energised on a SILENT one. -/
theorem test_ackLevel_relay :
    [false, true].map (fun silent =>
      let w : Warning := { warned.warning with deadline := .expired, relay := true, silent := silent, silenceTimer := none }
      match exec (.ackLevel .F 5 (some (some .warn))) { warned with warning := w } with
      | .next t => t.warning.relay
      | _ => !silent) = [false, true] := by decide +kernel

/-- SamplePointsFollowTheDepth: at the two-point minimum and below it. -/
theorem test_witness_samplePoints : (750 : Nat) ≤ 750 ∧ 749 < 750 ∧ (50 : Nat) = 200 - 150 := by decide

/-- ClaimsPassTheBarTest: each check of R109. -/
theorem test_witness_claim :
    let idle : Cableway := { base.cable with available := true, settings := settings0 }
    (withCable (claimed .F)).takes .F = true ∧ ((withCable (claimed .F)).heard .F).cable.holder = some .F ∧
      ((withCable (claimed .F)).heard .L).cable.holder ≠ some .L ∧
      ((withCable { idle with state := .retrieving }).heard .L).cable.holder = none ∧
      ((withCable { idle with state := .stuck }).heard .L).cable.state = .stuck ∧
      ((withCable base.cable).heard .L).cable.available = false ∧ ((withCable idle).heard .F).barred .attended = false ∧
      ((withCable { idle with settings := { settings0 with attendedLimit := 999 } }).heard .F).barred .attended = true ∧
      ((withCable { idle with settings := { settings0 with attendedLimit := 1000 } }).heard .F).barred .attended = false ∧
      ({ base with cable := idle } : State).barred .attended = true ∧
      ((withCable idle).heard .L).barred .unattended = false := by decide

/-- ClaimsArePassedOnAndReleased: each holder and each run state. -/
theorem test_witness_forceAndRelease :
    let run (p : Port) : State := running p .traversing (run0 (holdKind p)) (some (.carriage 8000))
    let h := ((run .L).sample ⟨100, 0⟩).heard .F
    (withCable (claimed .L)).takes .F = true ∧ ((withCable (claimed .L)).heard .F).cable.holder = some .L ∧
      ((withCable (claimed .L)).heard .F).cable.run = none ∧ (base.heard .F).cable.holder = none ∧ h.cable.holder = some .L ∧
      h.cable.run.isSome = true ∧ h.gauging.run.isSome = true ∧ h.hasRoom = true ∧
      ((withCable (claimed .L)).heard .L).cable.state = .claimed ∧
      ((withCable { claimed .L with state := .retrieving }).heard .L).cable.run = none ∧
      ((withCable { claimed .L with state := .faulted }).heard .L).cable.run = none ∧
      (((run .F).sample ⟨100, 0⟩).heard .F).cable.state ≠ .claimed := by decide

/-- PlansAreLoadedByTheirChecks: each check of R113. -/
theorem test_witness_loadPlan :
    checkPlan planFields 60000 = some plan0 ∧ ((withCable (claimed .F)).heard .F).cable.settings.span = 60000 ∧
      ((withCable (claimed .F)).heard .F).cable.state = .claimed ∧ (withCable (claimed .F)).takes .L = true ∧
      checkPlan planFields 26000 = some plan0 ∧ checkPlan planFields 25999 = none ∧
      planFields.verticals.any (fun v => v.method.isNone) = false ∧
      (PlanFields.mk 1 0 [⟨0, none, 0, 0⟩]).verticals.any (fun v => v.method.isNone) = true ∧
      ((withCable { claimed .F with state := .faulted }).heard .F).cable.state ≠ .claimed ∧
      ((withCable (claimed .F)).heard .L).cable.holder ≠ some .L ∧ ((withCable (claimed .F)).heard .F).cable.holder = some .F := by
  decide

/-- A plan that meets R113 with every field at a limit. -/
theorem test_witness_plan :
    let f : PlanFields :=
      ⟨20000, 100, [⟨0, some .edge, 0, 25000⟩, ⟨1, some .onePoint, 20, 0⟩, ⟨2, some .twoPoint, 120, 0⟩, ⟨3, some .edge, 0, 0⟩]⟩
    f.verticals.Pairwise (fun v w => v.distance < w.distance) ∧ f.verticals.head?.map (·.method) = some (some .edge) ∧
      f.verticals.getLast?.map (·.method) = some (some .edge) ∧ (∃ v ∈ f.verticals, v.method ≠ some .edge) ∧
      (∀ v ∈ f.verticals, v.distance ≤ 3 ∧
        ((v.method = some .edge ∧ v.edgeDepth ≤ 25000) ∨
          ((v.method = some .onePoint ∨ v.method = some .twoPoint) ∧ 20 ≤ v.exposure ∧ v.exposure ≤ 120))) ∧
      (checkPlan f 3).isSome = true := by decide

/-- ARunStarts: each check of R114, and the three beginnings. -/
theorem test_witness_startRun :
    let s := withCable (claimed .F)
    let h := (s.sample ⟨0, 0⟩).heard .F
    s.takes .F = true ∧ h.cable.holder = some .F ∧ h.cable.state = .claimed ∧ h.cable.plan = some plan0 ∧
      measuredFrom 0 plan0.verticals 0 = some 1 ∧ h.gauging.result ≠ .computing ∧ h.barred .attended = false ∧
      ((withCable { claimed .F with plan := none }).heard .F).cable.plan = none ∧
      ({ s with warning := { s.warning with level := .alarm } } : State).barred .attended = true ∧
      10 < (11 : Int).natAbs ∧ (-10 : Int).natAbs ≤ 10 ∧ 50 < (7949 - 8000 : Int).natAbs ∧ (7950 - 8000 : Int).natAbs ≤ 50 := by decide

/-- TheDeadManWindowPausesTheRun: the window at 0.9 s and at 1.0 s, its expiry, and the five states of RESUME. -/
theorem test_witness_deadMan :
    let s := running .F .counting (run0 .attended) none
    let m : Remembered := { state := .positioning, target := some (.reel 500) }
    let p : State := { s with cable := { s.cable with state := .paused, remembered := some m, window := none } }
    s.takes .F = true ∧ (s.heard .F).cable.holder = some .F ∧ (s.heard .F).cable.window = some 0 ∧
      ({ s with elapsed := 99 } : State).elapsed / 10 < 0 + 10 ∧ 0 + 10 ≤ ({ s with elapsed := 100 } : State).elapsed / 10 ∧
      s.cable.state.measuring = true ∧ s.cable.window = some 0 ∧ (p.heard .F).cable.window = none ∧
      ((p.sample ⟨0, 0⟩).heard .F).cable.state = .paused ∧ ((p.sample ⟨0, 0⟩).heard .F).cable.remembered = some m ∧
      ((p.sample ⟨0, 0⟩).heard .F).cable.run = some (run0 .attended) ∧
      (s.heard .F).cable.state ≠ .paused ∧ 50 < (0 - (8000 : Int)).natAbs ∧ 10 < ((11 : Int) - 0).natAbs ∧
      (7950 - (8000 : Int)).natAbs ≤ 50 ∧ ((-10 : Int) - 0).natAbs ≤ 10 := by decide

/-- The same, RAISING resumed with the weight stowed: the vertical is complete and the carriage goes to the next one; a run that only
brought its weight home goes to its first. -/
theorem test_resume_stowed :
    [true, false].map (fun homing =>
      let s := running .F .paused { run0 .attended with homing := homing } none
      let p : State := { s with cable := { s.cable with remembered := some ⟨.raising, some (.reel 0)⟩, window := none } }
      let h := (p.sample ⟨0, 10⟩).heard .F
      match exec (.resume .F 5 true ⟨0, 10⟩) p with
      | .next t =>
        decide (h.cable.holder = some .F ∧ h.cable.remembered = some ⟨.raising, some (.reel 0)⟩ ∧ t.cable.state = .traversing ∧
          t.cable.run.isSome = true ∧ t.cable.window = some 0 ∧ p.takes .F = true ∧
          h.stowsQuietly { run0 .attended with homing := homing } = true) && t.cable.target == some (.carriage (if homing then 8000 else 14000))
      | _ => false) = [true, true] := by decide +kernel

/-- RunsEndWithTheirCause: a run in progress, a paused one, a fault, and both flood aborts. -/
theorem test_witness_runEnds :
    let s := running .L .traversing (run0 .unattended) (some (.carriage 8000))
    let h := (s.sample ⟨100, 40⟩).heard .L
    let p : State := { running .F .paused (run0 .attended) none with elapsed := 5 }
    s.takes .L = true ∧ h.cable.holder = some .L ∧ h.cable.run.isSome = true ∧ h.gauging.run.isSome = true ∧ h.hasRoom = true ∧
      s.cable.state.measuring = true ∧ s.cable.motionTimer = some 700 ∧ p.cable.state = .paused ∧ p.cable.pauseTimer = some 900 ∧
      p.hasRoom = true ∧ s.cable.run = some (run0 .unattended) ∧ (run0 .unattended).kind = .unattended ∧
      ({ s with warning := { s.warning with level := .warn } } : State).hasRoom = true ∧
      s.cable.settings.unattendedLimit < 3001 ∧ ((withCable { claimed .L with state := .faulted }).heard .L).cable.run = none ∧
      ((withCable (claimed .L)).heard .L).cable.state ≠ .faulted := by decide

/-- The same, a run that an observation ends: by the last reading of a burst that raises the level to the barring one, by the second
that a waiting acquisition waited for, by a manual reading above the stage limit, and not by one at it. -/
theorem test_observation_ends_run :
    let s := running .F .counting (run0 .attended) none
    let u := holding s .held
    let a : Acquisition :=
      { acq0 .completing 3 with capture := ⟨some ⟨⟨true, 1, 0, 10000⟩, [9000, 9000, 9000], true⟩, none, none⟩ }
    let ended (t : State) : Bool :=
      decide (t.cable.run = none ∧ t.cable.endCause = some .floodLimit ∧ t.cable.remembered = none ∧ t.gauging.result = .computing)
    s.cable.run = some (run0 .attended) ∧ s.gauging.run = some record0 ∧ (acquiring s (acq0 .burst 2)).laterSecond = true ∧
      u.takes .F = true ∧ ((u.sample ⟨0, 0⟩).heard .F).sameSecond = false ∧ ((u.sample ⟨0, 0⟩).heard .F).lau.acq = none ∧
      (match exec (.burstReading ⟨some 9000#16, none, none⟩ ⟨0, 0⟩) (watching (acquiring s (acq0 .burst 2)) .alarm) with
        | .next t => ended t && decide (t.archive.queue.map (fun q => q.record.kind) = [.obs, .level, .gauging])
        | _ => false) = true ∧
      (acquiring s a).lau.series.getLast? = some (obs0 5 (some 1000)) ∧ (5 : Nat) ≤ s.clock.time ∧ a.phase = .completing ∧
      (match exec (.stationSecond ⟨0, 0⟩) (watching (acquiring s a) .alarm) with | .next t => ended t | _ => false) = true ∧
      (match exec (.manualReading .F 0x01#8 (some 4001) ⟨0, 0⟩) u with | .next t => ended t | _ => false) = true ∧
      (match exec (.manualReading .F 0x01#8 (some 4000) ⟨0, 0⟩) u with | .next t => !ended t | _ => false) = true := by
  decide +kernel

/-- The formed record of RunsEndWithTheirCause: a completed run with every vertical's result, a mean height, a version in force, a
candidate; and a run without a completed vertical. -/
theorem test_witness_formRecord :
    let results : List VerticalResult :=
      [⟨2, 8000, .twoPoint, some 1500, some 900, 40, [⟨142, false⟩], VerticalFlags.none⟩,
        ⟨3, 14000, .onePoint, some 800, some 600, 40, [⟨94, false⟩], VerticalFlags.none⟩]
    let rr : RunRecord := { record0 with results := results, lastCompletion := some 10 }
    let s : State := { later with rating := { later.rating with slots := ⟨⟨some (version 7 0), 7, 1⟩, Factory.slot, Factory.slot, Factory.slot⟩ } }
    let g := s.formRecord rr .complete
    g.results.map (·.index) = [1, 2, 3, 4] ∧ g.qMeas = some 12420 ∧ g.height = some 1000 ∧ g.qRated = some 5000 ∧
      g.percent = some 1484 ∧ g.candidate = some 1000 ∧ g.disposition = .pending ∧ g.midTime = 5 ∧
      inForce s.rating.versions g.midTime = some (version 7 0) ∧ (later.formRecord record0 .aborted).height = none ∧
      (later.formRecord record0 .aborted).qMeas = none := by decide

/-- The flags of the formed record of RunsEndWithTheirCause, each set: a vertical skipped, a MANUAL observation used, the series
short of the observation after the one noted, the time set during the run, and both clamps. -/
theorem test_witness_recordFlags :
    let results : List VerticalResult :=
      [⟨2, 8000, .twoPoint, none, none, 0, [], { VerticalFlags.none with skipped := true }⟩,
        ⟨3, 14000, .onePoint, some 25000, some 10000, 40, [⟨94, false⟩], VerticalFlags.none⟩]
    let rr : RunRecord := { record0 with results := results, lastCompletion := some 10, startObs := some 7, startElapsed := 50 }
    let v : RatingVersion := { id := 7, effective := 0, points := [⟨0, 0⟩, ⟨1000, 5⟩] }
    let s : State :=
      { later with
        lau := { later.lau with series := [{ obs0 5 (some 1000) with source := some .manual }] }
        rating := { later.rating with slots := ⟨⟨some v, 7, 1⟩, Factory.slot, Factory.slot, Factory.slot⟩ } }
    let g := s.formRecord rr .complete
    g.flags.skippedVerticals = true ∧ g.flags.manualHeight = true ∧ g.flags.seriesShort = true ∧ g.flags.timeChanged = true ∧
      g.flags.pctClamped = true ∧ g.flags.shiftClamped = true ∧ g.flags.incompleteSection = false ∧ g.flags.notArchived = false ∧
      g.percent = some 1000000 ∧ g.candidate = some 1000 := by decide

/-- RetrievalBringsTheWeightHome: both legs, their ends, STUCK, and CLEAR_FAULT. -/
theorem test_witness_retrieval :
    let c : Cableway :=
      { claimed .F with state := .retrieving, target := some (.reel 0), drive := .reelUp, motionTimer := some 700 }
    10 < (11 : Int).natAbs ∧ (10 : Int).natAbs ≤ 10 ∧ 50 < (-51 : Int).natAbs ∧ (withCable c).cable.state = .retrieving ∧
      (withCable c).cable.target = some (.reel 0) ∧ (withCable c).hasRoom = true ∧ (withCable c).cable.motionTimer = some 700 ∧
      (withCable { c with target := some (.carriage 0) }).cable.target = some (.carriage 0) ∧
      ((withCable { base.cable with state := .stuck }).heard .F).cable.state = .stuck ∧ (base.heard .F).cable.state ≠ .stuck := by decide

/-- TheStepsOfARun: each event in its state, the arrivals at the edge of their ranges. -/
theorem test_witness_steps :
    let r := run0 .attended
    let last : Run := { r with vertical := 2 }
    (running .F .traversing r (some (.carriage 8000))).cable.run = some r ∧ ((7950 : Int) - 8000).natAbs ≤ 50 ∧
      (running .F .sounding r none).cable.state = .sounding ∧ r.zs = none ∧ 10 < (1820 : Int).natAbs ∧
      ({ r with zs := some 1820 } : Run).zs.isSome = true ∧ (1820 : Int) ≤ 2420 ∧
      samplePoints ((running .F .sounding r none).cable.vertical 1).kind 750 150 (2420 - 1820 : Int).toNat = ([360], true, false) ∧
      10 < ((2420 : Int) - (1820 + 360)).natAbs ∧ (25000 : Int) ≤ 25000 ∧ ((2170 : Int) - 2180).natAbs ≤ 10 ∧
      (running .F .raising { r with homing := true } (some (.reel 0))).cable.target = some (.reel 0) ∧
      (running .F .raising r (some (.reel 0))).gauging.run = some record0 ∧
      (running .F .raising r (some (.reel 0))).cable.nextMeasured (r.vertical + 1) = some 2 ∧
      (running .F .raising last (some (.reel 0))).cable.nextMeasured (last.vertical + 1) = none ∧
      (running .F .raising last (some (.reel 0))).hasRoom = true := by decide

/-- The same, targets reached at once: a film of water opens its exposure at the bed; a DRY bed with the weight stowed completes its
vertical; and a stowed weight whose carriage stands at the next vertical, or at the first one, begins its sounding (R105). -/
theorem test_steps_at_once :
    let r := run0 .attended
    let after (i : Instr) (s : State) : List RunState :=
      match exec i s with
      | .next t => [t.cable.state]
      | _ => []
    let up (homing : Bool) : State := running .F .raising { r with homing := homing } (some (.reel 0))
    (samplePoints (.twoPoint 40) 750 150 0).1 = [0] ∧
      after (.bottomContact ⟨8000, 1820⟩) (running .F .sounding { r with zs := some 1820 } none) = [.counting] ∧
      after (.bottomContact ⟨8000, -10⟩) (running .F .sounding r none) = [.traversing] ∧
      after (.bottomContact ⟨8000, 10⟩) (running .F .sounding { r with vertical := 2 } none) = [.retrieving] ∧
      after (.reelArrival ⟨14050, 10⟩) (up false) = [.sounding] ∧ after (.reelArrival ⟨7950, 10⟩) (up true) = [.sounding] ∧
      ((up false).sample ⟨14050, 10⟩).stowsQuietly r = true := by decide +kernel

/-- A count in progress. -/
def counting (n : Nat) (points : List Nat) : State :=
  let s := running .F .counting { run0 .attended with zs := some 1800, points := points } none
  { s with cable := { s.cable with exposureTimer := some 4000 }, gauging := { s.gauging with exposure := some ⟨n, false⟩ } }

/-- PulsesAreCounted: below the limit, at it, a further point, and the last one. -/
theorem test_witness_counting :
    base.cable.state ≠ .counting ∧ (counting 0 [300, 1200]).cable.state = .counting ∧
      (counting 65534 []).gauging.exposure = some ⟨65534, false⟩ ∧ 65534 < 65535 ∧
      (counting 65535 []).gauging.exposure = some ⟨65535, false⟩ ∧ (counting 0 [300, 1200]).cable.exposureTimer = some 4000 ∧
      0 + 1 < [300, 1200].length ∧ 10 < ((2100 : Int) - (1800 + 1200)).natAbs ∧ [300].length ≤ 0 + 1 ∧ 10 < (2100 : Int).natAbs := by decide

/-- The same, targets reached at once: both points of a vertical at one sample limit are counted one after the other, and a weight that
is stowed after the last point completes its vertical (R105, R117). -/
theorem test_counting_at_once :
    (samplePoints (.twoPoint 40) 300 500 300).1 = [0, 0] ∧
      (match exec (.exposureTimerExpiry ⟨8000, 1800⟩) (counting 7 [0, 0]) with
        | .next t =>
          decide (t.cable.state = .counting ∧ t.cable.exposureTimer = some 8000 ∧ t.gauging.kept = [⟨7, false⟩] ∧
            t.gauging.exposure = some ⟨0, false⟩ ∧ t.cable.run.map (·.sample) = some 1)
        | _ => false) = true ∧
      (match exec (.exposureTimerExpiry ⟨8000, 10⟩) (counting 7 [0]) with
        | .next t => decide (t.cable.state = .traversing ∧ t.cable.target = some (.carriage 14000) ∧ t.gauging.kept = [])
        | _ => false) = true := by decide +kernel

/-- The vertical results of PulsesAreCounted: dry, skipped, one count, two counts. -/
theorem test_witness_results :
    let r := { run0 .attended with vertical := 1 }
    record0.plan.verticals[r.vertical]? = some ⟨8000, .twoPoint 40⟩ ∧
      (formResult record0 [] { r with sounded := .dry }).velocity = some 0 ∧
      (formResult record0 [] { r with sounded := .skipped }).velocity = none ∧
      (formResult record0 [⟨94, false⟩] { r with sounded := .measured 600, methodChanged := true }).velocity = some 1185 ∧
      (formResult record0 [⟨94, false⟩, ⟨0, false⟩] { r with sounded := .measured 800 }).velocity = some 593 := by decide

/-- ArchiveOperationsComplete: every operation, with the queue emptied, with drop counts, and with a gauging's record. -/
theorem test_witness_archive :
    let s := archiving (.record 0) [queued .nobody]
    pagesWf s.archive.pages = true ∧ s.startingUp = false ∧ s.archive.state.isFailed = false ∧
      s.archive.freshState = s.archive.state ∧ 0 < pageCount ∧ s.archive.queue.head? = some (queued .nobody) ∧
      (queued .nobody).index = some 0 ∧ s.archive.queue.drop 1 = [] ∧ s.archive.waiting = [] ∧ (queued .nobody).owner ≠ .gauging ∧
      s.archive.obsDropped + s.archive.othersDropped = 0 ∧
      0 < ({ s.archive with obsDropped := 1 } : Archive).obsDropped + s.archive.othersDropped ∧
      (queued .gauging).owner = .gauging ∧ (archiving (.record 0) [queued .gauging]).hasRoom = true ∧
      (archiving (.header 255 7) []).archive.queue = [] ∧ 255 < pageCount ∧
      (archiving (.closedMark 0) []).archive.op = .closedMark 0 ∧ (archiving (.erase 1) []).archive.op = .erase 1 ∧
      ({ (archiving (.erase 1) []).archive with pages := [(1, page0 .full)] } : Archive).openPage = none := by decide

/-- The same: a waiting line, the last index, a full queue, a FAILED archive; and the requests that a FAILED archive answers. -/
theorem test_witness_archive_room :
    let line : List QueuedRecord := [{ queued (.request .T 0) with index := none }]
    let s : State :=
      { archiving (.record 0) [queued .nobody] with
        ports := owing.ports, archive := { (archiving (.record 0) [queued .nobody]).archive with waiting := line } }
    let full : Archive := { base.archive with queue := List.replicate 32 (queued .nobody) }
    let failed : State := { base with archive := { base.archive with state := .failed .pages } }
    s.archive.queue.length ≤ 32 ∧ s.archive.waiting = line ∧ s.ports.slot .T = some owed0 ∧ owed0.waitWrite = false ∧
      ({ queued .nobody with index := some 4294967295 } : QueuedRecord).index = some 4294967295 ∧ 32 ≤ full.queue.length ∧
      full.state.isFailed = false ∧ (Record.obs (obs0 5 none)).obsNumber = some 1 ∧
      (Record.hold ⟨true, .request, none, none, none⟩).obsNumber = none ∧ freeCount full.waiting < 16 ∧
      16 ≤ freeCount (List.replicate 16 (queued .nobody)) ∧ failed.takes .F = true ∧
      (failed.heard .F).archive.state.isFailed = true ∧ (failed.heard .F).rating.frozen = false ∧
      (failed.heard .F).lau.acq = none ∧ (failed.heard .F).lau.startOwed = false := by decide

/-- The same, the programming that begins: for a record that fills its page to the last byte and for one that no longer fits, and
for the head of the queue after a record, after a header, and after an erase with a page OPEN. -/
theorem test_witness_begin :
    let gap : QueuedRecord := { record := .gap ⟨0, 0, 0, 1⟩, time := 5, owner := .nobody, index := none }
    let filled (n : Nat) : Page :=
      { page0 .opened with records := List.replicate n { record := gap.record, time := 5, index := 0, intact := true } }
    let a (n : Nat) : Archive := { base.archive with pages := [(0, filled n)], queue := [gap], nextIndex := 7 }
    gap.record.length = 24 ∧ (a 169).openPage = some 0 ∧ (a 169).op = .idle ∧ (a 169).waiting = [] ∧
      (a 169).begin = { a 169 with op := .record 0, queue := [{ gap with index := some 7 }], nextIndex := 8 } ∧
      (a 170).begin = { a 170 with op := .closedMark 0 } ∧
      (archiving (.record 0) [queued .nobody, gap]).archive.openPage = some 0 ∧
      (archiving (.record 0) [queued .nobody, gap]).archive.queue = queued .nobody :: [gap] ∧
      (archiving (.erase 1) [gap]).archive.openPage = some 0 ∧
      ({ (archiving (.header 1 7) [gap]).archive with pages := [(0, page0 .full)] } : Archive).openPage = none := by
  decide +kernel

/-- After the last index no waiting record enters: the archive is FAILED first (R159). -/
theorem test_lastIndex :
    let line : List QueuedRecord := [{ queued (.request .T 0) with index := none }]
    let s : State :=
      { archiving (.record 0) [{ queued .nobody with index := some 4294967295 }] with
        ports := { owing.ports with t := { owing.ports.t with slot := some { owed0 with strict := true, waitRecord := true } } }
        archive :=
          { (archiving (.record 0) [{ queued .nobody with index := some 4294967295 }]).archive with waiting := line } }
    (match exec .recordProgrammed s with
      | .next t =>
        decide (t.archive.state = .failed .indexEnd ∧ t.archive.queue = [] ∧ t.archive.waiting = []) &&
          (match t.ports.t.sending with | some (.response r) => decide (r.response.result = .archiveFailed) | _ => false)
      | _ => false) = true := by decide

/-- The header of a page, and the retired mark on one whose header is erased (R202). -/
theorem test_pageHeader :
    (page0 .opened).headerBytes.length = 16 ∧ (page0 .opened).headerBytes.drop 9 = List.replicate 7 0xFF#8 ∧
      (page0 .opened).headerBytes.take 9 = [0, 0, 0, 1, 0, 0, 0, 0, crc [0, 0, 0, 1, 0, 0, 0, 0]] ∧
      Page.blank.markRetired.headerBytes = List.replicate 10 0xFF#8 ++ 0#8 :: List.replicate 5 0xFF#8 := by decide +kernel

/-- The archive with some retired pages. -/
def retiring (n : Nat) (st : ArchiveState) : State :=
  { base with
    archive :=
      { base.archive with
        pages := (List.range n).map (fun k => (k, page0 .retired)) ++ [(254, page0 .opened)], op := .record 254, state := st
        queue := [queued .nobody] } }

/-- FailuresRetireTheirPage: the state stays, becomes DEGRADED at 16 retired pages, and becomes FAILED below 2 healthy ones. -/
theorem test_witness_failures :
    pagesWf (retiring 3 .normal).archive.pages = true ∧ (retiring 3 .normal).archive.op = .record 254 ∧ 254 < pageCount ∧
      (retiring 15 .normal).archive.state = .normal ∧ (retiring 15 .normal).hasRoom = true ∧
      ({ (retiring 15 .normal).archive.setPage 254 (page0 .retired) with op := .idle } : Archive).freshState = .degraded ∧
      (retiring 3 .normal).archive.state.isFailed = false := by decide

theorem test_witness_failures_all :
    let s : State := { base with archive := { (retiring 254 .degraded).archive with op := .erase 255 } }
    pagesWf s.archive.pages = true ∧ s.archive.state.isFailed = false ∧
      ({ s.archive.setPage 255 (page0 .retired) with op := .idle } : Archive).freshState = .failed .pages := by decide +kernel

/-- The same, the change to FAILED with a gauging's and a request's record in the queue: the ARCHIVE notice comes before the GAUGING
notice, the request is told, and the deferred read of ReadGaugingAnswersFromTheList is answered. -/
theorem test_witness_failures_drop :
    let r (o : Owner) : QueuedRecord := { queued o with index := none }
    let s : State :=
      { base with
        archive := { (retiring 254 .degraded).archive with op := .erase 255, queue := [r .gauging, r (.request .T 0)] }
        gauging := { base.gauging with result := .computing, computing := some (gauging0 .pending) }
        ports :=
          { owing.ports with
            t := { owing.ports.t with slot := some { owed0 with waitWrite := true, waitRecord := true } }
            f := { owing.ports.f with slot := some { owed0 with waitGauging := some 4 } } } }
    s.archive.freshState = s.archive.state ∧
      (match exec (.eraseFailure .former) s with
        | .next t =>
          decide (t.archive.state = .failed .pages ∧ t.archive.healthy = 1) &&
            decide (t.notices.held.map (fun n => noticeKind n.body) = [6, 4]) &&
            decide (t.ports.slot .T = some { owed0 with waitWrite := true, dropped := true }) &&
            (match t.ports.f.sending with | some (.response m) => decide (m.response.result = .ok) | _ => false)
        | _ => false) = true := by decide +kernel

/-- The same: the retired mark programmed or failed, with an OPEN page, with an erased page and with a full one to take next. -/
theorem test_witness_retiredMark :
    let a (l : List (Nat × Page)) : Archive := { base.archive with pages := (0, page0 .retired) :: l, op := .retiredMark 0 }
    pagesWf (a [(1, page0 .opened)]).pages = true ∧ (pageAt (a []).pages 0).status = .retired ∧
      (a [(1, page0 .opened)]).openPage.isSome = true ∧ (a []).openPage = none ∧ (a []).nextInRing 0 = some 1 ∧
      (pageAt (a []).pages 1).status = .erased ∧ (a [(1, page0 .full)]).openPage = none ∧
      (pageAt (a [(1, page0 .full)]).pages 1).status = .full ∧ (a []).queue = [] ∧
      ({ a [] with state := .failed .pages } : Archive).state.isFailed = true ∧
      (retiring 15 .normal).archive.freshState = .normal := by decide

/-- SettingsWritesEnd: a completion, the seventh failure, and the eighth. -/
theorem test_witness_writes :
    (writing 0).store.queue.head? = some { data := .holdLimit 300, port := .T, request := 0, failures := 0 } ∧
      (writing 0).ports.slot .T = some { owed0 with waitWrite := true } ∧ owed0.id = 0 ∧ owed0.answered = false ∧
      owed0.waitRecord = false ∧ owed0.waitGauging = none ∧ owed0.waitVerify = false ∧ owed0.unfinished = false ∧
      owed0.dropped = false ∧ 6 + 1 < 8 ∧ 8 ≤ 7 + 1 ∧ (writing 7).store.queue.length = 1 := by decide

/-- ResetsLeaveTheResetValues: both positions of the hold-at-start line, and an undamaged storage. -/
theorem test_witness_resets :
    (ResetInputs.mk false .former .former [] [] []).holdLine = false ∧ (ResetInputs.mk true .former .former [] [] []).holdLine = true ∧
      (ResetInputs.mk true .former .former [] [] []).damagedItems = [] ∧ base.store.queue = [] ∧ base.store.medium.cell = none ∧
      ({ base.store.medium with cell := some 5 } : Medium).cell = some 5 ∧ (writing 0).store.queue.length = 1 := by decide

/-- The marks, the statuses and the last id of ResetsLeaveTheResetValues: of the slots that pass, the one written last gives the id,
and an item that fails its check its factory default and its mark. -/
theorem test_restoration :
    let slot (id n : Nat) (ok : Bool) : Item SlotItem := ⟨⟨some (version id (10 * n)), id, n⟩, ok⟩
    let m : Medium := { Factory.medium with slots := ⟨slot 3 4 true, slot 9 8 false, slot 5 6 true, ⟨Factory.slot, true⟩⟩ }
    let s : State := { base with store := { base.store with medium := m } }
    (match exec (.powerOn ⟨false, .former, .former, [.holdLimit], [], []⟩) s with
      | .next t =>
        decide (t.rating.lastId = 5 ∧ t.store.defaulted = [.holdLimit, .slot 1] ∧ t.lau.hold.limit = 1800 ∧
          (t.rating.slots.get 1).version = none ∧ t.lau.status = ⟨some ⟨false, 0, 0⟩, none, none⟩)
      | _ => false) = true := by decide +kernel

/-- The scan of ResetsLeaveTheResetValues: a page full, the newest page with a record cut off, an erase cut off, a page retired. -/
theorem test_witness_scan :
    let record (k : Nat) (ok : Bool) : StoredRecord := ⟨.obs (obs0 (10 * k) none), 10 * k, k, ok⟩
    let found : List (Nat × Page) :=
      [(0, ⟨.full, some ⟨1, 0, true, true, false⟩, [record 3 true]⟩), (1, ⟨.opened, some ⟨2, 0, true, false, false⟩, [record 4 true, record 5 false]⟩),
        (2, ⟨.full, some ⟨0, 0, false, true, false⟩, []⟩), (9, ⟨.retired, some ⟨0, 0, true, true, true⟩, []⟩)]
    pagesWf found = true ∧ (newestPage found).map (·.1) = some 1 ∧ eraseCutOff found 1 = some 2 ∧
      (scan found).archive.pages.map (fun e => e.2.status) = [.full, .opened, .full, .retired] ∧
      (scan found).archive.nextIndex = 6 ∧ (scan found).newestTime = some 40 ∧ (scan found).floor = 40 ∧
      (scan found).observation = some 1 ∧ (scan found).gauging = none ∧ (scan found).archive.firstOp = .close 1 := by decide

end Sys2Proof.Tests
end

section
/-! SUPPORT. The insertion into the shift table (R59, R62): the table in order, an entry placed and an entry replaced, and the
three cases of an insertion. -/

namespace Sys2Proof.Machine

/-! ### The table in order (R59) -/

theorem shiftsIncrease_iff (l : List ShiftEntry) :
    shiftsIncrease l = true ↔ l.Pairwise (fun a b => a.time < b.time) := by
  have : IsTrans ShiftEntry (fun a b => a.time < b.time) := ⟨fun _ _ _ => lt_trans⟩
  rw [← List.isChain_iff_pairwise]
  induction l using shiftsIncrease.induct with
  | case1 => simp [shiftsIncrease]
  | case2 a => simp [shiftsIncrease]
  | case3 a b l ih => simp [shiftsIncrease, ih]

/-- In a table in order the time names the entry. -/
theorem eq_of_time_eq {l : List ShiftEntry} (hl : l.Pairwise (fun a b => a.time < b.time)) {a b : ShiftEntry}
    (ha : a ∈ l) (hb : b ∈ l) (hab : a.time = b.time) : a = b := by
  have hn : (l.map ShiftEntry.time).Nodup := List.pairwise_map.2 (hl.imp ne_of_lt)
  exact List.inj_on_of_nodup_map hn ha hb hab

/-! ### Placing an entry of a new time (R62) -/

theorem placeShift_perm (e : ShiftEntry) (l : List ShiftEntry) : (placeShift e l).Perm (e :: l) := by
  induction l with
  | nil => exact List.Perm.refl _
  | cons a l ih =>
    simp only [placeShift]
    split
    · exact List.Perm.refl _
    · exact (List.Perm.cons a ih).trans (List.Perm.swap e a l)

@[simp] theorem mem_placeShift {e a : ShiftEntry} {l : List ShiftEntry} : a ∈ placeShift e l ↔ a = e ∨ a ∈ l := by
  rw [(placeShift_perm e l).mem_iff, List.mem_cons]

@[simp] theorem length_placeShift (e : ShiftEntry) (l : List ShiftEntry) : (placeShift e l).length = l.length + 1 :=
  (placeShift_perm e l).length_eq

theorem placeShift_increases {e : ShiftEntry} {l : List ShiftEntry} (hl : l.Pairwise (fun a b => a.time < b.time))
    (hne : ∀ a ∈ l, a.time ≠ e.time) : (placeShift e l).Pairwise (fun a b => a.time < b.time) := by
  induction l with
  | nil => simp [placeShift]
  | cons a l ih =>
    obtain ⟨ha, hl'⟩ := List.pairwise_cons.1 hl
    simp only [placeShift]
    split
    · next hea =>
      refine List.pairwise_cons.2 ⟨fun b hb => ?_, hl⟩
      rcases List.mem_cons.1 hb with rfl | hb
      · exact hea
      · exact hea.trans (ha b hb)
    · next hea =>
      refine List.pairwise_cons.2 ⟨fun b hb => ?_, ih hl' fun b hb => hne b (List.mem_cons_of_mem a hb)⟩
      rcases mem_placeShift.1 hb with rfl | hb
      · exact lt_of_le_of_ne (not_lt.1 hea) (hne a List.mem_cons_self)
      · exact ha b hb

/-! ### Replacing the entry of a held time (R62) -/

/-- The entry of `e`'s time is replaced by `e` where it stands. -/
def replaceShift (e : ShiftEntry) (l : List ShiftEntry) : List ShiftEntry :=
  l.map (fun a => if a.time = e.time then e else a)

@[simp] theorem length_replaceShift (e : ShiftEntry) (l : List ShiftEntry) : (replaceShift e l).length = l.length :=
  List.length_map _

theorem replaceShift_increases (e : ShiftEntry) {l : List ShiftEntry} (hl : l.Pairwise (fun a b => a.time < b.time)) :
    (replaceShift e l).Pairwise (fun a b => a.time < b.time) := by
  have htime : ∀ a : ShiftEntry, (if a.time = e.time then e else a).time = a.time := fun a => by
    split
    · next h => exact h.symm
    · rfl
  refine List.pairwise_map.2 ?_
  simpa only [htime] using hl

theorem mem_replaceShift {e old : ShiftEntry} {l : List ShiftEntry} (hl : l.Pairwise (fun a b => a.time < b.time))
    (hold : old ∈ l) (ht : old.time = e.time) (a : ShiftEntry) : a ∈ replaceShift e l ↔ a = e ∨ (a ∈ l ∧ a ≠ old) := by
  simp only [replaceShift, List.mem_map]
  constructor
  · rintro ⟨b, hb, rfl⟩
    split
    · exact .inl rfl
    · next hbe => exact .inr ⟨hb, fun h => hbe (h ▸ ht)⟩
  · rintro (rfl | ⟨ha, hne⟩)
    · exact ⟨old, hold, if_pos ht⟩
    · exact ⟨a, ha, if_neg fun h => hne (eq_of_time_eq hl ha hold (h.trans ht.symm))⟩

/-! ### The insertion by its three cases (R62) -/

theorem insertShift_of_held {e old : ShiftEntry} {l : List ShiftEntry} (hl : l.Pairwise (fun a b => a.time < b.time))
    (hold : old ∈ l) (ht : old.time = e.time) : insertShift l e = (replaceShift e l, some old, none) := by
  unfold insertShift
  cases hf : l.find? (fun a => a.time = e.time) with
  | none => exact absurd ht (by simpa using List.find?_eq_none.1 hf old hold)
  | some x =>
    have hx : x.time = e.time := by simpa using List.find?_some hf
    obtain rfl : x = old := eq_of_time_eq hl (List.mem_of_find?_eq_some hf) hold (hx.trans ht.symm)
    rfl

theorem find?_time_eq_none {e : ShiftEntry} {l : List ShiftEntry} (hne : ∀ a ∈ l, a.time ≠ e.time) :
    l.find? (fun a => a.time = e.time) = none :=
  List.find?_eq_none.2 fun a ha => by simpa using hne a ha

theorem insertShift_of_room {e : ShiftEntry} {l : List ShiftEntry} (hne : ∀ a ∈ l, a.time ≠ e.time)
    (hlen : l.length < shiftCapacity) : insertShift l e = (placeShift e l, none, none) := by
  simp only [insertShift, find?_time_eq_none hne, if_pos hlen]

theorem insertShift_of_full {e : ShiftEntry} {l : List ShiftEntry} (hne : ∀ a ∈ l, a.time ≠ e.time)
    (hlen : l.length = shiftCapacity) : insertShift l e = (placeShift e (l.drop 1), none, l.head?) := by
  simp only [insertShift, find?_time_eq_none hne, hlen, lt_irrefl, if_false]

/-- The table stays in order and within its 16 entries (R59, R62). -/
theorem insertShift_keeps_tableOk {l : List ShiftEntry} (h : tableOk l) (e : ShiftEntry) : tableOk (insertShift l e).1 := by
  obtain ⟨hlen, hinc⟩ := h
  rw [shiftsIncrease_iff] at hinc
  rw [tableOk, shiftsIncrease_iff]
  by_cases hheld : ∃ old ∈ l, old.time = e.time
  · obtain ⟨old, hold, ht⟩ := hheld
    rw [insertShift_of_held hinc hold ht]
    exact ⟨(length_replaceShift e l).trans_le hlen, replaceShift_increases e hinc⟩
  · have hne : ∀ a ∈ l, a.time ≠ e.time := fun a ha ht => hheld ⟨a, ha, ht⟩
    rcases hlen.lt_or_eq with hroom | hfull
    · rw [insertShift_of_room hne hroom]
      exact ⟨(length_placeShift e l).trans_le hroom, placeShift_increases hinc hne⟩
    · rw [insertShift_of_full hne hfull]
      refine ⟨?_, placeShift_increases hinc.drop fun a ha => hne a (List.mem_of_mem_drop ha)⟩
      simp [hfull]

/-- Settles O32, by the three cases of the insertion: a held time, room, and a full table. -/
theorem shiftsAreInsertedInOrder : Obligations.ShiftsAreInsertedInOrder := by
  intro l e h
  have hinc := (shiftsIncrease_iff l).1 h.2
  refine ⟨insertShift_keeps_tableOk h e, fun old hold ht => ?_, fun hne hroom => ?_, fun hne hfull => ?_⟩
  · rw [insertShift_of_held hinc hold ht]
    exact ⟨rfl, length_replaceShift e l, mem_replaceShift hinc hold ht⟩
  · rw [insertShift_of_room hne hroom]
    exact ⟨rfl, length_placeShift e l, fun a => mem_placeShift⟩
  · rw [insertShift_of_full hne hfull]
    exact ⟨rfl, by simp [hfull], fun a => mem_placeShift⟩

end Sys2Proof.Machine
end

section
/-! SUPPORT. The discharge unit (R52, R69 to R77): the two roundings, the shift at a time, the version in force, and the lookup and
the inverse rating along the points of a version. A search along the points passes every segment below the one it looks for, so
each rule is stated of the segment it ends in. -/

namespace Sys2Proof.Machine

/-! ### The two roundings (00_scope.md) -/

theorem halfUp_bounds (n : Nat) {d : Nat} (hd : 0 < d) : d * halfUp n d ≤ n + d / 2 ∧ n + d / 2 < d * (halfUp n d + 1) :=
  ⟨Nat.mul_div_le _ _, Nat.lt_mul_div_succ _ hd⟩

theorem halfUp_mul_self (m : Nat) {d : Nat} (hd : 0 < d) : halfUp (m * d) d = m := by
  rw [halfUp, Nat.add_comm, Nat.add_mul_div_right _ _ hd, Nat.div_eq_of_lt (Nat.div_lt_self hd one_lt_two), zero_add]

@[simp] theorem halfUp_zero (d : Nat) : halfUp 0 d = 0 := by
  rcases Nat.eq_zero_or_pos d with rfl | hd
  · rfl
  · simpa using halfUp_mul_self 0 hd

/-- A part of a rise, rounded half up, is at most the rise. -/
theorem halfUp_mul_le {m k d : Nat} (hk : k ≤ d) (hd : 0 < d) : halfUp (m * k) d ≤ m := by
  calc halfUp (m * k) d ≤ halfUp (m * d) d := Nat.div_le_div_right (Nat.add_le_add_right (Nat.mul_le_mul_left m hk) _)
    _ = m := halfUp_mul_self m hd

@[simp] theorem halfAway_zero (d : Nat) : halfAway 0 d = 0 := by simp [halfAway]

theorem halfAway_mul_self (n : Int) {d : Nat} (hd : 0 < d) : halfAway (n * d) d = n := by
  have hd' : (0 : Int) < d := by exact_mod_cast hd
  simp only [halfAway, Int.natAbs_mul, Int.natAbs_natCast, halfUp_mul_self _ hd, mul_nonneg_iff_of_pos_right hd']
  split <;> omega

/-- The magnitude is rounded half up, and the sign restored. -/
theorem halfAway_spec (n : Int) {d : Nat} (hd : 0 < d) :
    ∃ q : Nat, halfAway n d = (if 0 ≤ n then (q : Int) else -(q : Int)) ∧
      d * q ≤ n.natAbs + d / 2 ∧ n.natAbs + d / 2 < d * (q + 1) :=
  ⟨halfUp n.natAbs d, rfl, halfUp_bounds n.natAbs hd⟩

theorem clamp_eq_max_min {lo hi : Int} (h : lo ≤ hi) (v : Int) : clamp lo hi v = max lo (min hi v) := by
  unfold clamp
  split <;> [skip; split] <;> omega

theorem not_stageOk (h : Int) : (!stageOk h) = decide (h < -2000 ∨ 20000 < h) := by
  simp only [stageOk, stageMin, stageMax, Bool.not_and, ← decide_not, not_le, Bool.decide_or]

/-! ### The shift at a time (R70) -/

theorem shiftAt_of_le_head {a : ShiftEntry} {l : List ShiftEntry} {t : Nat} (h : t ≤ a.time) : shiftAt (a :: l) t = a.shift := by
  cases l with
  | nil => rfl
  | cons b l => exact if_pos h

theorem shiftAt_skip {a b : ShiftEntry} {l : List ShiftEntry} {t : Nat} (hab : a.time < b.time) (hb : b.time ≤ t) :
    shiftAt (a :: b :: l) t = shiftAt (b :: l) t := by
  rw [shiftAt, if_neg (by omega), if_neg (by omega)]

/-- The entries before the last one that is not later than the time do not matter. -/
theorem shiftAt_append {before after : List ShiftEntry} {a : ShiftEntry} {t : Nat}
    (hl : (before ++ a :: after).Pairwise (fun x y => x.time < y.time)) (ha : a.time ≤ t) :
    shiftAt (before ++ a :: after) t = shiftAt (a :: after) t := by
  induction before with
  | nil => rfl
  | cons x before ih =>
    obtain ⟨hx, hrest⟩ := List.pairwise_cons.1 hl
    rw [← ih hrest]
    cases before with
    | nil => exact shiftAt_skip (hx a (by simp)) ha
    | cons y before =>
      have hya : y.time < a.time := List.rel_of_pairwise_cons hrest (by simp)
      exact shiftAt_skip (hx y (by simp)) (hya.le.trans ha)

/-- Between two neighbours, both included, the shift is prorated. -/
theorem shiftAt_between {a b : ShiftEntry} {l : List ShiftEntry} {t : Nat} (hab : a.time < b.time) (ha : a.time ≤ t)
    (hb : t ≤ b.time) : shiftAt (a :: b :: l) t = prorate a b t := by
  rcases ha.eq_or_lt with rfl | ha
  · simp [shiftAt_of_le_head, prorate]
  rcases hb.eq_or_lt with rfl | hb
  · have hrise : (b.time : Int) - a.time = (b.time - a.time : Nat) := by omega
    rw [shiftAt_skip hab le_rfl, shiftAt_of_le_head le_rfl, prorate, hrise, halfAway_mul_self _ (Nat.sub_pos_of_lt hab)]
    omega
  · rw [shiftAt, if_neg (by omega), if_pos hb]

/-! ### The version in force (R52) -/

theorem foldl_laterVersion_spec (l : List RatingVersion) (b : RatingVersion) :
    ∃ v, l.foldl laterVersion (some b) = some v ∧ v ∈ b :: l ∧ ∀ w ∈ b :: l, w.effective ≤ v.effective := by
  induction l generalizing b with
  | nil => exact ⟨b, rfl, by simp, by simp⟩
  | cons c l ih =>
    rw [List.foldl_cons, laterVersion]
    split
    · next hbc =>
      obtain ⟨v, hv, hmem, hmax⟩ := ih c
      have hcv := hmax c List.mem_cons_self
      exact ⟨v, hv, List.mem_cons_of_mem b hmem, List.forall_mem_cons.2 ⟨by omega, hmax⟩⟩
    · next hbc =>
      obtain ⟨v, hv, hmem, hmax⟩ := ih b
      obtain ⟨hbv, hl⟩ := List.forall_mem_cons.1 hmax
      refine ⟨v, hv, ?_, List.forall_mem_cons.2 ⟨hbv, List.forall_mem_cons.2 ⟨by omega, hl⟩⟩⟩
      rcases List.mem_cons.1 hmem with rfl | hmem <;> simp [*]

/-- No version is in force where all are later; else one is in force, and it is the latest of those not later. -/
theorem inForce_cases (l : List RatingVersion) (t : Nat) :
    ((∀ v ∈ l, t < v.effective) ∧ inForce l t = none) ∨
      ∃ v ∈ l, v.effective ≤ t ∧ inForce l t = some v ∧ ∀ w ∈ l, w.effective ≤ t → w.effective ≤ v.effective := by
  have hmem : ∀ v, v ∈ l.filter (fun v => decide (v.effective ≤ t)) ↔ v ∈ l ∧ v.effective ≤ t := by simp
  cases hf : l.filter (fun v => decide (v.effective ≤ t)) with
  | nil =>
    have hlater : ∀ v ∈ l, t < v.effective := by simpa using hf
    exact .inl ⟨hlater, by rw [inForce, hf]; rfl⟩
  | cons b k =>
    obtain ⟨v, hv, hin, hmax⟩ := foldl_laterVersion_spec k b
    rw [← hf] at hin hmax
    obtain ⟨hvl, hvt⟩ := (hmem v).1 hin
    exact .inr ⟨v, hvl, hvt, by rw [inForce, hf]; exact hv, fun w hw hwt => hmax w ((hmem w).2 ⟨hw, hwt⟩)⟩

theorem inForce_eq_none_iff (l : List RatingVersion) (t : Nat) : inForce l t = none ↔ ∀ v ∈ l, t < v.effective := by
  rcases inForce_cases l t with ⟨hlater, hn⟩ | ⟨v, hv, hvt, hs, -⟩
  · exact ⟨fun _ => hlater, fun _ => hn⟩
  · exact ⟨fun hn => by simp [hn] at hs, fun hlater => absurd (hlater v hv) (not_lt.2 hvt)⟩

theorem inForce_spec {l : List RatingVersion} {t : Nat} {v : RatingVersion} (h : inForce l t = some v) :
    v ∈ l ∧ v.effective ≤ t ∧ ∀ w ∈ l, w.effective ≤ t → w.effective ≤ v.effective := by
  rcases inForce_cases l t with ⟨-, hn⟩ | ⟨u, hu, hut, hs, hmax⟩
  · simp [hn] at h
  · obtain rfl : u = v := by simpa [hs] using h
    exact ⟨hu, hut, hmax⟩

/-! ### The computation at a stage and a time (R69, R71, R72) -/

theorem rate_of_none (r : RatingStore) (h : Int) (t : Nat) (hn : inForce r.versions t = none) :
    r.rate h t =
      { discharge := none, ratingId := none, shift := none
        flags := { DischargeFlags.none with noRating := true, stageClamped := !stageOk (h + shiftAt r.shifts t) } } := by
  simp only [RatingStore.rate, hn]

theorem rate_of_some (r : RatingStore) (h : Int) (t : Nat) {v : RatingVersion} (hv : inForce r.versions t = some v)
    {q : Nat × Bool × Bool × Bool} (hq : q = lookup v.points (clamp stageMin stageMax (h + shiftAt r.shifts t))) :
    r.rate h t =
      { discharge := some q.1, ratingId := some v.id, shift := some (shiftAt r.shifts t)
        flags :=
          { belowRating := q.2.1, aboveRating := q.2.2.1, saturated := q.2.2.2, noRating := false
            stageClamped := !stageOk (h + shiftAt r.shifts t) } } := by
  simp only [RatingStore.rate, hv, hq]

/-! ### The points of a version (R44) -/

/-- The order of R44: stages strictly increase, discharges do not decrease. -/
def PointsRise (a b : RatingPoint) : Prop := a.stage < b.stage ∧ a.discharge ≤ b.discharge

theorem PointsRise.trans {a b c : RatingPoint} (hab : PointsRise a b) (hbc : PointsRise b c) : PointsRise a c :=
  ⟨hab.1.trans hbc.1, hab.2.trans hbc.2⟩

theorem pointsOrdered_iff (l : List RatingPoint) : pointsOrdered l = true ↔ l.Pairwise PointsRise := by
  have : IsTrans RatingPoint PointsRise := ⟨fun _ _ _ => PointsRise.trans⟩
  rw [← List.isChain_iff_pairwise]
  induction l using pointsOrdered.induct with
  | case1 => simp [pointsOrdered]
  | case2 a => simp [pointsOrdered]
  | case3 a b l ih => simp [pointsOrdered, ih, PointsRise]

theorem pointsValid_iff (l : List RatingPoint) :
    pointsValid l = true ↔
      (2 ≤ l.length ∧ l.length ≤ 32) ∧ (∀ a ∈ l, (stageMin ≤ a.stage ∧ a.stage ≤ stageMax) ∧ a.discharge ≤ qMax) ∧
        l.Pairwise PointsRise := by
  simp only [pointsValid, within, stageOk, Bool.and_eq_true, decide_eq_true_eq, List.all_eq_true, pointsOrdered_iff, and_assoc]

theorem rises_of_pointsValid {l : List RatingPoint} (h : pointsValid l = true) : l.Pairwise PointsRise := by
  obtain ⟨-, -, hrise⟩ := (pointsValid_iff l).1 h
  exact hrise

/-- A search along the segments passes those whose upper point it is not below. -/
theorem segments_passed {β : Type} {f : List RatingPoint → β} {P : RatingPoint → Prop}
    (hf : ∀ x y z l, P y → f (x :: y :: z :: l) = f (y :: z :: l)) (before : List RatingPoint) {a b : RatingPoint}
    {after : List RatingPoint} (hbefore : ∀ p ∈ before, P p) (ha : P a) :
    f (before ++ a :: b :: after) = f (a :: b :: after) := by
  induction before with
  | nil => rfl
  | cons x before ih =>
    obtain ⟨-, hrest⟩ := List.forall_mem_cons.1 hbefore
    rw [← ih hrest]
    match before with
    | [] => exact hf x a b after ha
    | [y] => exact hf x y a _ (hrest y (by simp))
    | y :: z :: before => exact hf x y z _ (hrest y (by simp))

theorem rises_to {before after : List RatingPoint} {a : RatingPoint} (h : (before ++ a :: after).Pairwise PointsRise) :
    ∀ p ∈ before, PointsRise p a := by
  obtain ⟨-, -, hcross⟩ := List.pairwise_append.1 h
  exact fun p hp => hcross p hp a List.mem_cons_self

theorem rises_of_neighbours {before after : List RatingPoint} {a b : RatingPoint}
    (h : (before ++ a :: b :: after).Pairwise PointsRise) : PointsRise a b := by
  obtain ⟨-, htail, -⟩ := List.pairwise_append.1 h
  exact List.rel_of_pairwise_cons htail List.mem_cons_self

/-! ### The lookup (R73, R74, R75) -/

theorem lookupFrom_skip {x y z : RatingPoint} {l : List RatingPoint} {he : Int} (h : y.stage ≤ he) :
    lookupFrom (x :: y :: z :: l) he = lookupFrom (y :: z :: l) he := by
  rw [lookupFrom, if_neg (not_lt.2 h)]

theorem lookupFrom_of_lt {a b : RatingPoint} {l : List RatingPoint} {he : Int} (h : he < b.stage) :
    lookupFrom (a :: b :: l) he = (onSegment a b a he, false, false) := by
  cases l <;> exact if_pos h

theorem lookupFrom_at_last (a b : RatingPoint) : lookupFrom [a, b] b.stage = (b.discharge, false, false) := by
  simp [lookupFrom]

theorem lookupFrom_above {a b : RatingPoint} {he : Int} (h : b.stage < he) :
    lookupFrom [a, b] he =
      if qMax < onSegment a b b he then (qMax, true, true) else (onSegment a b b he, true, false) := by
  rw [lookupFrom, if_neg (not_lt.2 h.le), if_neg h.ne']

theorem lookup_below {a : RatingPoint} {l : List RatingPoint} {he : Int} (h : he < a.stage) :
    lookup (a :: l) he = (a.discharge, decide (0 < a.discharge), false, false) := if_pos h

theorem lookup_from_first {a : RatingPoint} {l : List RatingPoint} {he : Int} (h : a.stage ≤ he) :
    lookup (a :: l) he = ((lookupFrom (a :: l) he).1, false, (lookupFrom (a :: l) he).2) := if_neg (not_lt.2 h)

/-- From a point not above the effective stage on, the lookup is that of the points from there. -/
theorem lookup_append {before after : List RatingPoint} {a b : RatingPoint} {he : Int}
    (hl : (before ++ a :: b :: after).Pairwise PointsRise) (ha : a.stage ≤ he) :
    lookup (before ++ a :: b :: after) he =
      ((lookupFrom (a :: b :: after) he).1, false, (lookupFrom (a :: b :: after) he).2) := by
  have hbefore : ∀ p ∈ before, p.stage ≤ he := fun p hp => (rises_to hl p hp).1.le.trans ha
  rw [← segments_passed (f := fun l => lookupFrom l he) (P := fun p => p.stage ≤ he)
    (fun _ _ _ _ => lookupFrom_skip) before hbefore ha]
  cases before with
  | nil => exact lookup_from_first ha
  | cons x before => exact lookup_from_first (hbefore x List.mem_cons_self)

theorem onSegment_le {a b : RatingPoint} {he : Int} (hab : PointsRise a b) (h : he < b.stage) :
    onSegment a b a he ≤ b.discharge := by
  obtain ⟨hstage, hdischarge⟩ := hab
  have hrise : halfUp ((b.discharge - a.discharge) * diff he a.stage) (diff b.stage a.stage) ≤ b.discharge - a.discharge :=
    halfUp_mul_le (by unfold diff; omega) (by unfold diff; omega)
  unfold onSegment
  omega

theorem lookupFrom_le {l : List RatingPoint} (he : Int) (hl : l.Pairwise PointsRise) (hq : ∀ p ∈ l, p.discharge ≤ qMax) :
    (lookupFrom l he).1 ≤ qMax := by
  induction l with
  | nil => simp [lookupFrom]
  | cons a l ih =>
    obtain ⟨ha, hl⟩ := List.pairwise_cons.1 hl
    obtain ⟨hqa, hq⟩ := List.forall_mem_cons.1 hq
    cases l with
    | nil => exact hqa
    | cons b l =>
      have hqb := hq b List.mem_cons_self
      rcases lt_or_ge he b.stage with hlt | hge
      · rw [lookupFrom_of_lt hlt]
        exact (onSegment_le (ha b List.mem_cons_self) hlt).trans hqb
      cases l with
      | cons c l => rw [lookupFrom_skip hge]; exact ih hl hq
      | nil =>
        rcases hge.eq_or_lt with rfl | hgt
        · rwa [lookupFrom_at_last]
        · rw [lookupFrom_above hgt]
          split
          · exact le_rfl
          · next hle => exact not_lt.1 hle

theorem lookup_le {l : List RatingPoint} (he : Int) (hl : l.Pairwise PointsRise) (hq : ∀ p ∈ l, p.discharge ≤ qMax) :
    (lookup l he).1 ≤ qMax := by
  cases l with
  | nil => simp [lookup]
  | cons a l =>
    rcases lt_or_ge he a.stage with hlt | hge
    · rw [lookup_below hlt]
      exact hq a List.mem_cons_self
    · rw [lookup_from_first hge]
      exact lookupFrom_le he hl hq

theorem lookup_on_segment {before after : List RatingPoint} {a b : RatingPoint} {he : Int}
    (h : pointsValid (before ++ a :: b :: after) = true) (ha : a.stage ≤ he) (hb : he < b.stage) :
    lookup (before ++ a :: b :: after) he = (onSegment a b a he, false, false, false) := by
  rw [lookup_append (rises_of_pointsValid h) ha, lookupFrom_of_lt hb]

theorem lookup_above {before : List RatingPoint} {a z : RatingPoint} {he : Int}
    (h : pointsValid (before ++ [a, z]) = true) (hz : z.stage < he) :
    lookup (before ++ [a, z]) he =
      if qMax < onSegment a z z he then (qMax, false, true, true) else (onSegment a z z he, false, true, false) := by
  have hrise := rises_of_pointsValid h
  rw [lookup_append hrise ((rises_of_neighbours hrise).1.trans hz).le, lookupFrom_above hz]
  split <;> rfl

/-- A version has two points or more, so that its last point ends a segment. -/
theorem last_ends_segment {before : List RatingPoint} {z : RatingPoint} (h : pointsValid (before ++ [z]) = true) :
    ∃ front a, before = front ++ [a] := by
  obtain ⟨⟨hlen, -⟩, -⟩ := (pointsValid_iff _).1 h
  rcases List.eq_nil_or_concat before with rfl | hfront
  · simp at hlen
  · simpa using hfront

theorem lookup_at_last {before : List RatingPoint} {z : RatingPoint} (h : pointsValid (before ++ [z]) = true) :
    lookup (before ++ [z]) z.stage = (z.discharge, false, false, false) := by
  obtain ⟨front, a, rfl⟩ := last_ends_segment h
  rw [List.append_assoc, List.singleton_append] at h ⊢
  have hrise := rises_of_pointsValid h
  rw [lookup_append hrise (rises_of_neighbours hrise).1.le, lookupFrom_at_last]

/-! ### The inverse rating (R76, R77) -/

theorem inverseFrom_skip {x y z : RatingPoint} {l : List RatingPoint} {q : Nat} (h : y.discharge ≤ q) :
    inverseFrom (x :: y :: z :: l) q = inverseFrom (y :: z :: l) q := by
  simp [inverseFrom, not_lt.2 h]

theorem inverseFrom_on_segment {a b : RatingPoint} {l : List RatingPoint} {q : Nat} (ha : a.discharge ≤ q)
    (hb : q < b.discharge) : inverseFrom (a :: b :: l) q = some (stageOn a b a q) := by
  cases l <;> simp [inverseFrom, ha, hb]

theorem inverseFrom_above {a z : RatingPoint} {q : Nat} (hz : z.discharge ≤ q) :
    inverseFrom [a, z] q = if a.discharge < z.discharge then some (min stageMax (stageOn a z z q)) else none := by
  simp [inverseFrom, not_lt.2 hz]

theorem inverse_below {a : RatingPoint} {l : List RatingPoint} {q : Nat} (h : q < a.discharge) : inverse (a :: l) q = none :=
  if_pos h

theorem inverse_from_first {a : RatingPoint} {l : List RatingPoint} {q : Nat} (h : a.discharge ≤ q) :
    inverse (a :: l) q = inverseFrom (a :: l) q := if_neg (not_lt.2 h)

/-- From a point whose discharge is not above the given one on, the inverse is that of the points from there. -/
theorem inverse_append {before after : List RatingPoint} {a b : RatingPoint} {q : Nat}
    (hl : (before ++ a :: b :: after).Pairwise PointsRise) (ha : a.discharge ≤ q) :
    inverse (before ++ a :: b :: after) q = inverseFrom (a :: b :: after) q := by
  have hbefore : ∀ p ∈ before, p.discharge ≤ q := fun p hp => (rises_to hl p hp).2.trans ha
  rw [← segments_passed (f := fun l => inverseFrom l q) (P := fun p => p.discharge ≤ q)
    (fun _ _ _ _ => inverseFrom_skip) before hbefore ha]
  cases before with
  | nil => exact inverse_from_first ha
  | cons x before => exact inverse_from_first (hbefore x List.mem_cons_self)

/-- At or above the one discharge of a flat version no segment holds the discharge, and the last is flat. -/
theorem inverseFrom_flat {l : List RatingPoint} {d q : Nat} (hl : ∀ p ∈ l, p.discharge = d) (hq : d ≤ q) :
    inverseFrom l q = none := by
  induction l with
  | nil => rfl
  | cons a l ih =>
    obtain ⟨ha, hl⟩ := List.forall_mem_cons.1 hl
    cases l with
    | nil => rfl
    | cons b l =>
      have hb := hl b List.mem_cons_self
      cases l with
      | nil => rw [inverseFrom_above (hb.trans_le hq), if_neg (by omega)]
      | cons c l => rw [inverseFrom_skip (hb.trans_le hq)]; exact ih hl

theorem inverse_flat {l : List RatingPoint} {d : Nat} (hl : ∀ p ∈ l, p.discharge = d) (q : Nat) : inverse l q = none := by
  cases l with
  | nil => rfl
  | cons a l =>
    have ha := hl a List.mem_cons_self
    rcases lt_or_ge q a.discharge with hlt | hge
    · exact inverse_below hlt
    · rw [inverse_from_first hge]
      exact inverseFrom_flat hl (ha ▸ hge)

theorem inverse_on_segment {before after : List RatingPoint} {a b : RatingPoint} {q : Nat}
    (h : pointsValid (before ++ a :: b :: after) = true) (ha : a.discharge ≤ q) (hb : q < b.discharge) :
    inverse (before ++ a :: b :: after) q = some (stageOn a b a q) := by
  rw [inverse_append (rises_of_pointsValid h) ha, inverseFrom_on_segment ha hb]

theorem inverse_above {before : List RatingPoint} {a z : RatingPoint} {q : Nat}
    (h : pointsValid (before ++ [a, z]) = true) (hz : z.discharge ≤ q) :
    inverse (before ++ [a, z]) q = if a.discharge < z.discharge then some (min stageMax (stageOn a z z q)) else none := by
  have hrise := rises_of_pointsValid h
  rw [inverse_append hrise ((rises_of_neighbours hrise).2.trans hz), inverseFrom_above hz]

/-- Settles O35, rule by rule: the rounding, the shift, the version in force, the computation, the lookup and the inverse. -/
theorem theLookupInterpolates : Obligations.TheLookupInterpolates := by
  refine ⟨fun n d hd => halfAway_spec n hd, ?shift, fun l t => ⟨inForce_eq_none_iff l t, fun v => inForce_spec⟩, ?rate,
    fun before after a b he => lookup_on_segment, fun before z => lookup_at_last, ?below, ?above, ?bound,
    fun a l q => inverse_below, fun l q d h => inverse_flat h q, fun before after a b q => inverse_on_segment,
    ?inverseAbove⟩
  case shift =>
    refine fun t => ⟨rfl, fun a l h => shiftAt_of_le_head h, fun l hl => ?_⟩
    rw [shiftsIncrease_iff] at hl
    constructor
    · rintro before z rfl hz
      rw [shiftAt_append hl hz, shiftAt]
    · rintro before a b after rfl ha hb
      obtain ⟨-, htail, -⟩ := List.pairwise_append.1 hl
      have hab : a.time < b.time := List.rel_of_pairwise_cons htail List.mem_cons_self
      rw [shiftAt_append hl ha, shiftAt_between hab ha hb, prorate]
  case rate =>
    rintro r h t e rfl clamped rfl
    rw [← not_stageOk]
    refine ⟨rate_of_none r h t, fun v hv q hq => rate_of_some r h t hv ?_⟩
    rw [hq, clamp_eq_max_min (by decide)]
  case below =>
    intro a l he h
    simp only [lookup_below h, Nat.pos_iff_ne_zero]
  case above =>
    rintro before a z he h hz q rfl
    rw [lookup_above h hz]
    exact ⟨fun hq => if_pos hq, fun hq => if_neg (not_lt.2 hq)⟩
  case bound =>
    intro l he h
    obtain ⟨-, hpoints, hrise⟩ := (pointsValid_iff l).1 h
    exact lookup_le he hrise fun p hp => (hpoints p hp).2
  case inverseAbove =>
    intro before a z q h hz
    rw [inverse_above h hz]
    exact ⟨fun hflat => if_neg hflat.not_lt, fun hrise => if_pos hrise⟩

end Sys2Proof.Machine
end

section
/-! SUPPORT. The warning unit (R82 to R85): what an observation makes of one record, by the rows of the table of R84, and the level
that eight records form, the greatest of the levels that each gives by itself. -/

namespace Sys2Proof.Machine

/-! ### One record and one observation (R82, R83) -/

theorem evaluateRecord_disabled (o : Observation) {t : ThresholdSettings} (l : ThresholdLive) (h : t.enabled = false) :
    evaluateRecord o t l = l := by
  simp [evaluateRecord, h]

theorem evaluateRecord_absent {o : Observation} {t : ThresholdSettings} (l : ThresholdLive)
    (h : quantityValue t.quantity o = none) : evaluateRecord o t l = l := by
  simp [evaluateRecord, h]

theorem evaluateRecord_present {o : Observation} {t : ThresholdSettings} {v : Int} (l : ThresholdLive) (h : t.enabled = true)
    (hv : quantityValue t.quantity o = some v) : evaluateRecord o t l = l.step t v := by
  simp [evaluateRecord, h, hv]

/-! ### The table of R84 -/

theorem ThresholdLive.count1_reaches {l : ThresholdLive} {p : Nat} (h : l.count + 1 = p) :
    l.count1 p = { active := !l.active, count := 0 } := if_pos h

theorem ThresholdLive.count1_goes_on {l : ThresholdLive} {p : Nat} (h : l.count + 1 ≠ p) :
    l.count1 p = { active := l.active, count := l.count + 1 } := if_neg h

section
variable {l : ThresholdLive} {t : ThresholdSettings} {v : Int}

theorem ThresholdLive.step_inactive_above (ha : l.active = false) (hv : t.level < v) : l.step t v = l.count1 t.persistence := by
  simp [ThresholdLive.step, ha, hv]

theorem ThresholdLive.step_inactive_within (ha : l.active = false) (hv : v ≤ t.level) :
    l.step t v = { active := false, count := 0 } := by
  simp [ThresholdLive.step, ha, not_lt.2 hv]

theorem ThresholdLive.step_active_cleared (ha : l.active = true) (hv : v ≤ t.clearLevel) :
    l.step t v = l.count1 t.persistence := by
  simp [ThresholdLive.step, ha, hv]

theorem ThresholdLive.step_active_held (ha : l.active = true) (hv : t.clearLevel < v) :
    l.step t v = { active := true, count := 0 } := by
  simp [ThresholdLive.step, ha, not_le.2 hv]

end

/-! ### The highest of several levels (R85) -/

theorem levelHigher_cases (a b : Level) : levelHigher a b = a ∨ levelHigher a b = b := (ite_eq_or_eq _ b a).symm

theorem levelRank_levelHigher (a b : Level) : levelRank (levelHigher a b) = max (levelRank a) (levelRank b) := by
  rw [levelHigher, apply_ite levelRank, max_def]

/-- The fold of `levelHigher` is one of the levels it is given, and the greatest of them. -/
theorem foldl_levelHigher_spec (ls : List Level) (b : Level) :
    ls.foldl levelHigher b ∈ b :: ls ∧ ∀ a ∈ b :: ls, levelRank a ≤ levelRank (ls.foldl levelHigher b) := by
  induction ls generalizing b with
  | nil => simp
  | cons c ls ih =>
    obtain ⟨hmem, hmax⟩ := ih (levelHigher b c)
    obtain ⟨hhigher, hls⟩ := List.forall_mem_cons.1 hmax
    rw [levelRank_levelHigher, max_le_iff] at hhigher
    obtain ⟨hb, hc⟩ := hhigher
    refine ⟨?_, List.forall_mem_cons.2 ⟨hb, List.forall_mem_cons.2 ⟨hc, hls⟩⟩⟩
    rw [List.foldl_cons]
    rcases List.mem_cons.1 hmem with heq | hmem
    · rw [heq]
      rcases levelHigher_cases b c with h | h <;> simp [h]
    · exact List.mem_cons_of_mem b (List.mem_cons_of_mem c hmem)

/-! ### The level that the records form (R85) -/

@[simp] theorem Eight.get_zip {α β γ : Type} (f : α → β → γ) (x : Eight α) (y : Eight β) (n : Fin 8) :
    (Eight.zip f x y).get n = f (x.get n) (y.get n) := by
  match n with
  | 0 => rfl | 1 => rfl | 2 => rfl | 3 => rfl | 4 => rfl | 5 => rfl | 6 => rfl | 7 => rfl

theorem Eight.toList_eq_ofFn {α : Type} (b : Eight α) : b.toList = List.ofFn b.get := rfl

@[simp] theorem Eight.mem_toList {α : Type} {b : Eight α} {a : α} : a ∈ b.toList ↔ ∃ n, b.get n = a := by
  rw [Eight.toList_eq_ofFn, List.mem_ofFn', Set.mem_range]

/-- The level that one record gives by itself: its severity while it is ACTIVE. -/
def recordLevel (t : ThresholdSettings) (l : ThresholdLive) : Level := if l.active then severityLevel t.severity else .clear

theorem recordLevel_active (t : ThresholdSettings) {l : ThresholdLive} (h : l.active = true) :
    recordLevel t l = severityLevel t.severity := if_pos h

theorem recordLevel_inactive (t : ThresholdSettings) {l : ThresholdLive} (h : l.active = false) : recordLevel t l = .clear :=
  if_neg (by simp [h])

theorem Warning.formed_eq_foldl (w : Warning) :
    w.formed = (Eight.zip recordLevel w.settings w.live).toList.foldl levelHigher .clear := rfl

/-- Each record's own level is at most the level formed. -/
theorem Warning.recordLevel_le_formed (w : Warning) (n : Fin 8) :
    levelRank (recordLevel (w.settings.get n) (w.live.get n)) ≤ levelRank w.formed := by
  obtain ⟨-, hmax⟩ := foldl_levelHigher_spec (Eight.zip recordLevel w.settings w.live).toList .clear
  exact hmax _ (List.mem_cons_of_mem _ (Eight.mem_toList.2 ⟨n, Eight.get_zip recordLevel w.settings w.live n⟩))

/-- The level formed is CLEAR or the severity of an ACTIVE record. -/
theorem Warning.formed_cases (w : Warning) :
    w.formed = .clear ∨ ∃ n : Fin 8, (w.live.get n).active = true ∧ w.formed = severityLevel (w.settings.get n).severity := by
  obtain ⟨hmem, -⟩ := foldl_levelHigher_spec (Eight.zip recordLevel w.settings w.live).toList .clear
  rw [← Warning.formed_eq_foldl] at hmem
  rcases List.mem_cons.1 hmem with hclear | hmem
  · exact .inl hclear
  · obtain ⟨n, hn⟩ := Eight.mem_toList.1 hmem
    rw [Eight.get_zip] at hn
    cases ha : (w.live.get n).active with
    | true => exact .inr ⟨n, ha, hn.symm.trans (recordLevel_active _ ha)⟩
    | false => exact .inl (hn.symm.trans (recordLevel_inactive _ ha))

theorem Warning.formed_of_inactive {w : Warning} (h : ∀ n : Fin 8, (w.live.get n).active = false) : w.formed = .clear := by
  rcases w.formed_cases with hclear | ⟨n, ha, -⟩
  · exact hclear
  · exact absurd ha (by simp [h n])

/-- Settles O44: a present value by the rows of R84, and the level formed by the greatest of the records' own levels. -/
theorem anEnabledRecordFollowsTheTable : Obligations.AnEnabledRecordFollowsTheTable := by
  refine ⟨fun o t l => ⟨evaluateRecord_disabled o l, evaluateRecord_absent l⟩,
    fun o => ⟨rfl, rfl, fun h => ?absentFlow, fun v h => ?presentFlow⟩,
    fun w => ⟨fun n ha => ?highest, Warning.formed_of_inactive, w.formed_cases⟩, fun o t l v ht hv => ?table⟩
  case absentFlow => simp [quantityValue, h]
  case presentFlow => simp [quantityValue, h]
  case highest =>
    rw [← recordLevel_active (w.settings.get n) ha]
    exact w.recordLevel_le_formed n
  case table =>
    rw [evaluateRecord_present l ht hv]
    refine ⟨fun ha hlt hp => ?_, fun ha hlt hp => ?_, ThresholdLive.step_inactive_within, fun ha hle hp => ?_,
      fun ha hle hp => ?_, ThresholdLive.step_active_held⟩
    · rw [ThresholdLive.step_inactive_above ha hlt, ThresholdLive.count1_reaches hp, ha, Bool.not_false]
    · rw [ThresholdLive.step_inactive_above ha hlt, ThresholdLive.count1_goes_on hp, ha]
    · rw [ThresholdLive.step_active_cleared ha hle, ThresholdLive.count1_reaches hp, ha, Bool.not_true]
    · rw [ThresholdLive.step_active_cleared ha hle, ThresholdLive.count1_goes_on hp, ha]

end Sys2Proof.Machine
end

section
/-! SUPPORT. What the handing of notices and records, and the archive's events, keep: the bounds of the notice queue, the form of the
archive, the frame in progress on Port L, and the run and the exposure of the gauging unit (R130, R157, R160, R167, R188). -/

namespace Sys2Proof.Machine

/-! ### The ports -/

/-- The frame on Port L stays, and a packet that Port T sends stays a packet. -/
structure Ports.Kept (ps qs : Ports) : Prop where
  frame : qs.l.frame = ps.l.frame
  packet : (∃ n, ps.t.sending = some (.notice n)) → ∃ n, qs.t.sending = some (.notice n)

theorem Ports.Kept.refl (ps : Ports) : ps.Kept ps := ⟨rfl, id⟩

theorem Ports.Kept.trans {ps qs rs : Ports} (h : ps.Kept qs) (k : qs.Kept rs) : ps.Kept rs :=
  ⟨k.frame.trans h.frame, fun n => k.packet (h.packet n)⟩

theorem Ports.Kept.of_eq {ps qs : Ports} (hl : qs.l.frame = ps.l.frame) (ht : qs.t.sending = ps.t.sending) : ps.Kept qs :=
  ⟨hl, fun h => by rwa [ht]⟩

theorem Ports.kept_setSlot (ps : Ports) (p : Port) (o : Option Owed) : ps.Kept (ps.setSlot p o) := by
  cases p <;> exact .of_eq rfl rfl

theorem Ports.kept_answer (ps : Ports) (p : Port) (r : Result) (a : Payload) : ps.Kept (ps.answer p r a) := by
  unfold Ports.answer
  cases ps.slot p with
  | none => exact .refl ps
  | some o =>
    simp only
    split
    · exact .refl ps
    · cases p <;> exact .of_eq rfl rfl

theorem Ports.kept_resolve (ps : Ports) (p : Port) : ps.Kept (ps.resolve p) := by
  unfold Ports.resolve
  cases ps.slot p with
  | none => exact .refl ps
  | some o =>
    simp only
    split
    · exact ps.kept_answer p _ _
    · exact .refl ps

theorem Ports.kept_report (ps : Ports) (p : Port) (id : Nat) (f : Owed → Owed) : ps.Kept (ps.report p id f) := by
  unfold Ports.report
  cases ps.slot p with
  | none => exact .refl ps
  | some o =>
    simp only
    split
    · exact (ps.kept_setSlot p _).trans (Ports.kept_resolve _ p)
    · exact .refl ps

theorem Ports.kept_await (ps : Ports) (p : Port) (f : Owed → Owed) : ps.Kept (ps.await p f) := by
  unfold Ports.await
  cases ps.slot p with
  | none => exact .refl ps
  | some o => exact ps.kept_setSlot p _

theorem Ports.kept_answerGauging (ps : Ports) (g : Gauging) (p : Port) : ps.Kept (ps.answerGauging g p) := by
  unfold Ports.answerGauging
  split
  · exact .refl ps
  · split
    · exact .refl ps
    · exact ps.kept_answer p _ _

theorem PortAsync.noteLoss_packet (a : PortAsync) (h : ∃ n, a.sending = some (.notice n)) :
    ∃ n, a.noteLoss.sending = some (.notice n) := by
  obtain ⟨n, hn⟩ := h
  exact ⟨{ n with lossSince := true }, by simp [PortAsync.noteLoss, hn]⟩

theorem Ports.kept_noteLoss (ps : Ports) : ps.Kept { ps with t := ps.t.noteLoss } := ⟨rfl, ps.t.noteLoss_packet⟩

/-! ### The notice queue (R188 to R190) -/

/-- The bounds of the notice queue beside what the ports send (R188). -/
def noticesOk (q : NoticeQueue) (ps : Ports) : Prop :=
  q.held.length ≤ noticeCapacity ∧ countNotices Notice.isLevel q.held ≤ 1 ∧ countNotices (·.inTransmission) q.held ≤ 1 ∧
    (countNotices (·.inTransmission) q.held = 1 → ∃ n, ps.t.sending = some (.notice n))

theorem noticesOk_iff (s : State) : NoticesOk s ↔ noticesOk s.notices s.ports := Iff.rfl

theorem noticesOk_ports {q : NoticeQueue} {ps qs : Ports} (h : noticesOk q ps) (k : ps.Kept qs) : noticesOk q qs :=
  ⟨h.1, h.2.1, h.2.2.1, fun hc => k.packet (h.2.2.2 hc)⟩

theorem countNotices_cons (f : Notice → Bool) (n : Notice) (l : List Notice) :
    countNotices f (n :: l) = (if f n then 1 else 0) + countNotices f l := by
  by_cases h : f n <;> simp [countNotices, h, Nat.add_comm]

theorem countNotices_append (f : Notice → Bool) (l m : List Notice) :
    countNotices f (l ++ m) = countNotices f l + countNotices f m := by
  simp [countNotices]

theorem countNotices_none {f : Notice → Bool} {l : List Notice} (h : l.any f = false) : countNotices f l = 0 := by
  simpa [countNotices] using h

/-- A LEVEL notice that replaces another is one LEVEL notice, not in transmission. -/
theorem Notice.replaceWith_isLevel (m : Notice) (time : Nat) (body : NoticeBody) :
    (m.replaceWith time body).isLevel = Notice.isLevel ⟨time, body, false⟩ ∧
      (m.replaceWith time body).inTransmission = false := by
  unfold Notice.replaceWith
  split <;> exact ⟨rfl, rfl⟩

/-- The replacement of the LEVEL notices of a list adds no LEVEL notice and no transmission. -/
theorem countNotices_replace (l : List Notice) (time : Nat) (body : NoticeBody) :
    countNotices Notice.isLevel (l.map (fun m => if m.isLevel then m.replaceWith time body else m)) ≤
        countNotices Notice.isLevel l ∧
      countNotices (·.inTransmission) (l.map (fun m => if m.isLevel then m.replaceWith time body else m)) ≤
        countNotices (·.inTransmission) l := by
  induction l with
  | nil => exact ⟨Nat.le_refl _, Nat.le_refl _⟩
  | cons m l ih =>
    obtain ⟨ihl, iht⟩ := ih
    obtain ⟨-, ht⟩ := m.replaceWith_isLevel time body
    simp only [List.map_cons, countNotices_cons]
    cases hm : m.isLevel with
    | false => simp only [Bool.false_eq_true, if_false, hm]; omega
    | true => simp only [if_true, ht, Bool.false_eq_true, if_false]; split <;> omega

/-- A list without its oldest notice of a kind has no more of any notices. -/
theorem countNotices_removeOldest (f : Notice → Bool) (k : Nat) (l : List Notice) :
    countNotices f (removeOldest k l) ≤ countNotices f l := by
  induction l with
  | nil => exact Nat.le_refl _
  | cons n l ih =>
    unfold removeOldest
    split <;> simp only [countNotices_cons] <;> omega

theorem removeOldest_length_lt {k : Nat} {l : List Notice} (h : ∃ n ∈ l, n.inTransmission = false ∧ noticeKind n.body = k) :
    (removeOldest k l).length < l.length := by
  induction l with
  | nil => simp at h
  | cons m l ih =>
    unfold removeOldest
    split
    · simp
    · rename_i hm
      obtain ⟨n, hn, ht, hk⟩ := h
      rcases List.mem_cons.1 hn with rfl | hn
      · simp [ht, hk] at hm
      · simpa using ih ⟨n, hn, ht, hk⟩

/-- The lowest priority present is that of a notice not in transmission, where there is one. -/
theorem lowestPriority_mem (l : List Notice) (h : ∃ n ∈ l, n.inTransmission = false) :
    ∃ n ∈ l, n.inTransmission = false ∧ noticeKind n.body = lowestPriority l := by
  have key : ∀ (l : List Notice) (k : Nat),
      (l.foldl (fun k n => if n.inTransmission then k else max k (noticeKind n.body)) k = k ∧
          ∀ n ∈ l, n.inTransmission = false → noticeKind n.body ≤ k) ∨
        ∃ n ∈ l, n.inTransmission = false ∧
          noticeKind n.body = l.foldl (fun k n => if n.inTransmission then k else max k (noticeKind n.body)) k := by
    intro l
    induction l with
    | nil => intro k; left; simp
    | cons m l ih =>
      intro k
      simp only [List.foldl_cons]
      rcases ih (if m.inTransmission then k else max k (noticeKind m.body)) with ⟨he, hle⟩ | ⟨n, hn, ht, hk⟩
      · rw [he]
        cases hm : m.inTransmission with
        | true =>
          simp only [hm, if_true] at hle ⊢
          left
          refine ⟨trivial, fun n hn ht => ?_⟩
          rcases List.mem_cons.1 hn with rfl | hn
          · simp [hm] at ht
          · exact hle n hn ht
        | false =>
          simp only [hm, Bool.false_eq_true, if_false] at hle ⊢
          by_cases hc : noticeKind m.body ≤ k
          · left
            rw [Nat.max_eq_left hc] at hle ⊢
            refine ⟨rfl, fun n hn ht => ?_⟩
            rcases List.mem_cons.1 hn with rfl | hn
            · exact hc
            · exact hle n hn ht
          · right
            exact ⟨m, List.mem_cons_self, hm, by omega⟩
      · right
        exact ⟨n, List.mem_cons_of_mem _ hn, ht, hk⟩
  obtain ⟨n, hn, ht⟩ := h
  rcases key l 0 with ⟨he, hle⟩ | hex
  · exact ⟨n, hn, ht, by unfold lowestPriority; rw [he]; have := hle n hn ht; omega⟩
  · exact hex

/-- A full queue with at most one notice in transmission holds one that is not. -/
theorem exists_notInTransmission {l : List Notice} (hc : countNotices (·.inTransmission) l ≤ 1) (hl : 2 ≤ l.length) :
    ∃ n ∈ l, n.inTransmission = false := by
  by_contra hno
  have hall : ∀ n ∈ l, n.inTransmission = true := fun n hn => by
    by_contra hf
    exact hno ⟨n, hn, by simpa using hf⟩
  have : countNotices (·.inTransmission) l = l.length := by
    unfold countNotices
    rw [List.filter_eq_self.2 hall]
  omega

theorem countNotices_single (f : Notice → Bool) (n : Notice) : countNotices f [n] = if f n then 1 else 0 := by
  rw [countNotices_cons]; rfl

/-- A notice handed keeps the bounds of the queue (R189, R190). -/
theorem NoticeQueue.hand_ok {q : NoticeQueue} {ps : Ports} (time : Nat) (body : NoticeBody) (h : noticesOk q ps) :
    noticesOk (q.hand time body).1 ps := by
  obtain ⟨hlen, hlev, htr, hsend⟩ := h
  have hone : countNotices (·.inTransmission) [(⟨time, body, false⟩ : Notice)] = 0 := rfl
  unfold NoticeQueue.hand
  simp only
  split
  case isTrue =>
    obtain ⟨hl, ht⟩ := countNotices_replace q.held time body
    exact ⟨by simpa using hlen, by dsimp only; omega, by dsimp only; omega, fun hc => hsend (by dsimp only at hc; omega)⟩
  case isFalse hno =>
    have hnew : countNotices Notice.isLevel q.held + countNotices Notice.isLevel [⟨time, body, false⟩] ≤ 1 := by
      rw [countNotices_single]
      split
      · rename_i hl
        have : countNotices Notice.isLevel q.held = 0 := countNotices_none (by simpa [hl] using hno)
        omega
      · exact hlev
    split
    case isTrue hroom =>
      refine ⟨by simpa using hroom, ?_, ?_, fun hc => hsend ?_⟩
      · simpa [countNotices_append] using hnew
      · simpa [countNotices_append, hone] using htr
      · simpa [countNotices_append, hone] using hc
    case isFalse hfull =>
      split
      case isTrue =>
        have hlong : 16 ≤ q.held.length := Nat.not_lt.1 hfull
        have hlt : (removeOldest (lowestPriority q.held) q.held).length < q.held.length :=
          removeOldest_length_lt (lowestPriority_mem _ (exists_notInTransmission htr (by omega)))
        have hr := fun f => countNotices_removeOldest f (lowestPriority q.held) q.held
        have hrl := hr Notice.isLevel
        have hrt := hr (·.inTransmission)
        refine ⟨?_, ?_, ?_, fun hc => hsend ?_⟩
        · simp only [List.length_append, List.length_singleton]; omega
        · simp only [countNotices_append]; omega
        · simp only [countNotices_append, hone]; omega
        · simp only [countNotices_append, hone] at hc; omega
      case isFalse => exact ⟨hlen, hlev, htr, hsend⟩

/-! ### The archive -/

/-- The archive's form (R157, R160, R167). -/
def archiveOk (a : Archive) : Prop :=
  pagesWf a.pages = true ∧ (∀ n, a.op.page = some n → n < pageCount) ∧ (∀ n, a.firstOp.page = some n → n < pageCount) ∧
    a.queue.length ≤ queueCapacity ∧ freeCount a.waiting ≤ freeCapacity

theorem archiveOk_iff (s : State) : ArchiveOk s ↔ archiveOk s.archive := Iff.rfl

/-- The form speaks of the pages, the operations and the queues alone. -/
theorem archiveOk_congr {a b : Archive} (hp : b.pages = a.pages) (ho : b.op = a.op) (hf : b.firstOp = a.firstOp)
    (hq : b.queue = a.queue) (hw : b.waiting = a.waiting) (h : archiveOk a) : archiveOk b := by
  unfold archiveOk at *
  rw [hp, ho, hf, hq, hw]
  exact h

theorem archiveOk_idle {a : Archive} (h : archiveOk a) : archiveOk { a with op := .idle } :=
  ⟨h.1, by simp [ArchiveOp.page], h.2.2⟩

theorem archiveOk_op {a : Archive} (op : ArchiveOp) (ho : ∀ n, op.page = some n → n < pageCount) (h : archiveOk a) :
    archiveOk { a with op := op } := ⟨h.1, ho, h.2.2⟩

theorem archiveOk_setPage {a : Archive} (n : Nat) (p : Page) (hn : n < pageCount) (h : archiveOk a) :
    archiveOk (a.setPage n p) := ⟨pagesWf_setPage n p hn h.1, h.2⟩

theorem Archive.openPage_lt {a : Archive} (h : pagesWf a.pages = true) {n : Nat} (ho : a.openPage = some n) : n < pageCount := by
  unfold Archive.openPage at ho
  rw [Option.map_eq_some_iff] at ho
  obtain ⟨e, he, rfl⟩ := ho
  exact lt_of_mem_pages ((pagesWf_iff _).1 h) e (List.mem_of_find?_eq_some he)

theorem Archive.nextInRing_lt {a : Archive} {n k : Nat} (h : a.nextInRing n = some k) : k < pageCount := by
  unfold Archive.nextInRing at h
  obtain ⟨j, -, rfl⟩ := List.mem_map.1 (List.mem_of_find?_eq_some h)
  exact Nat.mod_lt _ (by decide)

theorem archiveOk_begin {a : Archive} (h : archiveOk a) : archiveOk a.begin := by
  unfold Archive.begin
  split
  · exact h
  · split
    · rename_i n q rest ho hq
      have hn : n < pageCount := Archive.openPage_lt h.1 ho
      have hpage : ∀ op : ArchiveOp, op.page = some n → ∀ m, op.page = some m → m < pageCount := fun op he m hm => by
        rw [he] at hm; cases hm; exact hn
      obtain ⟨hw, -, hf, hl, hfree⟩ := h
      split
      · split
        · exact ⟨hw, hpage _ rfl, hf, hl, hfree⟩
        · exact ⟨hw, hpage _ rfl, hf, by rw [hq] at hl; exact hl, hfree⟩
      · exact ⟨hw, hpage _ rfl, hf, hl, hfree⟩
    · exact h

theorem archiveOk_takeNext {a : Archive} (n : Nat) (e : Int) (h : archiveOk a) : archiveOk (a.takeNext n e) := by
  unfold Archive.takeNext
  cases hk : a.nextInRing n with
  | none => exact archiveOk_idle h
  | some k =>
    have hlt := Archive.nextInRing_lt hk
    simp only
    split
    · exact archiveOk_op _ (fun m hm => by cases hm; exact hlt) h
    · exact archiveOk_op _ (fun m hm => by cases hm; exact hlt) h
    · exact archiveOk_idle h
    · exact archiveOk_idle h

theorem archiveOk_goOn {a : Archive} (n : Nat) (e : Int) (h : archiveOk a) : archiveOk (a.goOn n e) := by
  unfold Archive.goOn
  split
  · exact archiveOk_idle h
  · split
    · exact archiveOk_begin (archiveOk_idle h)
    · exact archiveOk_takeNext n e h

theorem freeCount_append (l : List QueuedRecord) (q : QueuedRecord) :
    freeCount (l ++ [q]) = freeCount l + if q.owner = .nobody then 1 else 0 := by
  by_cases h : q.owner = .nobody <;> simp [freeCount, h]

theorem freeCount_tail (q : QueuedRecord) (l : List QueuedRecord) : freeCount l ≤ freeCount (q :: l) := by
  unfold freeCount
  exact ((List.sublist_cons_self q l).filter _).length_le

/-! ### The blocks that a record or a notice wakes -/

/-- What every operation on these blocks keeps. -/
structure Wake.Kept (w v : Wake) : Prop where
  run : v.gauging.run = w.gauging.run
  exposure : v.gauging.exposure = w.gauging.exposure
  ports : w.ports.Kept v.ports
  notices : noticesOk w.notices w.ports → noticesOk v.notices v.ports
  archive : archiveOk w.archive → archiveOk v.archive

theorem Wake.Kept.refl (w : Wake) : w.Kept w := ⟨rfl, rfl, .refl _, id, id⟩

theorem Wake.Kept.trans {w v u : Wake} (h : w.Kept v) (k : v.Kept u) : w.Kept u :=
  ⟨k.run.trans h.run, k.exposure.trans h.exposure, h.ports.trans k.ports, fun n => k.notices (h.notices n),
    fun n => k.archive (h.archive n)⟩

/-- A change of the ports that keeps the frame and the packet. -/
theorem Wake.kept_ports {w : Wake} {ps : Ports} (h : w.ports.Kept ps) : w.Kept { w with ports := ps } :=
  ⟨rfl, rfl, h, fun n => noticesOk_ports n h, id⟩

/-- A change of the archive that keeps its form. -/
theorem Wake.kept_archive {w : Wake} {a : Archive} (h : archiveOk w.archive → archiveOk a) : w.Kept { w with archive := a } :=
  ⟨rfl, rfl, .refl _, id, h⟩

theorem Wake.kept_gauging {w : Wake} {g : Gauging} (hr : g.run = w.gauging.run) (he : g.exposure = w.gauging.exposure) :
    w.Kept { w with gauging := g } := ⟨hr, he, .refl _, id, id⟩

theorem Wake.kept_notice (w : Wake) (time : Nat) (body : NoticeBody) : w.Kept (w.notice time body) := by
  have hp : w.ports.Kept (w.notice time body).ports := by
    unfold Wake.notice
    simp only
    split
    · exact w.ports.kept_noteLoss
    · exact .refl _
  exact ⟨rfl, rfl, hp, fun n => noticesOk_ports (NoticeQueue.hand_ok time body n) hp, id⟩

theorem Wake.kept_kick (w : Wake) : w.Kept w.kick := by
  unfold Wake.kick
  split
  · exact .refl w
  · exact Wake.kept_archive archiveOk_begin

theorem Wake.kept_computingEnd (w : Wake) (index : Option Nat) (b : Bool) : w.Kept (w.computingEnd index b) := by
  unfold Wake.computingEnd
  cases w.gauging.computing with
  | none => exact .refl w
  | some g =>
    simp only
    refine Wake.Kept.trans (Wake.Kept.trans (Wake.kept_gauging ?_ ?_) (Wake.kept_notice _ _ _)) (Wake.kept_ports ?_)
    · rfl
    · rfl
    · exact ((Ports.kept_answerGauging _ _ _).trans (Ports.kept_answerGauging _ _ _)).trans (Ports.kept_answerGauging _ _ _)

theorem Wake.kept_reportEntered (w : Wake) (o : Owner) : w.Kept (w.reportEntered o) := by
  cases o with
  | nobody | gauging => exact .refl w
  | request p id => exact Wake.kept_ports (Ports.kept_report _ _ _ _)

theorem Wake.kept_reportDropped (w : Wake) (o : Owner) : w.Kept (w.reportDropped o) := by
  cases o with
  | nobody => exact .refl w
  | gauging => exact w.kept_computingEnd none true
  | request p id => exact Wake.kept_ports (Ports.kept_report _ _ _ _)

theorem Wake.kept_reportDurable (w : Wake) (q : QueuedRecord) : w.Kept (w.reportDurable q) := by
  unfold Wake.reportDurable
  split
  · exact w.kept_computingEnd _ _
  · exact .refl w
  · exact .refl w

theorem Wake.kept_dropAll (w : Wake) (l : List QueuedRecord) : w.Kept (w.dropAll l) := by
  induction l generalizing w with
  | nil => exact .refl w
  | cons q l ih => exact (w.kept_reportDropped q.owner).trans (ih _)

theorem Wake.kept_freshState (w : Wake) : w.Kept w.freshState := by
  unfold Wake.freshState
  simp only
  split
  · exact .refl w
  · have hnotice := (Wake.kept_archive (w := w) (a := { w.archive with state := w.archive.freshState })
      (archiveOk_congr rfl rfl rfl rfl rfl)).trans
      (Wake.kept_notice _ w.time (.archive w.archive.freshState w.archive.retired w.archive.healthy))
    split
    · refine (hnotice.trans (Wake.kept_archive ?_)).trans (Wake.kept_dropAll _ _)
      exact fun h => ⟨h.1, h.2.1, h.2.2.1, Nat.zero_le _, Nat.zero_le _⟩
    · exact hnotice

theorem Wake.kept_hand (w : Wake) (r : Record) (time : Nat) (o : Owner) : w.Kept (w.hand r time o) := by
  unfold Wake.hand
  simp only
  split
  · exact w.kept_reportDropped o
  · split
    · rename_i hroom
      simp only [Bool.and_eq_true, decide_eq_true_eq] at hroom
      refine ((Wake.kept_archive fun h => ?_).trans (Wake.kept_reportEntered _ o)).trans (Wake.kept_kick _)
      exact ⟨h.1, h.2.1, h.2.2.1, by simp only [List.length_append, List.length_singleton]; omega, h.2.2.2.2⟩
    · split
      · exact Wake.kept_archive (archiveOk_congr rfl rfl rfl rfl rfl)
      · split
        · exact Wake.kept_archive (archiveOk_congr rfl rfl rfl rfl rfl)
        · rename_i hfree
          refine Wake.kept_archive fun h => ⟨h.1, h.2.1, h.2.2.1, h.2.2.2.1, ?_⟩
          have hbound := h.2.2.2.2
          rw [freeCount_append]
          split
          · rename_i ho
            have : ¬ freeCapacity ≤ freeCount w.archive.waiting := by
              have ho : o = .nobody := ho
              simpa [ho] using hfree
            omega
          · exact hbound

theorem Wake.kept_takeWaiting (w : Wake) : w.Kept w.takeWaiting := by
  unfold Wake.takeWaiting
  split
  · exact .refl w
  · rename_i q rest hw
    split
    · rename_i hroom
      refine (Wake.kept_archive ?_).trans (Wake.kept_reportEntered _ _)
      refine fun h => ⟨h.1, h.2.1, h.2.2.1, ?_, ?_⟩
      · simp only [List.length_append, List.length_singleton]; omega
      · have hbound := h.2.2.2.2
        rw [hw] at hbound
        exact (freeCount_tail q rest).trans hbound
    · exact .refl w

theorem Wake.kept_gap (w : Wake) : w.Kept w.gap := by
  unfold Wake.gap
  simp only
  split
  · exact Wake.kept_archive fun h => ⟨h.1, h.2.1, h.2.2.1, Nat.le_of_ble_eq_true rfl, h.2.2.2.2⟩
  · exact .refl w

theorem archiveOk_noteIndex {a : Archive} (q : QueuedRecord) (h : archiveOk a) : archiveOk (a.noteIndex q) := by
  unfold Archive.noteIndex
  split
  · exact archiveOk_congr rfl rfl rfl rfl rfl h
  · exact h

/-! ### The archive's events (R161 to R163, R170) -/

theorem Wake.kept_recordProgrammed (w : Wake) : w.Kept w.recordProgrammed := by
  unfold Wake.recordProgrammed
  split
  · rename_i n q rest hop hq
    refine (((((Wake.kept_archive fun h => archiveOk_noteIndex q ?_).trans (Wake.kept_reportDurable _ q)).trans
      (Wake.kept_freshState _)).trans (Wake.kept_takeWaiting _)).trans (Wake.kept_gap _)).trans (Wake.kept_kick _)
    have hset := archiveOk_setPage n ((pageAt w.archive.pages n).append q true) (h.2.1 n (by rw [hop]; rfl)) h
    refine ⟨hset.1, by simp [ArchiveOp.page], hset.2.2.1, ?_, hset.2.2.2.2⟩
    have hlen := h.2.2.2.1
    rw [hq] at hlen
    exact (Nat.le_succ _).trans hlen
  · exact .refl w

theorem Wake.kept_eraseComplete (w : Wake) : w.Kept w.eraseComplete := by
  unfold Wake.eraseComplete
  split
  · rename_i n hop
    simp only
    have hn : archiveOk w.archive → n < pageCount := fun h => h.2.1 n (by rw [hop]; rfl)
    split
    · exact (Wake.kept_archive fun h => archiveOk_idle (archiveOk_setPage n _ (hn h) h)).trans (Wake.kept_kick _)
    · exact Wake.kept_archive fun h =>
        archiveOk_op _ (fun m hm => by cases hm; exact hn h) (archiveOk_setPage n _ (hn h) h)
  · exact .refl w

theorem Wake.kept_pageHeaderProgrammed (w : Wake) : w.Kept w.pageHeaderProgrammed := by
  unfold Wake.pageHeaderProgrammed
  split
  · rename_i n e hop
    refine (Wake.kept_archive fun h => ?_).trans (Wake.kept_kick _)
    have hset := archiveOk_setPage n
      { status := .opened, header := some ⟨w.archive.lastSequence + 1, e, true, false, false⟩, records := [] }
      (h.2.1 n (by rw [hop]; rfl)) h
    exact ⟨hset.1, by simp [ArchiveOp.page], hset.2.2⟩
  · rename_i n hop
    exact Wake.kept_archive fun h => archiveOk_takeNext _ _ (archiveOk_setPage n _ (h.2.1 n (by rw [hop]; rfl)) h)
  · rename_i n hop
    exact Wake.kept_archive fun h => archiveOk_goOn _ _ (archiveOk_setPage n _ (h.2.1 n (by rw [hop]; rfl)) h)
  · exact .refl w

/-- A page of the archive retired. -/
theorem Wake.kept_retire (w : Wake) (n : Nat) (p : Page) (hn : archiveOk w.archive → n < pageCount) : w.Kept (w.retire n p) := by
  unfold Wake.retire
  exact (Wake.kept_archive fun h =>
    archiveOk_op _ (fun m hm => by cases hm; exact hn h) (archiveOk_setPage n _ (hn h) h)).trans (Wake.kept_freshState _)

theorem Wake.kept_programFailure (w : Wake) (left : Remnant) : w.Kept (w.programFailure left) := by
  have hpage : ∀ n, w.archive.op.page = some n → archiveOk w.archive → n < pageCount := fun n hn h => h.2.1 n hn
  unfold Wake.programFailure
  split
  · rename_i n hop
    have hn := hpage n (by rw [hop]; rfl)
    simp only
    split <;> exact w.kept_retire n _ hn
  · rename_i n e hop
    exact w.kept_retire n _ (hpage n (by rw [hop]; rfl))
  · rename_i n hop
    exact w.kept_retire n _ (hpage n (by rw [hop]; rfl))
  · rename_i n hop
    refine Wake.kept_archive fun h => archiveOk_goOn _ _ ?_
    split
    · exact archiveOk_setPage n _ (hpage n (by rw [hop]; rfl) h) h
    · exact h
  · exact .refl w
  · exact .refl w

theorem Wake.kept_eraseFailure (w : Wake) (left : Remnant) : w.Kept (w.eraseFailure left) := by
  unfold Wake.eraseFailure
  split
  · rename_i n hop
    exact w.kept_retire n _ (fun h => h.2.1 n (by rw [hop]; rfl))
  · exact .refl w

theorem Wake.kept_verificationEnd (w : Wake) (p : Port) : w.Kept (w.verificationEnd p) := by
  unfold Wake.verificationEnd
  split
  · exact .refl w
  · have harchive : w.Kept { w with archive := { w.archive with verifications := w.archive.verifications.set p none } } :=
      Wake.kept_archive (archiveOk_congr rfl rfl rfl rfl rfl)
    exact harchive.trans (Wake.kept_ports (Ports.kept_answer _ _ _ _))

end Sys2Proof.Machine
end

section
/-! SUPPORT. What every operation of a block keeps: the queue of commands, the start-up mark, and the six invariants of Safety.lean.
The invariant of the stage series, of the warning unit and of the cableway hold between the operations of a step only where the step
has done with them, so a statement names for which of the three it speaks. -/

namespace Sys2Proof.Machine

/-- What an operation keeps; `ser`, `war` and `cab` say where the statement speaks of the stage series, of the warning unit and of the
cableway. -/
structure Kept (ser war cab : Prop) (s t : State) : Prop where
  pending : t.pending = s.pending
  startingUp : t.startingUp = s.startingUp
  shifts : ShiftsOk s → ShiftsOk t
  notices : NoticesOk s → NoticesOk t
  archive : ArchiveOk s → ArchiveOk t
  series : ser → SeriesOk s → SeriesOk t
  warning : war → WarningOk s → WarningOk t
  cable : cab → CablewayOk s → CablewayOk t

section
variable {ser war cab : Prop} {s t u : State}

theorem Kept.refl (s : State) : Kept ser war cab s s := ⟨rfl, rfl, id, id, id, fun _ => id, fun _ => id, fun _ => id⟩

theorem Kept.trans (h : Kept ser war cab s t) (k : Kept ser war cab t u) : Kept ser war cab s u where
  pending := k.pending.trans h.pending
  startingUp := k.startingUp.trans h.startingUp
  shifts i := k.shifts (h.shifts i)
  notices i := k.notices (h.notices i)
  archive i := k.archive (h.archive i)
  series c i := k.series c (h.series c i)
  warning c i := k.warning c (h.warning c i)
  cable c i := k.cable c (h.cable c i)

theorem Kept.ite {p : Prop} [Decidable p] (h : Kept ser war cab s t) (k : Kept ser war cab s u) :
    Kept ser war cab s (if p then t else u) := by
  split
  · exact h
  · exact k

/-- The cableway's part said apart. -/
theorem Kept.withCableOk (h : Kept ser war False s t) (hc : cab → CablewayOk s → CablewayOk t) : Kept ser war cab s t :=
  { h with cable := hc }

/-- The warning unit's part said apart. -/
theorem Kept.withWarningOk (h : Kept ser False cab s t) (hw : war → WarningOk s → WarningOk t) : Kept ser war cab s t :=
  { h with warning := hw }

/-- The stage series' part said apart. -/
theorem Kept.withSeriesOk (h : Kept False war cab s t) (hs : ser → SeriesOk s → SeriesOk t) : Kept ser war cab s t :=
  { h with series := hs }

/-! ### The primitive changes -/

/-- A change of the ports that keeps the frame of Port L and the packet of Port T. -/
theorem Kept.of_ports {ps : Ports} (h : s.ports.Kept ps) : Kept ser war cab s { s with ports := ps } where
  pending := rfl
  startingUp := rfl
  shifts := id
  notices n := noticesOk_ports n h
  archive := id
  series _ i := ⟨i.1, i.2.1, i.2.2.1, fun hu =>
    ⟨(i.2.2.2 hu).1, (i.2.2.2 hu).2.1, (i.2.2.2 hu).2.2.1, (i.2.2.2 hu).2.2.2.1, h.frame.trans (i.2.2.2 hu).2.2.2.2⟩⟩
  warning _ := id
  cable _ := id

theorem CablewayOk.of_eq (h : CablewayOk s) (hc : t.cable = s.cable) (hr : t.gauging.run = s.gauging.run)
    (he : t.gauging.exposure = s.gauging.exposure) : CablewayOk t := by
  unfold CablewayOk at *
  rw [hc, hr, he]
  exact h

/-- A change of the woken blocks. -/
theorem Kept.of_wake {w : Wake} (h : s.wake.Kept w) : Kept ser war cab s (s.withWake w) where
  pending := rfl
  startingUp := rfl
  shifts := id
  notices := h.notices
  archive := h.archive
  series _ i := ⟨i.1, i.2.1, i.2.2.1, fun hu =>
    ⟨(i.2.2.2 hu).1, (i.2.2.2 hu).2.1, (i.2.2.2 hu).2.2.1, (i.2.2.2 hu).2.2.2.1, h.ports.frame.trans (i.2.2.2 hu).2.2.2.2⟩⟩
  warning _ := id
  cable _ i := i.of_eq rfl h.run h.exposure

/-- A change of the archive that keeps its form. -/
theorem Kept.of_archive {a : Archive} (h : archiveOk s.archive → archiveOk a) : Kept ser war cab s { s with archive := a } :=
  ⟨rfl, rfl, id, id, h, fun _ => id, fun _ => id, fun _ => id⟩

/-- A change of the cableway and the gauging unit. -/
theorem Kept.of_cable {c : Cableway} {g : Gauging} (h : cab → CablewayOk s → CablewayOk { s with cable := c, gauging := g }) :
    Kept ser war cab s { s with cable := c, gauging := g } :=
  ⟨rfl, rfl, id, id, id, fun _ => id, fun _ => id, h⟩

/-- A change of the gauging unit that leaves its run and its exposure. -/
theorem Kept.of_gauging {g : Gauging} (hr : g.run = s.gauging.run) (he : g.exposure = s.gauging.exposure) :
    Kept ser war cab s { s with gauging := g } :=
  ⟨rfl, rfl, id, id, id, fun _ => id, fun _ => id, fun _ i => i.of_eq rfl hr he⟩

/-- A change of the level acquisition unit. -/
theorem Kept.of_lau {l : Lau} (h : ser → SeriesOk s → SeriesOk (s.withLau l)) : Kept ser war cab s (s.withLau l) :=
  ⟨rfl, rfl, id, id, id, h, fun _ => id, fun _ => id⟩

/-- A change of the level acquisition unit beside its series and its starts. -/
theorem Kept.of_lau_settings {l : Lau} (hs : l.series = s.lau.series) (ha : s.lau.acq = none → l.acq = none)
    (ho : l.startOwed = s.lau.startOwed) (hl : l.lastStart = s.lau.lastStart) : Kept ser war cab s (s.withLau l) :=
  .of_lau fun _ i => by
    obtain ⟨hlen, hinc, htime, hup⟩ := i
    refine ⟨?_, ?_, ?_, fun h => ?_⟩ <;> simp only [State.withLau, hs, ho, hl]
    · exact hlen
    · exact hinc
    · exact htime
    · exact ⟨(hup h).1, ha (hup h).2.1, (hup h).2.2⟩

/-- Such a change, and what an operation keeps after it. -/
theorem Kept.lau_then {l : Lau} (k : Kept ser war cab (s.withLau l) u) (hs : l.series = s.lau.series)
    (ha : s.lau.acq = none → l.acq = none) (ho : l.startOwed = s.lau.startOwed) (hl : l.lastStart = s.lau.lastStart) :
    Kept ser war cab s u := (Kept.of_lau_settings hs ha ho hl).trans k

/-- A change of the warning unit. -/
theorem Kept.of_warning {w : Warning} (h : war → WarningOk s → WarningOk { s with warning := w }) :
    Kept ser war cab s { s with warning := w } :=
  ⟨rfl, rfl, id, id, id, fun _ => id, h, fun _ => id⟩

/-- A change of the rating store beside the shift table. -/
theorem Kept.of_rating {r : RatingStore} (h : r.shifts = s.rating.shifts) : Kept ser war cab s { s with rating := r } :=
  ⟨rfl, rfl, fun i => ⟨by rw [h]; exact i.1, i.2⟩, id, id, fun _ => id, fun _ => id, fun _ => id⟩

/-- A change of the shift table to one in order. -/
theorem Kept.of_shifts {l : List ShiftEntry} (h : tableOk s.rating.shifts → tableOk l) :
    Kept ser war cab s { s with rating := { s.rating with shifts := l } } :=
  ⟨rfl, rfl, fun i => ⟨h i.1, i.2⟩, id, id, fun _ => id, fun _ => id, fun _ => id⟩

theorem Kept.of_elapsed (n : Nat) : Kept ser war cab s { s with elapsed := n } :=
  ⟨rfl, rfl, id, id, id, fun _ => id, fun _ => id, fun _ => id⟩

/-! ### The shared operations -/

theorem kept_sample (s : State) (x : Encoders) : Kept ser war cab s (s.sample x) :=
  ⟨rfl, rfl, id, id, id, fun _ => id, fun _ => id, fun _ => id⟩

theorem kept_advanceTo (s : State) (n : Nat) : Kept ser war cab s (s.advanceTo n) := .of_elapsed _

theorem kept_answer (s : State) (p : Port) (r : Result) (a : Payload) : Kept ser war cab s (s.answer p r a) :=
  .of_ports (s.ports.kept_answer p r a)

theorem kept_reply (s : State) (p : Port) (r : Result) : Kept ser war cab s (s.reply p r) := kept_answer s p r .empty

theorem kept_defer (s : State) (p : Port) (w r st : Bool) (a : Payload) : Kept ser war cab s (s.defer p w r st a) :=
  .of_ports (s.ports.kept_await p _)

/-- A write handed to the settings store; of a shift table, one in order. -/
theorem kept_write (s : State) (p : Port) (d : WriteData) (h : ShiftsOk s → ∀ l, d = .shifts l → tableOk l) :
    Kept ser war cab s (s.write p d) := by
  refine ⟨rfl, rfl, fun i => ⟨i.1, i.2.1, fun w hw l hl => ?_⟩, id, id, fun _ => id, fun _ => id, fun _ => id⟩
  rcases List.mem_append.1 hw with hw | hw
  · exact i.2.2 w hw l hl
  · cases List.mem_singleton.1 hw
    exact h i l hl

theorem kept_writeThrough (s : State) (p : Port) (d : WriteData) (h : ∀ l, d ≠ .shifts l) :
    Kept ser war cab s (s.writeThrough p d) :=
  (kept_defer s p _ _ _ _).trans (kept_write _ p d fun _ l hl => absurd hl (h l))

theorem kept_notice (s : State) (b : NoticeBody) : Kept ser war cab s (s.notice b) := .of_wake (s.wake.kept_notice _ b)

theorem kept_hand (s : State) (r : Record) (o : Owner) : Kept ser war cab s (s.hand r o) := .of_wake (s.wake.kept_hand r _ o)

theorem kept_levelRecord (s : State) (e : LevelEvent) (o : Owner) : Kept ser war cab s (s.levelRecord e o) := kept_hand s _ o

theorem kept_withFields {α : Type} (s : State) (p : Port) (f : α → State) (a : Option α)
    (h : ∀ a, Kept ser war cab s (f a)) : Kept ser war cab s (s.withFields p f a) := by
  cases a with
  | none => exact kept_reply s p _
  | some a => exact h a

theorem kept_withoutFields (s : State) (p : Port) (t : State) (sized : Bool) (h : Kept ser war cab s t) :
    Kept ser war cab s (s.withoutFields p t sized) := by
  unfold State.withoutFields
  split
  · exact h
  · exact kept_reply s p _

/-! ### The end of a command (R184, R185) -/

theorem markOldest_spec (k : Nat) (l : List Notice) :
    (markOldest k l).2.length = l.length ∧
      countNotices Notice.isLevel (markOldest k l).2 = countNotices Notice.isLevel l ∧
      countNotices (·.inTransmission) (markOldest k l).2 =
        countNotices (·.inTransmission) l + if (markOldest k l).1.isSome then 1 else 0 := by
  induction l with
  | nil => exact ⟨rfl, rfl, rfl⟩
  | cons n l ih =>
    obtain ⟨hlen, hlev, htr⟩ := ih
    unfold markOldest
    split
    · rename_i hn
      have ht : n.inTransmission = false := by simpa using (Bool.and_eq_true_iff.1 hn).1
      refine ⟨rfl, ?_, ?_⟩
      · simp only [countNotices_cons]; rfl
      · simp only [countNotices_cons, ht]; simp [Nat.add_comm]
    · refine ⟨congrArg (· + 1) hlen, ?_, ?_⟩
      · simp only [countNotices_cons, hlev]
      · simp only [countNotices_cons, htr]; omega

/-- The queue's bounds at the end of a command: a free line marks one notice, and sends it. -/
theorem noticesOk_settle (s : State) (h : NoticesOk s) : NoticesOk s.settle := by
  obtain ⟨hlen, hlev, htr, hsend⟩ := h
  show noticesOk s.pumpT.2 { s.ports with t := s.pumpT.1, f := s.pumpF }
  unfold State.pumpT
  split
  · exact ⟨hlen, hlev, htr, hsend⟩
  · rename_i hfree
    have hzero : countNotices (·.inTransmission) s.notices.held = 0 := by
      by_contra hne
      obtain ⟨n, hn⟩ := hsend (by omega)
      simp [hfree] at hn
    split
    · exact ⟨hlen, hlev, htr, fun hc => by simp only at hc; omega⟩
    · simp only
      obtain ⟨hl, hv, ht⟩ := markOldest_spec (highestPriority s.notices.held) s.notices.held
      split
      · exact ⟨hlen, hlev, htr, fun hc => by simp only at hc; omega⟩
      · rename_i n hn
        simp only [hn, Option.isSome_some, if_true] at ht
        exact ⟨by dsimp only; omega, by dsimp only; omega, by dsimp only; omega, fun _ => ⟨_, rfl⟩⟩

theorem kept_settle (s : State) : Kept ser war cab s s.settle :=
  ⟨rfl, rfl, id, noticesOk_settle s, id, fun _ => id, fun _ => id, fun _ => id⟩

end

end Sys2Proof.Machine
end

section
/-! SUPPORT. The cableway's operations and the lock (R105, R107, R109, R118, R120, R121, R126): what a run in progress keeps from
one of its states to the next, what its end leaves, and that every request and event of the controller keeps the lock. -/

namespace Sys2Proof.Machine

/-! ### A run between two of its states -/

/-- What the steps of a run keep between two of its states: the run record, the holder with its kind, the window of an attended hold,
and the remembered state; no exposure is open. -/
structure InRun (s : State) (k : HoldKind) : Prop where
  record : s.gauging.run.isSome = true
  exposure : s.gauging.exposure = none
  run : s.cable.run.isSome = true
  holder : s.cable.holder.map holdKind = some k
  notT : s.cable.holder ≠ some .T
  window : s.cable.window.isSome = true → s.cable.holder = some .F
  remembered : ∀ m, s.cable.remembered = some m → m.state.measuring = true

theorem InRun.holder_isSome {s : State} {k : HoldKind} (h : InRun s k) : s.cable.holder.isSome = true := by
  have := h.holder
  cases hh : s.cable.holder with
  | none => simp [hh] at this
  | some p => rfl

/-- A run in progress meets it where no exposure is open. -/
theorem CablewayOk.inRun {s : State} {r : Run} (h : CablewayOk s) (hr : s.cable.run = some r)
    (he : s.gauging.exposure = none) : InRun s r.kind := by
  obtain ⟨-, -, hrec, -, hT, hkind, hwin, -, hrem, -, -⟩ := h
  exact ⟨by rw [hrec, hr]; rfl, he, by rw [hr]; rfl, hkind r hr, hT, fun hw => (hwin hw).2, hrem⟩

theorem CablewayOk.exposure_none {s : State} (h : CablewayOk s) (hs : s.cable.state ≠ .counting) : s.gauging.exposure = none := by
  obtain ⟨-, -, -, -, -, -, -, -, -, -, hexp⟩ := h
  simpa [hs] using hexp

/-- The cableway in a measuring or moving state of a run, its motion timer and its drive as the state asks. -/
theorem InRun.cablewayOk {s t : State} {k : HoldKind} {r : Run} (h : InRun s k) (hk : r.kind = k)
    (hrun : t.cable.run = some r) (hm : t.cable.state.measuring = true)
    (hd : t.cable.drive ≠ .off → t.cable.state.drives = true) (ht : t.cable.motionTimer.isSome = t.cable.state.drives)
    (hholder : t.cable.holder = s.cable.holder) (hwin : t.cable.window = s.cable.window)
    (hrem : t.cable.remembered = s.cable.remembered) (hrec : t.gauging.run = s.gauging.run)
    (hexp : t.gauging.exposure.isSome = decide (t.cable.state = .counting)) : CablewayOk t := by
  refine ⟨hd, ?_, ?_, fun b hb => ?_, ?_, fun q hq => ?_, fun hw => ?_, fun hp => ?_, fun m hm' => ?_, ht, hexp⟩
  · rw [hrun, RunState.running, hm]; rfl
  · rw [hrec, hrun, h.record]; rfl
  · rw [hholder, h.holder_isSome]
    revert hb hm
    cases t.cable.state <;> simp [RunState.held, RunState.measuring]
  · rw [hholder]; exact h.notT
  · rw [hrun] at hq
    cases hq
    rw [hholder, hk]
    exact h.holder
  · rw [hwin] at hw
    exact ⟨hm, by rw [hholder]; exact h.window hw⟩
  · rw [hp] at hm; cases hm
  · rw [hrem] at hm'; exact h.remembered m hm'

theorem InRun.enterSounding {s : State} {k : HoldKind} {r : Run} (h : InRun s k) (hk : r.kind = k) :
    CablewayOk (s.enterSounding r) :=
  h.cablewayOk (r := r.at r.vertical) hk rfl rfl (fun _ => rfl) rfl rfl rfl rfl rfl
    (by simp [State.enterSounding, State.lower, State.withRun, State.withCable, Cableway.move, h.exposure])

theorem InRun.enterTraversing {s : State} {k : HoldKind} {r : Run} (h : InRun s k) (hk : r.kind = k) :
    CablewayOk (s.enterTraversing r) := by
  unfold State.enterTraversing
  simp only
  split
  · exact h.enterSounding hk
  · exact h.cablewayOk (r := r) hk rfl rfl (fun _ => rfl) rfl rfl rfl rfl rfl
      (by simp [State.withRun, State.withCable, Cableway.move, h.exposure])

theorem InRun.enterCounting {s : State} {k : HoldKind} {r : Run} (h : InRun s k) (hk : r.kind = k) :
    CablewayOk (s.enterCounting r) :=
  h.cablewayOk (r := r) hk rfl rfl (fun hd => absurd rfl hd) rfl rfl rfl rfl rfl rfl

theorem InRun.enterPositioning {s : State} {k : HoldKind} {r : Run} (h : InRun s k) (hk : r.kind = k) :
    CablewayOk (s.enterPositioning r) := by
  unfold State.enterPositioning
  simp only
  split
  · exact h.enterCounting hk
  · exact h.cablewayOk (r := r) hk rfl rfl (fun _ => rfl) rfl rfl rfl rfl rfl
      (by simp [State.withCable, Cableway.move, h.exposure])

/-! ### The end of a run (R119, R126) -/

/-- A cableway without a run, beside a gauging unit without one. -/
structure Vacant (c : Cableway) (g : Gauging) : Prop where
  run : c.run = none
  record : g.run = none
  exposure : g.exposure = none
  notT : c.holder ≠ some .T
  window : c.window = none
  remembered : ∀ m, c.remembered = some m → m.state.measuring = true

/-- Outside the states of a run, with no exposure open, the cableway has none. -/
theorem CablewayOk.vacant {s : State} (h : CablewayOk s) (hs : s.cable.state.running = false) : Vacant s.cable s.gauging := by
  obtain ⟨-, hrun, hrec, -, hT, -, hwin, -, hrem, -, hexp⟩ := h
  have hrun : s.cable.run = none := by simpa [hs] using hrun
  have hnm : s.cable.state.measuring = false := by
    cases hm : s.cable.state.measuring with
    | false => rfl
    | true => simp [RunState.running, hm] at hs
  refine ⟨hrun, by simpa [hrun] using hrec, ?_, hT, ?_, hrem⟩
  · have hne : s.cable.state ≠ .counting := fun hc => by rw [hc] at hnm; cases hnm
    simpa [hne] using hexp
  · cases hw : s.cable.window with
    | none => rfl
    | some w => simp [hw, hnm] at hwin

theorem Vacant.moved {s : State} {c : Cableway} (h : Vacant c s.gauging) (t : Option Target) (d : Drive) (n now : Nat) :
    CablewayOk (s.withCable (c.move .retrieving t d n now)) := by
  obtain ⟨hrun, hrec, hexp, hT, hwin, hrem⟩ := h
  unfold CablewayOk
  simpa [RunState.drives, RunState.running, RunState.measuring, RunState.held, hrun, hrec, hexp, hT, hwin] using hrem

theorem Vacant.retrievalEnd {s : State} {c : Cableway} (h : Vacant c s.gauging) :
    CablewayOk (s.withCable c.retrievalEnd) := by
  obtain ⟨hrun, hrec, hexp, hT, hwin, hrem⟩ := h
  unfold CablewayOk Cableway.retrievalEnd
  cases hp : c.holder <;> rw [hp] at hT <;>
    simpa [hp, hrun, hrec, hexp, hT, hwin, RunState.drives, RunState.running, RunState.measuring, RunState.held] using hrem

theorem Vacant.retrieveCarriage {s : State} {c : Cableway} (h : Vacant c s.gauging) (now : Nat) :
    CablewayOk (s.withCable (c.retrieveCarriage now)) := by
  unfold Cableway.retrieveCarriage
  split
  · exact h.retrievalEnd
  · exact h.moved _ _ _ _

/-- A retrieval is within the lock. -/
theorem Vacant.retrieve {s : State} {c : Cableway} (h : Vacant c s.gauging) (now : Nat) :
    CablewayOk (s.withCable (c.retrieve now)) := by
  unfold Cableway.retrieve
  split
  · exact h.retrieveCarriage now
  · exact h.moved _ _ _ _

section
variable {ser war cab : Prop} {s : State}

/-- The end of a run in progress with its record: the cableway ended, the run record and the exposure gone, whatever becomes of the
formed record. -/
theorem State.endRun_blocks (s : State) (cause : EndCause) (hrun : s.cable.run.isSome = true)
    (hrec : s.gauging.run.isSome = true) :
    (s.endRun cause).cable = s.cable.ended cause ∧ (s.endRun cause).gauging.run = none ∧
      (s.endRun cause).gauging.exposure = none := by
  obtain ⟨run, hrun⟩ := Option.isSome_iff_exists.1 hrun
  obtain ⟨rr, hrec⟩ := Option.isSome_iff_exists.1 hrec
  have hgauge : ∀ s1 : State, s1.gauging.run = some rr →
      (s1.gaugeEnd cause).cable = s1.cable ∧ (s1.gaugeEnd cause).gauging.run = none ∧
        (s1.gaugeEnd cause).gauging.exposure = none := by
    intro s1 h1
    simp only [State.gaugeEnd, h1]
    refine ⟨rfl, ?_, ?_⟩
    · exact (Wake.kept_hand _ _ _ _).run
    · exact (Wake.kept_hand _ _ _ _).exposure
  simp only [State.endRun, hrun]
  split <;> exact hgauge _ hrec

theorem kept_gaugeEnd (s : State) (cause : EndCause) : Kept ser war False s (s.gaugeEnd cause) := by
  unfold State.gaugeEnd
  split
  · exact .refl s
  · exact Kept.trans (Kept.of_cable (c := s.cable) fun h => h.elim) (.of_wake (Wake.kept_hand _ _ _ _))

theorem kept_endRun_blocks (s : State) (cause : EndCause) : Kept ser war False s (s.endRun cause) := by
  unfold State.endRun
  split
  · exact .refl s
  · simp only
    refine Kept.trans ?_ (kept_gaugeEnd _ cause)
    split
    · exact Kept.of_cable fun h => h.elim
    · exact Kept.trans (Kept.of_cable fun h => h.elim) (kept_notice _ _)

theorem kept_endAndRetrieve_blocks (s : State) (cause : EndCause) : Kept ser war False s (s.endAndRetrieve cause) :=
  (kept_endRun_blocks s cause).trans (Kept.of_cable fun h => h.elim)

/-- A run in progress that ends and retrieves leaves the cableway within the lock. -/
theorem State.endAndRetrieve_ok (s : State) (cause : EndCause) (hrun : s.cable.run.isSome = true)
    (hrec : s.gauging.run.isSome = true) (hT : s.cable.holder ≠ some .T) : CablewayOk (s.endAndRetrieve cause) := by
  obtain ⟨hc, hr, he⟩ := s.endRun_blocks cause hrun hrec
  refine Vacant.retrieve (s := s.endRun cause) (c := (s.endRun cause).cable) ?_ _
  rw [hc]
  exact ⟨rfl, hr, he, hT, rfl, by simp [Cableway.ended]⟩

theorem CablewayOk.endAndRetrieve (h : CablewayOk s) (cause : EndCause) (hrun : s.cable.run.isSome = true) :
    CablewayOk (s.endAndRetrieve cause) := by
  obtain ⟨-, -, hrec, -, hT, -⟩ := h
  exact s.endAndRetrieve_ok cause hrun (hrec.trans hrun) hT

theorem kept_endAndRetrieve (s : State) (cause : EndCause) (hrun : s.cable.run.isSome = true) :
    Kept ser war cab s (s.endAndRetrieve cause) :=
  (kept_endAndRetrieve_blocks s cause).withCableOk fun _ i => i.endAndRetrieve cause hrun

/-! ### The steps of a run (R115 to R118) -/

theorem kept_enterSounding (s : State) (r : Run) : Kept ser war False s (s.enterSounding r) := Kept.of_cable fun h => h.elim

theorem kept_enterTraversing (s : State) (r : Run) : Kept ser war False s (s.enterTraversing r) := by
  unfold State.enterTraversing
  simp only
  split <;> exact Kept.of_cable fun h => h.elim

theorem kept_enterCounting (s : State) (r : Run) : Kept ser war False s (s.enterCounting r) := Kept.of_cable fun h => h.elim

theorem kept_enterPositioning (s : State) (r : Run) : Kept ser war False s (s.enterPositioning r) := by
  unfold State.enterPositioning
  simp only
  split <;> exact Kept.of_cable fun h => h.elim

theorem kept_completeVertical (s : State) (r : Run) : Kept ser war False s (s.completeVertical r) := by
  have hg : Kept ser war False s { s with gauging := s.gauging.complete r s.clock.time } :=
    Kept.of_cable (c := s.cable) fun h => h.elim
  unfold State.completeVertical
  simp only
  split
  · exact hg.trans (kept_enterTraversing _ _)
  · exact hg.trans (kept_endAndRetrieve_blocks _ _)

theorem kept_stowedArrival (s : State) (r : Run) : Kept ser war False s (s.stowedArrival r) := by
  unfold State.stowedArrival
  split
  · exact kept_enterTraversing s _
  · exact kept_completeVertical s r

theorem kept_enterRaising (s : State) (r : Run) : Kept ser war False s (s.enterRaising r) := by
  unfold State.enterRaising
  split
  · exact kept_stowedArrival s r
  · exact Kept.of_cable fun h => h.elim

theorem Gauging.complete_run (g : Gauging) (r : Run) (time : Nat) : (g.complete r time).run.isSome = g.run.isSome := by
  unfold Gauging.complete
  split <;> simp_all

theorem Gauging.complete_exposure (g : Gauging) (r : Run) (time : Nat) : (g.complete r time).exposure = g.exposure := by
  unfold Gauging.complete
  split <;> rfl

theorem InRun.completeVertical {k : HoldKind} {r : Run} (h : InRun s k) (hk : r.kind = k) :
    CablewayOk (s.completeVertical r) := by
  have h1 : InRun { s with gauging := s.gauging.complete r s.clock.time } k :=
    ⟨(Gauging.complete_run _ _ _).trans h.record, (Gauging.complete_exposure _ _ _).trans h.exposure, h.run, h.holder,
      h.notT, h.window, h.remembered⟩
  unfold State.completeVertical
  simp only
  split
  · exact h1.enterTraversing hk
  · exact State.endAndRetrieve_ok _ _ h1.run h1.record h1.notT

theorem InRun.stowedArrival {k : HoldKind} {r : Run} (h : InRun s k) (hk : r.kind = k) : CablewayOk (s.stowedArrival r) := by
  unfold State.stowedArrival
  split
  · exact h.enterTraversing hk
  · exact h.completeVertical hk

theorem InRun.enterRaising {k : HoldKind} {r : Run} (h : InRun s k) (hk : r.kind = k) : CablewayOk (s.enterRaising r) := by
  unfold State.enterRaising
  split
  · exact h.stowedArrival hk
  · exact h.cablewayOk (r := r) hk rfl rfl (fun _ => rfl) rfl rfl rfl rfl rfl
      (by simp [State.withCable, Cableway.move, h.exposure])

/-! ### The flood abort (R91, R123) -/

theorem kept_floodAbort (s : State) : Kept ser war cab s s.floodAbort := by
  unfold State.floodAbort
  split
  · rename_i hrun
    exact kept_endAndRetrieve s _ hrun
  · exact .refl s

theorem kept_floodOnLevel (s : State) : Kept ser war cab s s.floodOnLevel := by
  unfold State.floodOnLevel
  split
  · exact .refl s
  · split
    · exact kept_floodAbort s
    · exact .refl s

theorem kept_floodOnAppend (s : State) (o : Observation) : Kept ser war cab s (s.floodOnAppend o) := by
  unfold State.floodOnAppend
  split
  · exact .refl s
  · exact Kept.ite (kept_floodAbort s) (.refl s)

/-! ### Requests -/

theorem kept_fromHolder (s : State) (p : Port) (f : State → State)
    (h : s.cable.holder = some p → Kept ser war cab s (f s)) : Kept ser war cab s (s.fromHolder p f) := by
  unfold State.fromHolder
  split
  · rename_i hp
    exact h hp
  · exact kept_reply s p _

/-- A change of the cableway that neither its lock nor its lines speak of. -/
theorem CablewayOk.of_fields {t : State} (h : CablewayOk s) (hd : t.cable.drive = s.cable.drive)
    (hs : t.cable.state = s.cable.state) (hr : t.cable.run = s.cable.run) (hh : t.cable.holder = s.cable.holder)
    (hw : t.cable.window = s.cable.window) (hm : t.cable.remembered = s.cable.remembered)
    (ht : t.cable.motionTimer = s.cable.motionTimer) (hrec : t.gauging.run = s.gauging.run)
    (he : t.gauging.exposure.isSome = s.gauging.exposure.isSome) : CablewayOk t := by
  unfold CablewayOk at *
  rw [hd, hs, hr, hh, hw, hm, ht, hrec, he]
  exact h

theorem kept_setCableway (s : State) (p : Port) (c : CablewaySettings) : Kept ser war cab s (s.setCableway p c) := by
  unfold State.setCableway
  split
  · exact kept_reply s p _
  · split
    · exact kept_reply s p _
    · refine Kept.trans (Kept.of_cable ?_) (kept_writeThrough _ p (.cableway c) fun l hl => by cases hl)
      exact fun _ i => i.of_fields rfl rfl rfl rfl rfl rfl rfl rfl rfl

/-- Without a holder only IDLE, RETRIEVING and STUCK stand. -/
theorem CablewayOk.unheld (h : CablewayOk s) (hh : s.cable.holder = none) :
    s.cable.state = .idle ∨ s.cable.state = .retrieving ∨ s.cable.state = .stuck := by
  obtain ⟨-, -, -, hheld, -⟩ := h
  cases hst : s.cable.state <;> simp [hst, hh, RunState.held] at hheld ⊢

theorem kept_claimCableway (s : State) (p : Port) (hp : p ≠ .T) : Kept ser war cab s (s.claimCableway p) := by
  unfold State.claimCableway
  split
  · exact kept_reply s p _
  · split
    · exact kept_reply s p _
    · rename_i hnone
      have hnone : s.cable.holder = none := by simpa using hnone
      split
      · exact kept_reply s p _
      · rename_i hret
        split
        · exact kept_reply s p _
        · rename_i hstuck
          have hstuck : s.cable.state ≠ .stuck := by
            intro hst
            simp [hst] at hstuck
          split
          · exact kept_reply s p _
          · refine Kept.trans (Kept.of_cable fun _ i => ?_) (kept_reply _ p _)
            have hidle : s.cable.state = .idle := by
              rcases i.unheld hnone with h | h | h
              · exact h
              · exact absurd h hret
              · exact absurd h hstuck
            unfold CablewayOk at i ⊢
            simp only [hidle, hnone] at i ⊢
            simp_all [RunState.drives, RunState.running, RunState.measuring, RunState.held]

theorem kept_forceClaim (s : State) : Kept ser war cab s (s.forceClaim .F) := by
  unfold State.forceClaim
  split
  · rename_i hL
    simp only
    refine Kept.trans ?_ (kept_reply _ .F _)
    split
    · rename_i hrun
      refine Kept.withCableOk ((Kept.of_cable fun h => h.elim).trans (kept_endAndRetrieve_blocks _ _)) fun _ i => ?_
      obtain ⟨-, -, hrec, -⟩ := i
      exact State.endAndRetrieve_ok _ _ hrun (hrec.trans hrun) (by simp [State.withCable])
    · rename_i hrun
      have hrun : s.cable.run = none := by simpa [State.withCable] using hrun
      refine Kept.of_cable fun _ i => ?_
      obtain ⟨h1, h2, h3, h4, h5, h6, h7, h8, h9, h10, h11⟩ := i
      refine ⟨h1, h2, h3, fun b hb => ?_, by simp, fun r hr => ?_, fun hw => ⟨(h7 hw).1, rfl⟩, fun _ => rfl, h9, h10, h11⟩
      · have := h4 b hb
        rw [hL] at this
        exact this
      · have hr : s.cable.run = some r := hr
        rw [hrun] at hr
        cases hr
  · exact kept_reply s _ _
  · exact kept_reply s _ _

theorem kept_dropClaim (s : State) : Kept ser war cab s s.dropClaim := by
  unfold State.dropClaim
  simp only
  split
  · rename_i hst
    refine Kept.of_cable fun _ i => ?_
    unfold CablewayOk at i ⊢
    simp only [hst] at i ⊢
    simp_all [RunState.drives, RunState.running, RunState.measuring, RunState.held]
  · rename_i hclaimed
    split
    · rename_i hrun
      refine Kept.withCableOk ((Kept.of_cable fun h => h.elim).trans (kept_endAndRetrieve_blocks _ _)) fun _ i => ?_
      obtain ⟨-, -, hrec, -⟩ := i
      exact State.endAndRetrieve_ok _ _ hrun (hrec.trans hrun) (by simp [State.withCable])
    · rename_i hrun
      have hrun : s.cable.run = none := by simpa using hrun
      split
      · rename_i hst
        refine Kept.of_cable fun _ i => ?_
        have hv := i.vacant (by rw [hst]; rfl)
        exact Vacant.retrieve (s := s) (c := { s.cable with holder := none })
          ⟨hv.run, hv.record, hv.exposure, by simp, hv.window, hv.remembered⟩ _
      · rename_i hfaulted
        refine Kept.of_cable fun _ i => ?_
        obtain ⟨h1, h2, h3, h4, h5, h6, h7, h8, h9, h10, h11⟩ := i
        have hnr : s.cable.state.running = false := by rw [← h2, hrun]; rfl
        have hnm : s.cable.state.measuring = false ∧ s.cable.state ≠ .paused := by
          simpa [RunState.running] using hnr
        refine ⟨h1, h2, h3, fun b hb => ?_, by simp, fun r hr => ?_, fun hw => ?_, fun hp => absurd hp hnm.2, h9, h10, h11⟩
        · have hb : s.cable.state.held = some b := hb
          cases hst : s.cable.state <;> simp_all [RunState.held, RunState.running, RunState.measuring]
        · have hr : s.cable.run = some r := hr
          rw [hrun] at hr
          cases hr
        · have := (h7 hw).1
          rw [hnm.1] at this
          cases this

theorem kept_releaseCableway (s : State) (p : Port) : Kept ser war cab s (s.releaseCableway p) :=
  kept_fromHolder s p _ fun _ => (kept_dropClaim s).trans (kept_reply _ p _)

theorem kept_loadPlan (s : State) (p : Port) (f : Option PlanFields) : Kept ser war cab s (s.loadPlan p f) := by
  refine kept_fromHolder s p _ fun _ => ?_
  unfold State.takePlan
  split
  · exact kept_reply s p _
  · split
    · exact kept_reply s p _
    · split
      · exact kept_reply s p _
      · split
        · exact kept_reply s p _
        · refine Kept.trans (Kept.of_cable ?_) (kept_reply _ p _)
          exact fun _ i => i.of_fields rfl rfl rfl rfl rfl rfl rfl rfl rfl

/-- A run begins within the lock. -/
theorem kept_beginRun (s : State) (p : Port) (plan : Plan) (k : Nat)
    (hp : s.cable.holder = some p) : Kept ser war cab s (s.beginRun p plan k) := by
  refine Kept.withCableOk ?_ fun _ i => ?_
  · unfold State.beginRun
    simp only
    split
    · exact Kept.trans (Kept.of_cable fun h => h.elim) (kept_enterTraversing _ _)
    · exact Kept.trans (Kept.of_cable fun h => h.elim) (kept_enterRaising _ _)
  · obtain ⟨-, -, -, -, hT, -, -, -, hrem, -, -⟩ := i
    have hwin : (if holdKind p = .attended then some s.tenths else none).isSome = true → s.cable.holder = some .F := by
      rw [hp]
      cases p <;> simp [holdKind]
    unfold State.beginRun
    simp only
    split
    · exact InRun.enterTraversing (k := holdKind p)
        ⟨rfl, rfl, rfl, by dsimp only; rw [hp]; rfl, hT, hwin, hrem⟩ rfl
    · exact InRun.enterRaising (k := holdKind p)
        ⟨rfl, rfl, rfl, by dsimp only; rw [hp]; rfl, hT, hwin, hrem⟩ rfl

theorem kept_startRun (s : State) (p : Port) : Kept ser war cab s (s.startRun p) := by
  refine kept_fromHolder s p _ fun hp => ?_
  unfold State.takeStart
  split
  · exact kept_reply s p _
  · split
    · split
      · exact kept_reply s p _
      · split
        · exact kept_reply s p _
        · exact (kept_beginRun s p _ _ hp).trans (kept_reply _ p _)
    · exact kept_reply s p _

theorem kept_holdAlive (s : State) (p : Port) : Kept ser war cab s (s.holdAlive p) := by
  refine kept_fromHolder s p _ fun _ => ?_
  split
  · exact kept_reply s p _
  · rename_i ref hw
    split
    · exact kept_reply s p _
    · refine Kept.trans (Kept.of_cable fun _ i => ?_) (kept_reply _ p _)
      obtain ⟨h1, h2, h3, h4, h5, h6, h7, h8, h9, h10, h11⟩ := i
      exact ⟨h1, h2, h3, h4, h5, h6, fun _ => h7 (by rw [hw]; rfl), h8, h9, h10, h11⟩

theorem kept_takeUp (s : State) (m : RunState) (r : Run) : Kept ser war False s (s.takeUp m r) := by
  cases m
  case traversing => exact kept_enterTraversing s r
  case sounding => exact Kept.of_cable fun h => h.elim
  case positioning => exact kept_enterPositioning s r
  case counting => exact kept_enterCounting s r
  case raising => exact kept_enterRaising s r
  all_goals exact .refl s

theorem InRun.takeUp {k : HoldKind} {r : Run} {m : RunState} (h : InRun s k) (hr : s.cable.run = some r) (hk : r.kind = k)
    (hm : m.measuring = true) : CablewayOk (s.takeUp m r) := by
  cases m
  case traversing => exact h.enterTraversing hk
  case sounding =>
    exact h.cablewayOk (r := r) hk hr rfl (fun _ => rfl) rfl rfl rfl rfl rfl
      (by simp [State.takeUp, State.lower, State.withCable, Cableway.move, h.exposure])
  case positioning => exact h.enterPositioning hk
  case counting => exact h.enterCounting hk
  case raising => exact h.enterRaising hk
  all_goals cases hm

theorem kept_resumeRun (s : State) (p : Port) : Kept ser war cab s (s.resumeRun p) := by
  refine kept_fromHolder s p _ fun hp => ?_
  split
  · rename_i m r hst hm hr
    refine Kept.trans (Kept.withCableOk ((Kept.of_cable fun h => h.elim).trans (kept_takeUp _ m.state r)) fun _ i => ?_)
      (kept_reply _ p _)
    have he := i.exposure_none (by rw [hst]; decide)
    have hrun := i.inRun hr he
    obtain ⟨-, -, -, -, -, -, -, hpaused, hrem, -, -⟩ := i
    exact InRun.takeUp (k := r.kind)
      ⟨hrun.record, he, hrun.run, hrun.holder, hrun.notT, fun _ => hpaused hst, by simp⟩ hr rfl (hrem m hm)
  · exact kept_reply s p _

theorem kept_retrieve (s : State) (hst : s.cable.state = .faulted) : Kept ser war cab s s.retrieve :=
  Kept.of_cable fun _ i => (i.vacant (by rw [hst]; rfl)).retrieve (s := s) _

theorem kept_abortRun (s : State) (p : Port) : Kept ser war cab s (s.abortRun p) := by
  refine kept_fromHolder s p _ fun _ => ?_
  split
  · rename_i hrun
    exact (kept_endAndRetrieve s _ hrun).trans (kept_reply _ p _)
  · split
    · rename_i hst
      exact (kept_retrieve s hst).trans (kept_reply _ p _)
    · exact kept_reply s p _

theorem kept_clearFault (s : State) (p : Port) : Kept ser war cab s (s.clearFault p) := by
  unfold State.clearFault
  split
  · rename_i hst
    refine Kept.trans (Kept.of_cable fun _ i => ?_) (kept_reply _ p _)
    unfold CablewayOk at i ⊢
    simp only [hst] at i ⊢
    simp_all [RunState.drives, RunState.running, RunState.measuring, RunState.held]
  · exact kept_reply s p _

/-! ### Events -/

theorem kept_traverseArrival (s : State) : Kept ser war cab s s.traverseArrival := by
  unfold State.traverseArrival
  split
  · rename_i t r hst ht hr
    split
    · exact (kept_enterSounding s r).withCableOk fun _ i =>
        (i.inRun hr (i.exposure_none (by rw [hst]; decide))).enterSounding rfl
    · exact .refl s
  · rename_i t hst ht
    split
    · exact Kept.of_cable fun _ i => (i.vacant (by rw [hst]; rfl)).retrievalEnd (s := s)
    · exact .refl s
  · exact .refl s

theorem kept_reelArrival (s : State) : Kept ser war cab s s.reelArrival := by
  unfold State.reelArrival
  split
  · rename_i t r hst ht hr
    split
    · exact (kept_enterCounting s r).withCableOk fun _ i =>
        (i.inRun hr (i.exposure_none (by rw [hst]; decide))).enterCounting rfl
    · exact .refl s
  · rename_i t r hst ht hr
    split
    · exact (kept_stowedArrival s r).withCableOk fun _ i =>
        (i.inRun hr (i.exposure_none (by rw [hst]; decide))).stowedArrival rfl
    · exact .refl s
  · rename_i t hst ht
    split
    · exact Kept.of_cable fun _ i => (i.vacant (by rw [hst]; rfl)).retrieveCarriage (s := s) _
    · exact .refl s
  · exact .refl s

theorem kept_surfaceContact (s : State) : Kept ser war cab s s.surfaceContact := by
  unfold State.surfaceContact
  split
  · rename_i r hst hr
    split
    · refine Kept.of_cable fun _ i => ?_
      have hin := i.inRun hr (i.exposure_none (by rw [hst]; decide))
      obtain ⟨h1, -, -, -, -, -, -, -, -, h10, h11⟩ := i
      exact hin.cablewayOk (r := { r with zs := some s.cable.lines.reel }) rfl rfl (by dsimp only; rw [hst]; rfl) h1 h10
        rfl rfl rfl rfl h11
    · exact .refl s
  · exact .refl s

theorem kept_bottomContact (s : State) : Kept ser war cab s s.bottomContact := by
  unfold State.bottomContact
  split
  · rename_i r hst hr
    have hin : CablewayOk s → InRun s r.kind := fun i => i.inRun hr (i.exposure_none (by rw [hst]; decide))
    split
    · exact (kept_enterRaising s _).withCableOk fun _ i => (hin i).enterRaising rfl
    · exact (kept_enterPositioning s _).withCableOk fun _ i => (hin i).enterPositioning rfl
  · exact .refl s

theorem kept_reelLimit (s : State) : Kept ser war cab s s.reelLimit := by
  unfold State.reelLimit
  split
  · rename_i r hst hr
    split
    · exact (kept_enterRaising s _).withCableOk fun _ i =>
        (i.inRun hr (i.exposure_none (by rw [hst]; decide))).enterRaising rfl
    · exact .refl s
  · exact .refl s

theorem kept_meterPulse (s : State) : Kept ser war cab s s.meterPulse := by
  unfold State.meterPulse
  split
  · exact Kept.of_cable (c := s.cable) fun _ i => i.of_fields rfl rfl rfl rfl rfl rfl rfl rfl (by simp)
  · exact .refl s

theorem kept_exposureExpiry (s : State) : Kept ser war cab s s.exposureExpiry := by
  unfold State.exposureExpiry
  split
  · rename_i t r hst ht hr
    refine Kept.withCableOk ?_ fun _ i => ?_
    · have h1 : Kept ser war False s
          { s with
            elapsed := max s.elapsed t
            cable := { s.cable with exposureTimer := none }
            gauging := { s.gauging with kept := s.gauging.kept ++ s.gauging.exposure.toList, exposure := none } } :=
        Kept.trans (Kept.of_elapsed _) (Kept.of_cable fun h => h.elim)
      simp only
      split
      · exact h1.trans (kept_enterPositioning _ _)
      · exact h1.trans (kept_enterRaising _ _)
    · obtain ⟨-, -, hrec, -, hT, hkind, hwin, -, hrem, -, -⟩ := i
      have hin : InRun
          { s with
            elapsed := max s.elapsed t
            cable := { s.cable with exposureTimer := none }
            gauging := { s.gauging with kept := s.gauging.kept ++ s.gauging.exposure.toList, exposure := none } } r.kind :=
        ⟨by dsimp only; rw [hrec, hr]; rfl, rfl, by dsimp only; rw [hr]; rfl, hkind r hr, hT, fun hw => (hwin hw).2, hrem⟩
      simp only
      split
      · exact hin.enterPositioning rfl
      · exact hin.enterRaising rfl
  · exact .refl s

/-- A run in progress that ends in FAULTED keeps its holder (R125). -/
theorem kept_fault (s : State) (cause : EndCause) (hst : s.cable.state.running = true) : Kept ser war cab s (s.fault cause) := by
  refine ((kept_endRun_blocks s cause).trans (Kept.of_cable fun h => h.elim)).withCableOk fun _ i => ?_
  obtain ⟨-, hrun, hrec, hheld, hT, -⟩ := i
  have hrun : s.cable.run.isSome = true := hrun.trans hst
  have hholder : s.cable.holder.isSome = true := hheld true (by
    revert hst
    cases s.cable.state <;> simp [RunState.running, RunState.measuring, RunState.held])
  obtain ⟨hc, hr, he⟩ := s.endRun_blocks cause hrun (hrec.trans hrun)
  unfold CablewayOk
  simp [hc, hr, he, Cableway.ended, RunState.drives, RunState.running, RunState.measuring, RunState.held,
    hholder, hT]

theorem kept_stuck (s : State) (cause : EndCause) (hst : s.cable.state = .retrieving) : Kept ser war cab s (s.stuck cause) := by
  refine Kept.trans (Kept.of_cable fun _ i => ?_) (kept_notice _ _)
  obtain ⟨-, hrun, hrec, -, -, -, hwin, -, hrem, -, hexp⟩ := i
  rw [hst] at hrun hexp hwin
  unfold CablewayOk
  simp_all [RunState.drives, RunState.running, RunState.measuring, RunState.held]

theorem RunState.running_of_measuring {st : RunState} (h : st.measuring = true) : st.running = true := by
  simp [RunState.running, h]

theorem kept_motionExpiry (s : State) : Kept ser war cab s s.motionExpiry := by
  unfold State.motionExpiry
  split
  · exact .refl s
  · simp only
    split
    · rename_i hm
      exact (kept_advanceTo s _).trans (kept_fault _ _ (RunState.running_of_measuring hm))
    · split
      · rename_i hst
        exact (kept_advanceTo s _).trans (kept_stuck _ _ hst)
      · exact .refl s

theorem kept_overloaded (s : State) : Kept ser war cab s s.overloaded := by
  unfold State.overloaded
  split
  · rename_i h
    exact kept_fault s _ h
  · split
    · rename_i hst
      exact kept_stuck s _ hst
    · exact .refl s

theorem kept_windowExpiry (s : State) : Kept ser war cab s s.windowExpiry := by
  unfold State.windowExpiry
  split
  · exact .refl s
  · rename_i ref hw
    split
    · rename_i hm
      refine (kept_advanceTo s _).trans (Kept.of_cable fun _ i => ?_)
      obtain ⟨-, hrun, hrec, hheld, hT, hkind, hwin, -, -, -, -⟩ := i
      simp only [State.advanceTo_cable, State.advanceTo_gauging] at hrun hrec hheld hT hkind hwin
      have hF := (hwin (by rw [hw]; rfl)).2
      have hrun : s.cable.run.isSome = true := hrun.trans (RunState.running_of_measuring hm)
      unfold CablewayOk
      simp only [State.advanceTo_cable]
      refine ⟨fun h => absurd rfl h, by rw [Cableway.halt_run, hrun]; rfl, hrec, fun b hb => ?_, hT, hkind, by simp,
        fun _ => hF, fun m hm' => by cases hm'; exact hm, rfl, rfl⟩
      cases hb
      rw [Cableway.halt_holder, hF]
      rfl
    · exact .refl s

theorem kept_pauseExpiry (s : State) : Kept ser war cab s s.pauseExpiry := by
  unfold State.pauseExpiry
  split
  · rename_i t hst ht
    refine Kept.withCableOk ((kept_advanceTo s t).trans (kept_endAndRetrieve_blocks _ _)) fun _ i => ?_
    refine CablewayOk.endAndRetrieve (s := s.advanceTo t) i _ ?_
    obtain ⟨-, hrun, -⟩ := i
    rw [hst] at hrun
    exact hrun
  · exact .refl s

end

end Sys2Proof.Machine
end

section
/-! SUPPORT. The operations of the warning unit, the level acquisition unit, the rating store, the settings store and the ports, and
what they keep of the six invariants (R17, R28, R59, R85, R92, R97, R99, R188). -/

namespace Sys2Proof.Machine

section
variable {ser war cab : Prop} {s : State}

/-! ### The warning unit -/

@[simp] theorem State.endRun_warning (s : State) (cause : EndCause) : (s.endRun cause).warning = s.warning := by
  unfold State.endRun
  split
  · rfl
  · simp only [State.gaugeEnd]
    split <;> split <;> rfl

@[simp] theorem State.endAndRetrieve_warning (s : State) (cause : EndCause) :
    (s.endAndRetrieve cause).warning = s.warning := s.endRun_warning cause

@[simp] theorem State.floodAbort_warning (s : State) : s.floodAbort.warning = s.warning := by
  unfold State.floodAbort
  split
  · exact s.endAndRetrieve_warning _
  · rfl

@[simp] theorem State.floodOnLevel_warning (s : State) : s.floodOnLevel.warning = s.warning := by
  unfold State.floodOnLevel
  split
  · rfl
  · split
    · exact s.floodAbort_warning
    · rfl

/-- What holds of the warning unit whatever level it stands at: all of its consistency but that the level is the one formed and the
relay in its required state. -/
structure WarningBase (w : Warning) : Prop where
  owed : w.owed = true ↔ w.deadline ≠ .stopped
  above : w.owed = true → w.level ≠ .clear
  first : w.firstTime.isSome = w.owed
  silent : w.silent = true ↔ w.silenceTimer = none

theorem WarningOk.base (h : WarningOk s) : WarningBase s.warning := ⟨h.2.2.1, h.2.2.2.1, h.2.2.2.2.1, h.2.2.2.2.2⟩

theorem WarningBase.ok (h : WarningBase s.warning) (hf : s.warning.level = s.warning.formed)
    (hr : s.warning.relay = s.warning.relayRequired) : WarningOk s := ⟨hf, hr, h.owed, h.above, h.first, h.silent⟩

/-- The consistency speaks of the warning unit alone. -/
theorem WarningOk.of_eq {t : State} (h : WarningOk s) (hw : t.warning = s.warning) : WarningOk t := by
  unfold WarningOk at *
  rw [hw]
  exact h

theorem WarningBase.escalate {w : Warning} (h : WarningBase w) (new : Level) (time now : Nat)
    (hn : levelRank w.level < levelRank new) : WarningBase (w.escalate new time now) := by
  have hne : new ≠ .clear := fun hc => by simp [hc, levelRank] at hn
  unfold Warning.escalate
  split
  · exact ⟨by simp, fun _ => hne, rfl, h.silent⟩
  · rename_i hd
    have ho : w.owed = true := h.owed.2 hd
    exact ⟨by simpa using hd, fun _ => hne, by simp [h.first, ho], h.silent⟩

theorem WarningBase.deescalate {w : Warning} (h : WarningBase w) (new : Level) : WarningBase (w.deescalate new) := by
  unfold Warning.deescalate
  split
  · exact ⟨by simp [Warning.settled], by simp [Warning.settled], rfl, h.silent⟩
  · rename_i hne
    exact ⟨h.owed, fun _ => hne, h.first, h.silent⟩

theorem WarningBase.withRelay {w : Warning} (h : WarningBase w) : WarningBase w.withRelay := ⟨h.owed, h.above, h.first, h.silent⟩

/-- The warning unit that a change of level leaves. -/
def Warning.changed (w : Warning) (new : Level) (time now : Nat) : Warning :=
  if new = w.level then w
  else if levelRank w.level < levelRank new then (w.escalate new time now).withRelay
  else (w.deescalate new).withRelay

@[simp] theorem State.changeLevel_warning (s : State) (new : Level) (cause : LevelCause) (o : Owner) :
    (s.changeLevel new cause o).warning = s.warning.changed new s.clock.time s.elapsed := by
  unfold State.changeLevel Warning.changed
  split
  · rfl
  · simp only [State.floodOnLevel_warning, State.levelRecord_warning]
    show (if _ then _ else _ : Warning).withRelay = _
    split <;> rfl

/-- A change of level keeps which records are set and which are ACTIVE, and so the level they form. -/
theorem Warning.changed_formed (w : Warning) (new : Level) (time now : Nat) : (w.changed new time now).formed = w.formed := by
  unfold Warning.changed
  split
  · rfl
  · split
    · unfold Warning.escalate; split <;> rfl
    · unfold Warning.deescalate; split <;> rfl

theorem Warning.changed_level (w : Warning) (new : Level) (time now : Nat) : (w.changed new time now).level = new := by
  unfold Warning.changed
  split
  · rename_i h; exact h.symm
  · split
    · unfold Warning.escalate; split <;> rfl
    · unfold Warning.deescalate; split <;> rfl

theorem WarningBase.changed {w : Warning} (h : WarningBase w) (new : Level) (time now : Nat) :
    WarningBase (w.changed new time now) := by
  unfold Warning.changed
  split
  · exact h
  · split
    · rename_i hlt
      exact (h.escalate new time now hlt).withRelay
    · exact (h.deescalate new).withRelay

theorem Warning.changed_relay {w : Warning} (new : Level) (time now : Nat) (h : w.relay = w.relayRequired) :
    (w.changed new time now).relay = (w.changed new time now).relayRequired := by
  unfold Warning.changed
  split
  · exact h
  · split <;> rfl

/-- The change to the level formed leaves the warning unit consistent. -/
theorem WarningBase.changeLevel (h : WarningBase s.warning) (hr : s.warning.relay = s.warning.relayRequired)
    (cause : LevelCause) (o : Owner) : WarningOk (s.changeLevel s.warning.formed cause o) := by
  refine WarningBase.ok ?_ ?_ ?_ <;> rw [State.changeLevel_warning]
  · exact h.changed _ _ _
  · rw [Warning.changed_level, Warning.changed_formed]
  · exact Warning.changed_relay _ _ _ hr

theorem kept_changeLevel_blocks (s : State) (new : Level) (cause : LevelCause) (o : Owner) :
    Kept ser False cab s (s.changeLevel new cause o) := by
  unfold State.changeLevel
  split
  · exact .refl s
  · exact Kept.trans (Kept.trans (Kept.trans (Kept.of_warning fun h => h.elim) (kept_notice _ _)) (kept_levelRecord _ _ o))
      (kept_floodOnLevel _)

theorem kept_evaluate (s : State) (o : Observation) : Kept ser war cab s (s.evaluate o) := by
  refine Kept.withWarningOk ((Kept.of_warning fun h => h.elim).trans (kept_changeLevel_blocks _ _ _ _)) fun _ i => ?_
  obtain ⟨-, hr, -⟩ := id i
  exact WarningBase.changeLevel
    (s := { s with warning := { s.warning with live := Eight.zip (evaluateRecord o) s.warning.settings s.warning.live } })
    ⟨i.base.owed, i.base.above, i.base.first, i.base.silent⟩ hr _ _

theorem kept_ackLevel (s : State) (p : Port) (l : Option Level) : Kept ser war cab s (s.ackLevel p l) := by
  unfold State.ackLevel
  split
  · exact kept_reply s p _
  · refine Kept.ite (kept_reply s p _) (Kept.ite (kept_reply s p _) ?_)
    refine Kept.trans (Kept.trans (kept_defer s p _ _ _ _) (Kept.of_warning fun _ i => ?_)) (kept_levelRecord _ _ _)
    exact ⟨i.1, rfl, by simp [Warning.settled, Warning.withRelay], by simp [Warning.settled, Warning.withRelay], rfl,
      i.2.2.2.2.2⟩

theorem kept_setWarningTimers (s : State) (p : Port) (t : WarningTimers) : Kept ser war cab s (s.setWarningTimers p t) := by
  unfold State.setWarningTimers
  refine Kept.ite (Kept.trans (Kept.of_warning ?_) (kept_writeThrough _ p (.warning t) fun l hl => by cases hl)) (kept_reply s p _)
  exact fun _ i => i

theorem kept_restartSilence (s : State) : Kept ser war cab s s.restartSilence := by
  unfold State.restartSilence
  simp only
  split
  · refine Kept.trans (Kept.of_warning fun _ i => ?_) (kept_levelRecord _ _ _)
    exact ⟨i.1, rfl, i.2.2.1, i.2.2.2.1, i.2.2.2.2.1, by simp [Warning.withRelay]⟩
  · rename_i hs
    exact Kept.of_warning fun _ i => ⟨i.1, i.2.1, i.2.2.1, i.2.2.2.1, i.2.2.2.2.1, by simp [hs]⟩

theorem kept_deadlineExpiry (s : State) : Kept ser war cab s s.deadlineExpiry := by
  unfold State.deadlineExpiry
  split
  · rename_i t hd
    refine Kept.trans (Kept.trans (kept_advanceTo s t) (Kept.of_warning fun _ i => ?_)) (kept_levelRecord _ _ _)
    have ho : s.warning.owed = true := i.2.2.1.2 (by simp [hd])
    exact ⟨i.1, rfl, by simp [Warning.withRelay, ho], i.2.2.2.1, i.2.2.2.2.1, i.2.2.2.2.2⟩
  · exact .refl s
  · exact .refl s

theorem kept_silenceExpiry (s : State) : Kept ser war cab s s.silenceExpiry := by
  unfold State.silenceExpiry
  split
  · rename_i t hs ht
    refine Kept.trans (Kept.trans (kept_advanceTo s t) (Kept.of_warning fun _ i => ?_)) (kept_levelRecord _ _ _)
    exact ⟨i.1, rfl, i.2.2.1, i.2.2.2.1, i.2.2.2.2.1, by simp [Warning.withRelay]⟩
  · exact .refl s

/-! ### The rating store and the shift table (R59, R62) -/

theorem kept_slotChange (s : State) (p : Port) (n : Fin 4) (v : Option RatingVersion) (id : Nat) (b : RatingBody)
    (a : Payload) : Kept ser war cab s (s.slotChange p n v id b a) := by
  unfold State.slotChange
  refine Kept.trans (Kept.trans (Kept.trans (Kept.of_rating ?_) (kept_defer _ p _ _ _ _))
    (kept_write _ p (.slot n _) fun _ l hl => ?_)) (kept_hand _ _ _)
  · rfl
  · cases hl

theorem kept_commitRating (s : State) (p : Port) (f : Option RatingFields) : Kept ser war cab s (s.commitRating p f) := by
  unfold State.commitRating
  split
  · exact kept_reply s p _
  · refine Kept.ite (kept_reply s p _) (Kept.ite (kept_reply s p _) (Kept.ite (kept_reply s p _) ?_))
    split
    · exact kept_slotChange s p _ _ _ _ _
    · split
      · exact kept_reply s p _
      · split
        · exact kept_reply s p _
        · exact kept_slotChange s p _ _ _ _ _

theorem kept_deleteRating (s : State) (p : Port) (id : Nat) : Kept ser war cab s (s.deleteRating p id) := by
  unfold State.deleteRating
  refine Kept.ite (kept_reply s p _) ?_
  split
  · exact Kept.ite (kept_reply s p _) (kept_slotChange s p _ _ _ _ _)
  · exact kept_reply s p _

theorem kept_freezeRating (s : State) (p : Port) : Kept ser war cab s (s.freezeRating p) := by
  unfold State.freezeRating
  refine Kept.ite (kept_reply s p _) (Kept.trans (Kept.trans (Kept.of_rating ?_) (kept_defer _ p _ _ _ _)) (kept_hand _ _ _))
  rfl

theorem kept_writeDatum (s : State) (p : Port) (e : Int) : Kept ser war cab s (s.writeDatum p e) := by
  unfold State.writeDatum
  refine Kept.ite (kept_reply s p _) (Kept.ite (kept_reply s p _) ?_)
  refine Kept.trans (Kept.trans (Kept.trans (Kept.of_rating ?_) (kept_defer _ p _ _ _ _))
    (kept_write _ p (.datum e) fun _ l hl => ?_)) (kept_hand _ _ _)
  · rfl
  · cases hl

theorem kept_fixDatum (s : State) (p : Port) : Kept ser war cab s (s.fixDatum p) := by
  unfold State.fixDatum
  refine Kept.ite (kept_reply s p _) ?_
  refine Kept.trans (Kept.trans (Kept.trans (Kept.of_rating ?_) (kept_defer _ p _ _ _ _))
    (kept_write _ p (.cell s.rating.elevation) fun _ l hl => ?_)) (kept_hand _ _ _)
  · rfl
  · cases hl

/-! ### The shift table and the gauging list (R59, R62, R154, R155) -/

theorem kept_shiftChange (s : State) (p : Port) (table : List ShiftEntry) (b : ShiftBody)
    (h : tableOk s.rating.shifts → tableOk table) : Kept ser war cab s (s.shiftChange p table b) := by
  unfold State.shiftChange
  refine Kept.trans (Kept.trans (Kept.trans (Kept.of_shifts h) (kept_defer _ p _ _ _ _))
    (kept_write _ p (.shifts table) fun i l hl => ?_)) (kept_hand _ _ _)
  cases hl
  exact i.1

theorem kept_insertShift (s : State) (p : Port) (event : ShiftEvent) (e : ShiftEntry) :
    Kept ser war cab s (s.insertShift p event e) :=
  kept_shiftChange s p _ _ fun h => insertShift_keeps_tableOk h e

theorem kept_setShift (s : State) (p : Port) (f : Option ShiftFields) : Kept ser war cab s (s.setShift p f) := by
  unfold State.setShift
  split
  · exact kept_reply s p _
  · exact Kept.ite (kept_reply s p _) (kept_insertShift s p _ _)

theorem tableOk_filter {l : List ShiftEntry} (f : ShiftEntry → Bool) (h : tableOk l) : tableOk (l.filter f) :=
  ⟨(List.length_filter_le f l).trans h.1,
    (shiftsIncrease_iff _).2 (((shiftsIncrease_iff l).1 h.2).sublist List.filter_sublist)⟩

theorem kept_deleteShift (s : State) (p : Port) (time : Nat) : Kept ser war cab s (s.deleteShift p time) := by
  unfold State.deleteShift
  split
  · exact kept_reply s p _
  · exact kept_shiftChange s p _ _ fun h => tableOk_filter _ h

theorem kept_readGauging (s : State) (p : Port) (id : Nat) : Kept ser war cab s (s.readGauging p id) :=
  Kept.ite (.of_ports (s.ports.kept_await p _)) (kept_answer s p _ _)

theorem kept_acceptShift (s : State) (p : Port) (id : Nat) : Kept ser war cab s (s.acceptShift p id) := by
  unfold State.acceptShift
  split
  · exact kept_reply s p _
  · refine Kept.trans (Kept.of_gauging ?_ ?_) (kept_insertShift _ p _ _) <;> rfl

theorem kept_rejectShift (s : State) (p : Port) (id : Nat) : Kept ser war cab s (s.rejectShift p id) := by
  unfold State.rejectShift
  split
  · exact kept_reply s p _
  · refine Kept.trans (Kept.of_gauging ?_ ?_) (kept_reply _ p _) <;> rfl

/-! ### The stage series (R17, R28) -/

theorem timesIncrease_iff (l : List Observation) : timesIncrease l = true ↔ l.Pairwise (fun a b => a.time < b.time) := by
  induction l with
  | nil => simp [timesIncrease]
  | cons a l ih =>
    cases l with
    | nil => simp [timesIncrease]
    | cons b l =>
      rw [timesIncrease, Bool.and_eq_true, decide_eq_true_eq, ih, List.pairwise_cons (a := a)]
      refine ⟨fun ⟨hab, hl⟩ => ⟨fun c hc => ?_, hl⟩, fun ⟨ha, hl⟩ => ⟨ha b List.mem_cons_self, hl⟩⟩
      rcases List.mem_cons.1 hc with rfl | hc
      · exact hab
      · exact hab.trans ((List.pairwise_cons.1 hl).1 c hc)

theorem appendObservation_length (l : List Observation) (o : Observation) (h : l.length ≤ seriesCapacity) :
    (appendObservation l o).length ≤ seriesCapacity := by
  unfold appendObservation
  split
  · rw [List.length_append, List.length_drop, List.length_singleton]; simp only [seriesCapacity] at *; omega
  · rw [List.length_append, List.length_singleton]; omega

/-- In a series in order every time is at most the newest. -/
theorem time_le_newest {l : List Observation} (h : timesIncrease l = true) {a o : Observation} (ha : a ∈ l)
    (ho : l.getLast? = some o) : a.time ≤ o.time := by
  obtain ⟨m, rfl⟩ : ∃ m, l = m ++ [o] := List.getLast?_eq_some_iff.1 ho
  rcases List.mem_append.1 ha with ha | ha
  · exact Nat.le_of_lt ((List.pairwise_append.1 ((timesIncrease_iff _).1 h)).2.2 a ha o List.mem_cons_self)
  · rw [List.mem_singleton.1 ha]

theorem appendObservation_increases {l : List Observation} {o : Observation} (h : timesIncrease l = true)
    (hlast : ∀ a, l.getLast? = some a → a.time < o.time) : timesIncrease (appendObservation l o) = true := by
  have hall : ∀ a ∈ l, a.time < o.time := fun a ha => by
    cases hl : l.getLast? with
    | none => rw [List.getLast?_eq_none_iff.1 hl] at ha; cases ha
    | some b => exact Nat.lt_of_le_of_lt (time_le_newest h ha hl) (hlast b hl)
  have key : ∀ m : List Observation, m.Sublist l → timesIncrease (m ++ [o]) = true := fun m hm => by
    rw [timesIncrease_iff, List.pairwise_append]
    refine ⟨((timesIncrease_iff l).1 h).sublist hm, List.pairwise_singleton _ _, fun a ha b hb => ?_⟩
    rw [List.mem_singleton.1 hb]
    exact hall a (hm.subset ha)
  unfold appendObservation
  split
  · exact key _ (List.drop_sublist _ _)
  · exact key l (List.Sublist.refl l)

@[simp] theorem appendObservation_getLast? (l : List Observation) (o : Observation) :
    (appendObservation l o).getLast? = some o := by
  unfold appendObservation
  simp

/-- In a later second than the newest observation's, every observation held is earlier. -/
theorem State.laterSecond_iff (s : State) :
    s.laterSecond = true ↔ ∀ o, s.lau.series.getLast? = some o → o.time < s.clock.time := by
  unfold State.laterSecond
  cases s.lau.series.getLast? with
  | none => simp
  | some o => simp

/-- A series in order has its newest observation in this second or in an earlier one. -/
theorem SeriesOk.later (h : SeriesOk s) (hs : s.sameSecond = false) : s.laterSecond = true := by
  rw [State.laterSecond_iff]
  intro o ho
  have hle := (h.2.2.1 o ho).2
  have hne : o.time ≠ s.clock.time := by simpa [State.sameSecond, ho] using hs
  omega

/-- While the start-up sequence runs no acquisition is in flight or owed (R196). -/
theorem SeriesOk.running (h : SeriesOk s)
    (hn : s.lau.acq ≠ none ∨ s.lau.startOwed = true ∨ s.lau.lastStart ≠ none ∨ s.ports.l.frame ≠ none) :
    s.startingUp = false := by
  cases hu : s.startingUp with
  | false => rfl
  | true =>
    obtain ⟨-, hacq, howed, hlast, hframe⟩ := h.2.2.2 hu
    rcases hn with hn | hn | hn | hn
    · exact absurd hacq hn
    · rw [howed] at hn; cases hn
    · exact absurd hlast hn
    · exact absurd hframe hn

/-- After the start-up sequence the starts and the acquisition in flight are free. -/
theorem Kept.of_lau_running {l : Lau} (hu : ser → s.startingUp = false) (hs : l.series = s.lau.series) :
    Kept ser war cab s (s.withLau l) :=
  .of_lau fun c i => by
    obtain ⟨hlen, hinc, htime, -⟩ := i
    refine ⟨?_, ?_, ?_, fun h => ?_⟩
    · simp only [State.withLau, hs]; exact hlen
    · simp only [State.withLau, hs]; exact hinc
    · simp only [State.withLau, hs]; exact htime
    · rw [State.withLau_startingUp, hu c] at h; cases h

/-- An observation of this second joins the series. -/
theorem kept_join (s : State) (o : Observation) (ho : o.time = s.clock.time)
    (hl : ser → s.startingUp = false ∧ s.laterSecond = true) :
    Kept ser war cab s
      { s with
        lau := { s.lau with series := appendObservation s.lau.series o }
        clock := { s.clock with floor := o.time } } := by
  refine ⟨rfl, rfl, id, id, id, fun c i => ?_, fun _ => id, fun _ => id⟩
  obtain ⟨hu, hlater⟩ := hl c
  obtain ⟨hlen, hinc, -, -⟩ := i
  rw [State.laterSecond_iff] at hlater
  refine ⟨appendObservation_length _ _ hlen, appendObservation_increases hinc (by rw [ho]; exact hlater), fun a ha => ?_,
    fun h => ?_⟩
  · simp only [appendObservation_getLast?, Option.some.injEq] at ha
    subst ha
    exact ⟨Nat.le_refl _, Nat.le_of_eq ho⟩
  · dsimp only at h
    rw [hu] at h
    cases h

theorem kept_oweStart (s : State) (hu : ser → s.startingUp = false) : Kept ser war cab s s.oweStart :=
  .of_lau_running hu rfl

theorem kept_append (s : State) (o : Observation) (ho : o.time = s.clock.time)
    (hl : ser → s.startingUp = false ∧ s.laterSecond = true) : Kept ser war cab s (s.append o) := by
  unfold State.append
  have h2 := ((kept_join (war := war) (cab := cab) s o ho hl).trans (kept_hand _ (.obs o) .nobody)).trans (kept_evaluate _ o)
  refine (h2.trans (Kept.ite (kept_oweStart _ fun c => ?_) (.refl _))).trans (kept_floodOnAppend _ o)
  rw [h2.startingUp]
  exact (hl c).1

theorem kept_enterHeld (s : State) (cause : HoldCause) (o : Owner) : Kept ser war cab s (s.enterHeld cause o) := by
  unfold State.enterHeld
  exact Kept.lau_then ((kept_notice _ _).trans (kept_hand _ _ o)) rfl id rfl rfl

theorem kept_leaveHeld (s : State) (cause : HoldCause) (o : Owner) : Kept ser war cab s (s.leaveHeld cause o) := by
  unfold State.leaveHeld
  exact Kept.lau_then ((kept_notice _ _).trans (kept_hand _ _ o)) rfl id rfl rfl

theorem kept_sensorNotices (s : State) (n : Nat) (l : List (SensorEvent × Channel × Option Nat)) :
    Kept ser war cab s (s.sensorNotices n l) := by
  induction l generalizing s with
  | nil => exact .refl s
  | cons e l ih => exact (kept_notice s _).trans (ih _)

theorem kept_publish (s : State) (f : Found) (hl : ser → s.startingUp = false ∧ s.laterSecond = true) :
    Kept ser war cab s (s.publish f) := by
  unfold State.publish
  simp only
  generalize hn : (s.withLau { s.lau with nextObs := nextObsNumber s.lau.nextObs, acq := none }).sensorNotices
    (s.observation f).number f.events = s1
  have hframe := State.sensorNotices_frame (s.withLau { s.lau with nextObs := nextObsNumber s.lau.nextObs, acq := none })
    (s.observation f).number f.events
  rw [hn] at hframe
  have htime : (s.observation f).time = s1.clock.time := by rw [hframe]; rfl
  have hlater : ser → s1.startingUp = false ∧ s1.laterSecond = true := by rw [hframe]; exact hl
  have h1 : Kept ser war cab s s1 := by
    rw [← hn]
    exact Kept.lau_then (kept_sensorNotices _ _ _) rfl (fun _ => rfl) rfl rfl
  exact (h1.trans (kept_append s1 _ htime hlater)).trans (Kept.ite (kept_enterHeld _ _ _) (.refl _))

theorem kept_form (s : State) (a : Acquisition) (hl : ser → s.startingUp = false ∧ s.laterSecond = true) :
    Kept ser war cab s (s.form a) := by
  unfold State.form
  exact Kept.lau_then (kept_publish _ _ hl) rfl id rfl rfl

theorem kept_burstComplete (s : State) (a : Acquisition) (hu : ser → s.startingUp = false) :
    Kept ser war cab s (s.burstComplete a) := by
  have h1 : Kept ser war cab s
      (s.withLau { s.lau with excitation := PerChannel.all false, acq := some { a with phase := .completing } }) :=
    .of_lau_running hu rfl
  unfold State.burstComplete
  simp only
  split
  · rename_i hl
    exact h1.trans (kept_form _ a fun c => ⟨hu c, hl⟩)
  · exact h1

theorem kept_startAcquisition (s : State) (hl : ser → s.startingUp = false ∧ s.laterSecond = true) :
    Kept ser war cab s s.startAcquisition := by
  have hu : ser → s.startingUp = false := fun c => (hl c).1
  have h1 : Kept ser war cab s (s.withLau { s.lau with lastStart := some s.elapsed, startOwed := false }) :=
    .of_lau_running hu rfl
  unfold State.startAcquisition
  refine Kept.ite (h1.trans (kept_publish _ _ hl)) (Kept.ite (h1.trans ?_) (h1.trans (kept_burstComplete _ _ hu)))
  exact Kept.of_lau_running hu rfl

/-- A start asked for after the start-up sequence: where it is taken at once, the second is a later one. -/
theorem kept_requestStart (s : State) (hs : ser → SeriesOk s ∧ s.startingUp = false) : Kept ser war cab s s.requestStart := by
  unfold State.requestStart
  split
  · exact kept_oweStart s fun c => (hs c).2
  · rename_i h
    simp only [Bool.or_eq_true, not_or, Bool.not_eq_true] at h
    exact kept_startAcquisition s fun c => ⟨(hs c).2, (hs c).1.later h.2⟩

theorem kept_recheck (s : State) (former : Nat) (hs : ser → SeriesOk s ∧ s.startingUp = false) :
    Kept ser war cab s (s.recheck former) :=
  Kept.ite (kept_requestStart s hs) (.refl s)

theorem kept_release (s : State) (hs : ser → SeriesOk s) : Kept ser war cab s s.release := by
  unfold State.release
  split
  · rename_i a ha
    split
    · rename_i h
      simp only [Bool.and_eq_true] at h
      exact kept_form s a fun c => ⟨(hs c).running (.inl (by simp [ha])), h.2⟩
    · exact .refl s
  · split
    · rename_i h
      simp only [Bool.and_eq_true, Bool.not_eq_true'] at h
      exact kept_startAcquisition s fun c => ⟨(hs c).running (.inr (.inl h.1)), (hs c).later h.2⟩
    · exact .refl s

/-- The same after an operation. -/
theorem kept_release_after {t : State} (h : Kept ser war cab s t) (hs : ser → SeriesOk s) : Kept ser war cab s t.release :=
  h.trans (kept_release t fun c => h.series c (hs c))

theorem kept_dueReached (s : State) (hs : ser → SeriesOk s) : Kept ser war cab s s.dueReached := by
  unfold State.dueReached
  split
  · exact .refl s
  · rename_i t ht
    refine (kept_advanceTo s t).trans (kept_requestStart _ fun c => ⟨hs c, (hs c).running (.inr (.inr (.inl ?_)))⟩)
    intro hn
    simp [State.duePoint, hn] at ht

theorem kept_takeReadings (s : State) (a : Acquisition) (r : Readings) (hu : ser → s.startingUp = false) :
    Kept ser war cab s (s.takeReadings a r) := by
  unfold State.takeReadings
  exact Kept.ite ((kept_advanceTo s _).trans (kept_burstComplete _ _ hu))
    ((kept_advanceTo s _).trans (Kept.of_lau_running hu rfl))

theorem kept_warmUpExpiry (s : State) (r : Readings) (hs : ser → SeriesOk s) : Kept ser war cab s (s.warmUpExpiry r) := by
  unfold State.warmUpExpiry
  split
  · rename_i a ha
    exact Kept.ite (kept_takeReadings s a r fun c => (hs c).running (.inl (by simp [ha]))) (.refl s)
  · exact .refl s

theorem kept_burstReading (s : State) (r : Readings) (hs : ser → SeriesOk s) : Kept ser war cab s (s.burstReading r) := by
  unfold State.burstReading
  split
  · rename_i a ha
    exact Kept.ite (kept_takeReadings s a r fun c => (hs c).running (.inl (by simp [ha]))) (.refl s)
  · exact .refl s

/-- The station clock set or counted, not before the observation floor or the newest observation. -/
theorem Kept.of_clock {n : Nat} {c : Clock} (hf : c.floor = s.clock.floor) (ht : s.clock.floor ≤ c.time ∨ s.clock.time ≤ c.time) :
    Kept ser war cab s { s with elapsed := n, clock := c } := by
  refine ⟨rfl, rfl, id, id, id, fun _ i => ⟨i.1, i.2.1, fun o ho => ?_, i.2.2.2⟩, fun _ => id, fun _ => id⟩
  obtain ⟨h1, h2⟩ := i.2.2.1 o ho
  dsimp only
  rw [hf]
  rcases ht with ht | ht
  · exact ⟨h1, h1.trans ht⟩
  · exact ⟨h1, h2.trans ht⟩

theorem kept_stationSecond (s : State) (hs : ser → SeriesOk s) : Kept ser war cab s s.stationSecond := by
  unfold State.stationSecond
  split
  · have h1 : Kept ser war cab s
        { s with
          elapsed := max s.elapsed (s.clock.phase + 100).toNat
          clock := { s.clock with time := s.clock.time + 1, phase := s.clock.phase + 100 } } :=
      .of_clock rfl (.inr (Nat.le_succ _))
    exact kept_release_after h1 hs
  · exact .refl s

theorem kept_holdExpiry (s : State) : Kept ser war cab s s.holdExpiry := by
  unfold State.holdExpiry
  split
  · exact (kept_advanceTo s _).trans (kept_leaveHeld _ _ _)
  · exact .refl s

/-! ### Requests to the level acquisition unit, the clock and the threshold records -/

theorem kept_setChannel (s : State) (p : Port) (f : ChannelFields) : Kept ser war cab s (s.setChannel p f) := by
  unfold State.setChannel
  split
  · exact kept_reply s p _
  · rename_i c hc
    split
    · exact kept_reply s p _
    · rename_i v hv
      refine Kept.ite (kept_reply s p _) (Kept.trans (Kept.of_lau_settings ?_ ?_ ?_ ?_)
        (kept_writeThrough _ p (.channel c v) fun l hl => by cases hl))
      · rfl
      · intro h
        simp [Lau.setChannel, h]
      · rfl
      · rfl

theorem kept_setAcquisition (s : State) (p : Port) (f : AcqSettings) (hs : ser → SeriesOk s ∧ s.startingUp = false) :
    Kept ser war cab s (s.setAcquisition p f) := by
  have h1 : Kept ser war cab s ((s.withLau { s.lau with settings := f }).writeThrough p (.acquisition f)) :=
    Kept.lau_then (kept_writeThrough _ p (.acquisition f) fun l hl => by cases hl) rfl id rfl rfl
  exact Kept.ite (h1.trans (kept_recheck _ _ fun c => ⟨h1.series c (hs c).1, (hs c).2⟩)) (kept_reply s p _)

theorem kept_setHoldLimit (s : State) (p : Port) (n : Nat) : Kept ser war cab s (s.setHoldLimit p n) := by
  unfold State.setHoldLimit
  exact Kept.ite (Kept.lau_then (kept_writeThrough _ p (.holdLimit n) fun l hl => by cases hl) rfl id rfl rfl)
    (kept_reply s p _)

theorem kept_acquireNow (s : State) (p : Port) (hs : ser → SeriesOk s ∧ s.startingUp = false) :
    Kept ser war cab s (s.acquireNow p) :=
  Kept.trans (Kept.ite (.refl s) (kept_requestStart s hs)) (kept_reply _ p _)

theorem kept_readObs (s : State) (p : Port) (n : Nat) : Kept ser war cab s (s.readObs p n) :=
  Kept.ite (kept_reply s p _) (kept_answer s p _ _)

theorem kept_setTime (s : State) (p : Port) (time : Nat) (hs : ser → SeriesOk s) : Kept ser war cab s (s.setTime p time) := by
  unfold State.setTime
  split
  · exact kept_answer s p _ _
  · rename_i hfloor
    have h1 : Kept ser war cab s { s with clock := { s.clock with time := time, quality := .set, phase := s.elapsed } } :=
      Kept.of_clock (n := s.elapsed) rfl (.inl (Nat.le_of_not_lt hfloor))
    have h2 := h1.trans (kept_defer _ p false true false .empty)
    exact kept_release_after ((h2.trans (kept_hand _ _ _))) hs

theorem kept_enterHold (s : State) (p : Port) : Kept ser war cab s (s.enterHold p) := by
  unfold State.enterHold
  split
  · refine Kept.ite (Kept.lau_then (kept_reply _ p _) rfl id rfl rfl) ?_
    exact (kept_defer s p _ _ _ _).trans (kept_enterHeld _ _ _)
  · exact kept_reply s p _
  · exact Kept.lau_then (kept_reply _ p _) rfl id rfl rfl

theorem kept_leaveHold (s : State) (p : Port) : Kept ser war cab s (s.leaveHold p) := by
  unfold State.leaveHold
  split
  · exact kept_reply s p _
  · exact Kept.lau_then (kept_reply _ p _) rfl id rfl rfl
  · exact (kept_defer s p _ _ _ _).trans (kept_leaveHeld _ _ _)

theorem kept_manualReading (s : State) (p : Port) (stage : Int) (hs : ser → SeriesOk s ∧ s.startingUp = false) :
    Kept ser war cab s (s.manualReading p stage) := by
  have h1 : Kept ser war cab s
      (s.withLau { s.lau with hold := { s.lau.hold with manual := some stage, count := heldCount s.lau.hold.count } }) :=
    .of_lau_settings rfl id rfl rfl
  refine Kept.ite (kept_reply s p _) (Kept.ite (kept_reply s p _) ?_)
  exact (h1.trans (kept_requestStart _ fun c => ⟨h1.series c (hs c).1, (hs c).2⟩)).trans (kept_reply _ p _)

theorem kept_setThreshold (s : State) (p : Port) (f : ThresholdFields) (hs : ser → SeriesOk s ∧ s.startingUp = false) :
    Kept ser war cab s (s.setThreshold p f) := by
  unfold State.setThreshold
  split
  · exact kept_reply s p _
  · rename_i n t hn
    refine Kept.ite (kept_reply s p _) ?_
    simp only
    generalize hs1 : (({ s with warning := s.warning.setThreshold n t } : State).defer p true
        (decide ((s.warning.setThreshold n t).formed ≠ (s.warning.setThreshold n t).level)) true .empty).write p
        (.threshold n t) = s1
    have hw : s1.warning = s.warning.setThreshold n t := by rw [← hs1]; rfl
    have h1 : Kept ser False cab s s1 := by
      rw [← hs1]
      exact Kept.trans (Kept.trans (Kept.of_warning fun h => h.elim) (kept_defer _ p _ _ _ _))
        (kept_write _ p (.threshold n t) fun _ l hl => by cases hl)
    have h2 : Kept ser war cab s
        (s1.changeLevel (s.warning.setThreshold n t).formed (.setThreshold (n.val + 1) p) (s1.ownerOf p)) := by
      refine (h1.trans (kept_changeLevel_blocks _ _ _ _)).withWarningOk fun _ i => ?_
      obtain ⟨-, hr, -⟩ := id i
      rw [← hw]
      exact WarningBase.changeLevel (s := s1) (by rw [hw]; exact ⟨i.base.owed, i.base.above, i.base.first, i.base.silent⟩)
        (by rw [hw]; exact hr) _ _
    exact h2.trans (kept_recheck _ _ fun c => ⟨h2.series c (hs c).1, h2.startingUp.trans (hs c).2⟩)

/-! ### Reads (R168, R170, R198) -/

theorem kept_readSettings (s : State) (p : Port) (f : ReadSettingsFields) : Kept ser war cab s (s.readSettings p f) := by
  unfold State.readSettings
  split
  · exact kept_reply s p _
  · exact kept_answer s p _ _

theorem kept_readArchive (s : State) (p : Port) (f : ReadArchiveFields) : Kept ser war cab s (s.readArchive p f) :=
  Kept.ite (kept_reply s p _) (Kept.ite (kept_reply s p _) (kept_answer s p _ _))

theorem kept_verifyArchive (s : State) (p : Port) (f : VerifyFields) : Kept ser war cab s (s.verifyArchive p f) := by
  unfold State.verifyArchive
  refine Kept.ite (kept_answer s p _ _) ?_
  have hset : ∀ v, Kept ser war cab s
      { s with archive := { s.archive with verifications := s.archive.verifications.set p (some v) } } := fun v =>
    Kept.of_archive (archiveOk_congr rfl rfl rfl rfl rfl)
  exact (hset _).trans (Kept.of_ports (Ports.kept_await _ p _))

end

end Sys2Proof.Machine
end

section
/-! SUPPORT. The ports, the start-up sequence and the commands: every command keeps the six invariants and the queue of commands. -/

namespace Sys2Proof.Machine

section
variable {ser war cab : Prop} {s : State}

/-! ### The ports (R178 to R185, R191) -/

/-- A change of Port T or F that leaves what it sends. -/
theorem kept_onAsync (s : State) (p : AsyncPort) (f : PortAsync → PortAsync) (h : ∀ a, (f a).sending = a.sending) :
    Kept ser war cab s (s.onAsync p f) := by
  refine .of_ports ?_
  cases p
  · exact .of_eq rfl (h _)
  · exact .of_eq rfl rfl

theorem PortAsync.immediate_sending (a : PortAsync) (code tag : Byte) (r : Result) :
    (a.immediate code tag r).sending = a.sending := by
  unfold PortAsync.immediate
  split <;> rfl

theorem kept_immediate (s : State) (p : AsyncPort) (code tag : Byte) (r : Result) :
    Kept ser war cab s (s.onAsync p (fun a => a.immediate code tag r)) :=
  kept_onAsync s p _ fun a => a.immediate_sending code tag r

theorem kept_received (s : State) (p : AsyncPort) : Kept ser war cab s (s.received p) := by
  have h1 : Kept ser war cab s (s.onAsync p PortAsync.idle) := kept_onAsync s p _ fun _ => rfl
  cases p with
  | T => exact h1.trans (kept_restartSilence _)
  | F => exact h1

theorem kept_occupy (s : State) (p : Port) (code tag : Byte) : Kept ser war cab s (s.occupy p code tag) := by
  refine .of_ports ?_
  cases p <;> exact .of_eq rfl rfl

/-- A permitted request of well-defined fields, at its owner. -/
theorem kept_toOwner (s : State) (p : Port) (r : Request) (hp : permitted p r = true)
    (hs : ser → SeriesOk s ∧ s.startingUp = false) : Kept ser war cab s (s.toOwner p r) := by
  cases r
  case abortRun => exact kept_withoutFields s p _ _ (kept_abortRun s p)
  case acceptShift => exact kept_withFields s p _ _ (kept_acceptShift s p)
  case ackLevel => exact kept_withFields s p _ _ (kept_ackLevel s p)
  case acquireNow => exact kept_withoutFields s p _ _ (kept_acquireNow s p hs)
  case claimCableway => exact kept_withoutFields s p _ _ (kept_claimCableway s p (by simpa [permitted] using hp))
  case clearFault => exact kept_withoutFields s p _ _ (kept_clearFault s p)
  case commitRating => exact kept_commitRating s p _
  case deleteRating => exact kept_withFields s p _ _ (kept_deleteRating s p)
  case deleteShift => exact kept_withFields s p _ _ (kept_deleteShift s p)
  case enterHold => exact kept_withoutFields s p _ _ (kept_enterHold s p)
  case fixDatum => exact kept_withoutFields s p _ _ (kept_fixDatum s p)
  case forceClaim =>
    have hF : p = .F := by simpa [permitted] using hp
    subst hF
    exact kept_withoutFields s .F _ _ (kept_forceClaim s)
  case freezeRating => exact kept_withoutFields s p _ _ (kept_freezeRating s p)
  case holdAlive => exact kept_withoutFields s p _ _ (kept_holdAlive s p)
  case leaveHold => exact kept_withoutFields s p _ _ (kept_leaveHold s p)
  case loadPlan => exact kept_loadPlan s p _
  case manualReading => exact kept_withFields s p _ _ fun a => kept_manualReading s p a hs
  case readArchive => exact kept_withFields s p _ _ (kept_readArchive s p)
  case readDescriptor => exact kept_withoutFields s p _ _ (kept_answer s p _ _)
  case readGauging => exact kept_withFields s p _ _ (kept_readGauging s p)
  case readObs => exact kept_withFields s p _ _ (kept_readObs s p)
  case readSettings => exact kept_withFields s p _ _ (kept_readSettings s p)
  case rejectShift => exact kept_withFields s p _ _ (kept_rejectShift s p)
  case releaseCableway => exact kept_withoutFields s p _ _ (kept_releaseCableway s p)
  case resume => exact kept_withoutFields s p _ _ (kept_resumeRun s p)
  case setAcquisition => exact kept_withFields s p _ _ fun a => kept_setAcquisition s p a hs
  case setCableway => exact kept_withFields s p _ _ (kept_setCableway s p)
  case setChannel => exact kept_withFields s p _ _ (kept_setChannel s p)
  case setHoldLimit => exact kept_withFields s p _ _ (kept_setHoldLimit s p)
  case setShift => exact kept_setShift s p _
  case setThreshold => exact kept_withFields s p _ _ fun a => kept_setThreshold s p a hs
  case setTime => exact kept_withFields s p _ _ fun a => kept_setTime s p a fun c => (hs c).1
  case setWarningTimers => exact kept_withFields s p _ _ (kept_setWarningTimers s p)
  case startRun => exact kept_withoutFields s p _ _ (kept_startRun s p)
  case status => exact kept_withoutFields s p _ _ (kept_answer s p _ _)
  case verifyArchive => exact kept_withFields s p _ _ (kept_verifyArchive s p)
  case writeDatum => exact kept_withFields s p _ _ (kept_writeDatum s p)

theorem kept_take (s : State) (p : Port) (a : Arrival) (hs : ser → SeriesOk s ∧ s.startingUp = false) :
    Kept ser war cab s (s.take p a) := by
  have h1 : Kept ser war cab s (s.occupy p a.code a.tag) := kept_occupy s p _ _
  cases a with
  | unknown code tag => exact h1.trans (kept_reply _ p _)
  | request tag r =>
    unfold State.take
    simp only
    split
    · rename_i hp
      exact h1.trans (kept_toOwner _ p r hp fun c => ⟨h1.series c (hs c).1, (hs c).2⟩)
    · exact h1.trans (kept_reply _ p _)

theorem kept_arrive (s : State) (p : AsyncPort) (a : Arrival) (hs : ser → SeriesOk s) : Kept ser war cab s (s.arrive p a) := by
  have h1 : Kept ser war cab s (s.received p) := kept_received s p
  unfold State.arrive
  split
  · rename_i hh
    have hu : s.startingUp = false := by
      simp only [State.hears, Bool.and_eq_true, Bool.not_eq_true'] at hh
      exact hh.1
    exact Kept.ite (h1.trans (kept_take _ _ a fun c => ⟨h1.series c (hs c), h1.startingUp.trans hu⟩))
      (h1.trans (kept_immediate _ p _ _ _))
  · exact .refl s

theorem kept_lineBreak (s : State) (p : AsyncPort) : Kept ser war cab s (s.lineBreak p) :=
  Kept.ite (.refl s) (kept_onAsync s p _ fun _ => rfl)

theorem kept_longGap (s : State) (p : AsyncPort) : Kept ser war cab s (s.longGap p) := kept_onAsync s p _ fun _ => rfl

theorem kept_frameError (s : State) (p : AsyncPort) (l : List Character) (hs : ser → SeriesOk s) :
    Kept ser war cab s (s.frameError p l) := by
  unfold State.frameError
  split
  · simp only
    split
    · exact kept_onAsync s p _ fun _ => rfl
    · exact kept_onAsync s p _ fun a => a.idle.immediate_sending 0 0 _
    · exact kept_arrive s p _ hs
    · exact kept_arrive s p _ hs
  · exact .refl s

theorem kept_busy (s : State) (p : AsyncPort) (code tag : Byte) : Kept ser war cab s (s.busy p code tag) :=
  Kept.ite ((kept_received s p).trans (kept_immediate _ p code tag _)) (.refl s)

/-- A line that becomes free leaves the queue's bounds where no notice is in transmission. -/
theorem kept_responseSent (s : State) (p : AsyncPort) : Kept ser war cab s (s.responseSent p) := by
  unfold State.responseSent
  split
  · rename_i r hr
    cases p with
    | F => exact Kept.of_ports (.of_eq rfl rfl)
    | T =>
      refine ⟨rfl, rfl, id, fun i => ⟨i.1, i.2.1, i.2.2.1, fun hc => ?_⟩, id, fun _ => id, fun _ => id, fun _ => id⟩
      obtain ⟨n, hn⟩ := i.2.2.2 hc
      rw [show s.ports.t.sending = some (.response r) from hr] at hn
      cases hn
  · exact .refl s

theorem dropSent_spec (l : List Notice) :
    (dropSent l).length ≤ l.length ∧ countNotices Notice.isLevel (dropSent l) ≤ countNotices Notice.isLevel l ∧
      (countNotices (·.inTransmission) l ≤ 1 → countNotices (·.inTransmission) (dropSent l) = 0) := by
  induction l with
  | nil => exact ⟨Nat.le_refl _, Nat.le_refl _, fun _ => rfl⟩
  | cons n l ih =>
    obtain ⟨hlen, hlev, htr⟩ := ih
    unfold dropSent
    split
    · rename_i hn
      refine ⟨Nat.le_succ _, ?_, fun h => ?_⟩ <;> rw [countNotices_cons] at *
      · omega
      · rw [if_pos hn] at h; omega
    · rename_i hn
      refine ⟨Nat.succ_le_succ hlen, ?_, fun h => ?_⟩ <;> rw [countNotices_cons] at *
      · rw [countNotices_cons]; omega
      · rw [if_neg hn] at *; exact (Nat.zero_add _).trans (htr (by omega))

theorem kept_packetComplete (s : State) : Kept ser war cab s s.packetComplete := by
  unfold State.packetComplete
  split
  · refine ⟨rfl, rfl, id, fun i => ?_, id, fun _ => id, fun _ => id, fun _ => id⟩
    obtain ⟨hlen, hlev, htr, -⟩ := i
    obtain ⟨h1, h2, h3⟩ := dropSent_spec s.notices.held
    have h0 := h3 htr
    exact ⟨h1.trans hlen, h2.trans hlev, by dsimp only; omega, fun hc => by dsimp only at hc; omega⟩
  · exact .refl s

/-- A frame of Port L ends, or begins after the start-up sequence. -/
theorem Kept.of_portL {l : PortL} (h : ser → s.startingUp = true → l.frame = none) :
    Kept ser war cab s { s with ports := { s.ports with l := l } } :=
  ⟨rfl, rfl, id, id, id, fun c i => ⟨i.1, i.2.1, i.2.2.1, fun hu =>
    ⟨(i.2.2.2 hu).1, (i.2.2.2 hu).2.1, (i.2.2.2 hu).2.2.1, (i.2.2.2 hu).2.2.2.1, h c hu⟩⟩, fun _ => id, fun _ => id⟩

theorem kept_frameBegin (s : State) : Kept ser war cab s s.frameBegin := by
  unfold State.frameBegin
  simp only
  split
  · exact .refl s
  · rename_i h
    refine Kept.of_portL fun _ hu => ?_
    simp [hu] at h

theorem kept_judgeInbound (s : State) (i : Inbound) (hs : ser → SeriesOk s ∧ s.startingUp = false) :
    Kept ser war cab s (s.judgeInbound i) := by
  have hmark : ∀ l : PortL, Kept ser war cab s { s with ports := { s.ports with l := l } } := fun l =>
    Kept.of_portL fun c hu => by rw [(hs c).2] at hu; cases hu
  cases i with
  | empty => exact .refl s
  | faulty => exact Kept.ite (hmark _) (hmark _)
  | unknown code tag => exact Kept.ite (hmark _) (kept_take s .L _ hs)
  | request tag r => exact Kept.ite (hmark _) (kept_take s .L _ hs)

theorem kept_frameEnd (s : State) (i : Inbound) (hs : ser → SeriesOk s) : Kept ser war cab s (s.frameEnd i) := by
  unfold State.frameEnd
  split
  · exact .refl s
  · rename_i r hr
    have h1 : Kept ser war cab s { s with ports := { s.ports with l := s.ports.l.sent r.response } } :=
      Kept.of_portL fun _ _ => PortL.sent_frame _ _
    exact h1.trans (kept_judgeInbound _ i fun c => ⟨h1.series c (hs c), (hs c).running (by simp [hr])⟩)

theorem kept_receive (s : State) (p : Port) (a : Arrival) (hs : ser → SeriesOk s) : Kept ser war cab s (s.receive p a) := by
  cases p with
  | L => exact kept_frameEnd s _ hs
  | T => exact kept_arrive s .T a hs
  | F => exact kept_arrive s .F a hs

/-! ### The settings store's events (R194) -/

theorem Medium.put_shifts (m : Medium) (d : WriteData) (ok : Bool) :
    (m.put d ok).shifts = m.shifts ∨ ∃ l, d = .shifts l ∧ (m.put d ok).shifts = ⟨l, ok⟩ := by
  cases d
  case shifts l => exact .inr ⟨l, rfl, rfl⟩
  all_goals exact .inl rfl

/-- A write that ends puts a table in order at the table's place, if any. -/
theorem Medium.put_ok {m : Medium} {d : WriteData} (ok : Bool) (h : m.shifts.ok = true → tableOk m.shifts.value)
    (hd : ∀ l, d = .shifts l → tableOk l) : (m.put d ok).shifts.ok = true → tableOk (m.put d ok).shifts.value := by
  rcases m.put_shifts d ok with he | ⟨l, hl, he⟩ <;> rw [he]
  · exact h
  · exact fun _ => hd l hl

theorem Kept.of_store {st : Store} {ps : Ports} (hp : s.ports.Kept ps) (h : ShiftsOk s → ShiftsOk { s with store := st }) :
    Kept ser war cab s { s with store := st, ports := ps } :=
  Kept.trans (t := { s with store := st }) ⟨rfl, rfl, h, id, id, fun _ => id, fun _ => id, fun _ => id⟩ (Kept.of_ports hp)

theorem kept_writeComplete (s : State) : Kept ser war cab s s.writeComplete := by
  unfold State.writeComplete
  split
  · exact .refl s
  · rename_i w rest hq
    refine Kept.of_store (Ports.kept_report _ _ _ _) fun i => ?_
    obtain ⟨h1, h2, h3⟩ := i
    rw [hq] at h3
    exact ⟨h1, Medium.put_ok true h2 (h3 w List.mem_cons_self), fun v hv => h3 v (List.mem_cons_of_mem _ hv)⟩

theorem kept_readBackFailed (s : State) : Kept ser war cab s s.readBackFailed := by
  unfold State.readBackFailed
  split
  · exact .refl s
  · rename_i w rest hq
    split
    · refine Kept.of_store (.refl _) fun i => ?_
      obtain ⟨h1, h2, h3⟩ := i
      rw [hq] at h3
      refine ⟨h1, h2, fun v hv => ?_⟩
      rcases List.mem_cons.1 hv with rfl | hv
      · exact h3 w List.mem_cons_self
      · exact h3 v (List.mem_cons_of_mem _ hv)
    · refine Kept.of_store (Ports.kept_report _ _ _ _) fun i => ?_
      obtain ⟨h1, h2, h3⟩ := i
      rw [hq] at h3
      exact ⟨h1, Medium.put_ok false h2 (h3 w List.mem_cons_self), fun v hv => h3 v (List.mem_cons_of_mem _ hv)⟩

theorem kept_verifyChecked (s : State) (p : Port) : Kept ser war cab s { s with archive := s.archive.verifyChecked p } := by
  refine Kept.of_archive fun h => ?_
  unfold Archive.verifyChecked
  split
  · exact h
  · simp only
    split
    · split
      · exact archiveOk_congr rfl rfl rfl rfl rfl h
      · exact h
    · exact h

end

/-! ### What a reset finds (R172 to R174, R194) -/

theorem Medium.damage_shifts (m : Medium) (i : ItemId) :
    (m.damage i).shifts = m.shifts ∨ (m.damage i).shifts = { m.shifts with ok := false } := by
  cases i
  case shifts => exact .inr rfl
  all_goals exact .inl rfl

theorem Medium.damage_ok {m : Medium} (l : List ItemId) (h : m.shifts.ok = true → tableOk m.shifts.value) :
    (l.foldl Medium.damage m).shifts.ok = true → tableOk (l.foldl Medium.damage m).shifts.value := by
  induction l generalizing m with
  | nil => exact h
  | cons i l ih =>
    refine ih ?_
    rcases m.damage_shifts i with he | he <;> rw [he]
    · exact h
    · exact fun hf => absurd hf (by simp)

theorem cutWrite_ok {m : Medium} {q : List PendingWrite} (left : Remnant) (h : m.shifts.ok = true → tableOk m.shifts.value)
    (hq : ∀ w ∈ q, ∀ l, w.data = .shifts l → tableOk l) :
    (cutWrite m left q).shifts.ok = true → tableOk (cutWrite m left q).shifts.value := by
  unfold cutWrite
  split
  · exact h
  · split
    · exact h
    · exact Medium.put_ok true h (hq _ List.mem_cons_self)
    · exact Medium.put_ok false h (hq _ List.mem_cons_self)

theorem tableOk_nil : tableOk [] := ⟨Nat.zero_le _, rfl⟩

theorem Medium.rating_shifts {m : Medium} (h : m.shifts.ok = true → tableOk m.shifts.value) : tableOk m.rating.shifts := by
  show tableOk (m.shifts.restore [])
  unfold Item.restore
  split
  · rename_i hok
    exact h hok
  · exact tableOk_nil

theorem pagesWf_cut {a : Archive} (left : Remnant) (h : archiveOk a) : pagesWf (a.cut left) = true := by
  obtain ⟨hwf, hop, -⟩ := h
  have hset : ∀ n p, a.op.page = some n → pagesWf (Machine.setPage a.pages n p) = true := fun n p hn =>
    pagesWf_setPage n p (hop n hn) hwf
  unfold Archive.cut
  split
  · exact hwf
  · rename_i n hn
    split
    · exact hset n _ (by rw [hn]; rfl)
    · exact hset n _ (by rw [hn]; rfl)
    · exact hwf
  · rename_i n e hn
    exact hset n _ (by rw [hn]; rfl)
  · rename_i n hn
    split
    · exact hset n _ (by rw [hn]; rfl)
    · exact hwf
  · rename_i n hn
    split
    · exact hset n _ (by rw [hn]; rfl)
    · exact hwf
  · rename_i n hn
    exact hset n _ (by rw [hn]; rfl)

theorem Page.damageRecords_blank (p : Page) (l : List Nat) : p.damageRecords l = Page.blank ↔ p = Page.blank := by
  cases p
  simp [Page.damageRecords, Page.blank]

theorem Page.damageHeader_blank (p : Page) : p.damageHeader = Page.blank ↔ p = Page.blank := by
  cases p
  simp [Page.damageHeader, Page.blank]

theorem pagesFrom_damage (headers records : List Nat) {l : List (Nat × Page)} :
    ∀ {b : Nat}, pagesFrom b l → pagesFrom b (damagePages headers records l) := by
  induction l with
  | nil => exact fun h => h
  | cons e l ih =>
    obtain ⟨k, p⟩ := e
    intro b ⟨h1, h2, h3, h4⟩
    refine ⟨h1, h2, ?_, ih h4⟩
    split
    · rwa [ne_eq, Page.damageHeader_blank, Page.damageRecords_blank]
    · rwa [ne_eq, Page.damageRecords_blank]

theorem pagesFrom_judge (newest again : Option Nat) {l : List (Nat × Page)} :
    ∀ {b : Nat}, pagesFrom b l → pagesFrom b (judgePages newest again l) := by
  induction l with
  | nil => exact fun h => h
  | cons e l ih =>
    obtain ⟨k, p⟩ := e
    intro b ⟨h1, h2, h3, h4⟩
    unfold judgePages
    split
    · exact pagesFrom_weaken (h1.trans (Nat.le_succ k)) (ih h4)
    · rename_i h hh
      refine ⟨h1, h2, fun hb => ?_, ih h4⟩
      have := congrArg Page.header hb
      rw [show (Page.header _) = p.header from rfl, hh] at this
      cases this

theorem newestPage_mem {l : List (Nat × Page)} {e : Nat × Page} (h : newestPage l = some e) : e ∈ l := by
  induction l with
  | nil => cases h
  | cons f l ih =>
    unfold newestPage at h
    split at h
    · split at h
      · cases h; exact List.mem_cons_self
      · cases h
    · rename_i m hm
      split at h
      · cases h; exact List.mem_cons_self
      · cases h; exact List.mem_cons_of_mem _ (ih hm)

theorem eraseCutOff_lt {l : List (Nat × Page)} {n k : Nat} (h : eraseCutOff l n = some k) : k < pageCount := by
  unfold eraseCutOff at h
  simp only [Option.bind_eq_some_iff] at h
  obtain ⟨j, hj, hk⟩ := h
  obtain ⟨i, -, rfl⟩ := List.mem_map.1 (List.mem_of_find?_eq_some hj)
  split at hk
  · cases hk
  · split at hk
    · cases hk
    · cases hk
      exact Nat.mod_lt _ (by decide)

theorem lowestErased_lt {l : List (Nat × Page)} {k : Nat} (h : lowestErased l = some k) : k < pageCount :=
  List.mem_range.1 (List.mem_of_find?_eq_some h)

theorem firstOperation_lt {l : List (Nat × Page)} {newest : Option (Nat × Page)} {again : Option Nat}
    (hn : ∀ e, newest = some e → e.1 < pageCount) (ha : ∀ k, again = some k → k < pageCount) :
    ∀ k, (firstOperation l newest again).page = some k → k < pageCount := by
  intro k hk
  unfold firstOperation at hk
  split at hk
  · split at hk
    · rename_i j hj
      cases hk
      exact lowestErased_lt hj
    · cases hk
  · rename_i n p
    have hn := hn (n, p) rfl
    simp only at hk
    split at hk
    · split at hk <;> cases hk <;> exact hn
    · split at hk
      · cases hk; exact hn
      · split at hk
        · cases hk; exact ha _ rfl
        · cases hk

/-- What the scan finds on pages of the archive is in form. -/
theorem archiveOk_scan {found : List (Nat × Page)} (h : pagesWf found = true) : archiveOk (scan found).archive := by
  have hfrom := (pagesWf_iff found).1 h
  refine ⟨(pagesWf_iff _).2 (pagesFrom_judge _ _ hfrom), by simp [scan, ArchiveOp.page], ?_, Nat.zero_le _, Nat.zero_le _⟩
  refine firstOperation_lt (fun e he => lt_of_mem_pages hfrom e (newestPage_mem he)) fun k hk => ?_
  obtain ⟨e, -, hk⟩ := Option.bind_eq_some_iff.1 hk
  exact eraseCutOff_lt hk

/-! ### The resets and the end of the start-up sequence (R196) -/

/-- The six invariants and the queue of commands, from the state before a command to the state after it. -/
structure StepKeeps (s t : State) : Prop where
  pending : t.pending = s.pending
  series : SeriesOk s → SeriesOk t
  warning : WarningOk s → WarningOk t
  cable : CablewayOk s → CablewayOk t
  notices : NoticesOk s → NoticesOk t
  archive : ArchiveOk s → ArchiveOk t
  shifts : ShiftsOk s → ShiftsOk t

theorem StepKeeps.trans {s t u : State} (h : StepKeeps s t) (k : StepKeeps t u) : StepKeeps s u :=
  ⟨k.pending.trans h.pending, fun i => k.series (h.series i), fun i => k.warning (h.warning i), fun i => k.cable (h.cable i),
    fun i => k.notices (h.notices i), fun i => k.archive (h.archive i), fun i => k.shifts (h.shifts i)⟩

/-- An operation that keeps the invariants, that of the stage series where it holds. -/
theorem Kept.stepKeeps {s t : State} (h : Kept (SeriesOk s) True True s t) : StepKeeps s t :=
  ⟨h.pending, fun i => h.series i i, h.warning trivial, h.cable trivial, h.notices, h.archive, h.shifts⟩

theorem Warning.relay_quiet {w : Warning} (ho : w.owed = false) (hs : w.silent = false) : w.relayRequired = false := by
  simp [Warning.relayRequired, ho, hs]

theorem stepKeeps_resetWith (s : State) (r : ResetInputs) (clock : Scan → Clock) : StepKeeps s (s.resetWith r clock) := by
  unfold State.resetWith
  simp only
  generalize hm : r.damagedItems.foldl Medium.damage (cutWrite s.store.medium r.settingsWrite s.store.queue) = m
  generalize hx : scan (damagePages r.damagedHeaders r.damagedRecords (s.archive.cut r.archiveOp)) = x
  have hreset : StepKeeps s
      { elapsed := 0
        startingUp := true
        clock := clock x
        lau := m.lau x.observation
        rating := m.rating
        warning := m.warningUnit
        cable := m.cablewayUnit s.cable.lines
        gauging := Gauging.reset x.gauging
        notices := { held := [], overflowed := false }
        archive := x.archive
        store := { medium := m, queue := [], defaulted := m.failing }
        ports := { l := PortL.reset, t := PortAsync.reset, f := PortAsync.reset, nextId := 0 }
        pending := s.pending } := by
    refine ⟨rfl, fun _ => ⟨Nat.zero_le _, rfl, (fun o ho => nomatch ho), fun _ => ⟨rfl, rfl, rfl, rfl, rfl⟩⟩, fun _ => ?_,
      fun _ => ?_, fun _ => ⟨Nat.zero_le _, Nat.zero_le _, Nat.zero_le _, fun h => by cases h⟩, fun i => ?_, fun i => ?_⟩
    · exact ⟨(Warning.formed_of_inactive (w := m.warningUnit) fun n => by fin_cases n <;> rfl).symm,
        (Warning.relay_quiet rfl rfl).symm, by simp [Medium.warningUnit], by simp [Medium.warningUnit], rfl,
        by simp [Medium.warningUnit]⟩
    · simp [CablewayOk, Medium.cablewayUnit, Gauging.reset, RunState.running, RunState.measuring, RunState.held, RunState.drives]
    · show archiveOk x.archive
      rw [← hx]
      exact archiveOk_scan ((pagesWf_iff _).2 (pagesFrom_damage _ _ ((pagesWf_iff _).1 (pagesWf_cut _ i))))
    · have hok : m.shifts.ok = true → tableOk m.shifts.value := by
        rw [← hm]
        exact Medium.damage_ok _ (cutWrite_ok _ i.2.1 i.2.2)
      exact ⟨Medium.rating_shifts hok, hok, fun w hw => by cases hw⟩
  split
  · exact hreset.trans (kept_enterHeld _ _ _).stepKeeps
  · exact hreset

theorem archiveOk_beginFirst {a : Archive} (e : Int) (h : archiveOk a) : archiveOk (a.beginFirst e) := by
  obtain ⟨hwf, hop, hfirst, hq, hw⟩ := h
  have hb : archiveOk { a with firstOp := .nothing } := ⟨hwf, hop, by simp [FirstOp.page], hq, hw⟩
  have hpage : ∀ n, a.firstOp.page = some n → ∀ op : ArchiveOp, op.page = some n →
      archiveOk { a with firstOp := .nothing, op := op } := fun n hn op ho =>
    archiveOk_op op (fun m hm => by rw [ho] at hm; cases hm; exact hfirst n hn) hb
  unfold Archive.beginFirst
  split
  · exact hb
  · split
    · exact archiveOk_begin hb
    · exact archiveOk_takeNext _ _ hb
    · rename_i n hn
      exact hpage n (by rw [hn]; rfl) _ rfl
    · rename_i n hn
      exact hpage n (by rw [hn]; rfl) _ rfl
    · rename_i n hn
      exact hpage n (by rw [hn]; rfl) _ rfl

theorem stepKeeps_startUpEnd (s : State) : StepKeeps s s.startUpEnd := by
  unfold State.startUpEnd
  split
  · rename_i hu
    have hstart : Kept (SeriesOk s) True True
        { s with startingUp := false, archive := s.archive.beginFirst s.rating.elevation }
        ({ s with startingUp := false, archive := s.archive.beginFirst s.rating.elevation } : State).startAcquisition := by
      refine kept_startAcquisition _ fun i => ⟨rfl, ?_⟩
      simp [State.laterSecond, (i.2.2.2 hu).1]
    have hopen : SeriesOk s → SeriesOk { s with startingUp := false, archive := s.archive.beginFirst s.rating.elevation } :=
      fun i => ⟨i.1, i.2.1, i.2.2.1, fun h => by cases h⟩
    exact ⟨hstart.pending, fun i => hstart.series i (hopen i), hstart.warning trivial, hstart.cable trivial, hstart.notices,
      fun i => hstart.archive (archiveOk_beginFirst _ i), hstart.shifts⟩
  · exact (Kept.refl s).stepKeeps

/-! ### The commands -/

theorem kept_request (i : Instr) (s : State) (p : Port) (tag : Byte) (r : Request) :
    StepKeeps s ((s.sampled i).request p tag r).settle := by
  have h1 : Kept (SeriesOk s) True True s (s.sampled i) := by
    unfold State.sampled
    split
    · exact .refl s
    · exact kept_sample s _
  exact ((h1.trans (kept_receive _ p _ fun c => h1.series c c)).trans (kept_settle _)).stepKeeps

/-- An operation at the moment of its encoder lines, at the end of its command. -/
theorem stepKeeps_at (s : State) (x : Encoders) (f : State → State)
    (h : (SeriesOk s → SeriesOk (s.sample x)) → Kept (SeriesOk s) True True (s.sample x) (f (s.sample x))) :
    StepKeeps s (f (s.sample x)).settle :=
  (((kept_sample s x).trans (h fun i => i)).trans (kept_settle _)).stepKeeps

theorem stepKeeps_op {s t : State} (h : Kept (SeriesOk s) True True s t) : StepKeeps s t.settle :=
  (h.trans (kept_settle _)).stepKeeps

/-- Every command answers a next state, and keeps the six invariants and the queue of commands. -/
theorem exec_keeps (i : Instr) (s : State) : ∃ t, exec i s = .next t ∧ StepKeeps s t := by
  cases hsent : i.sent with
  | some x =>
    obtain ⟨p, tag, r⟩ := x
    exact ⟨_, exec_sent i p tag r s hsent, kept_request i s p tag r⟩
  | none =>
    cases i
    case codeNamesNoRequest p code tag => exact ⟨_, rfl, stepKeeps_op (kept_receive s p _ id)⟩
    case powerOn r => exact ⟨_, rfl, (stepKeeps_resetWith s r _).trans (kept_settle _).stepKeeps⟩
    case pinReset r => exact ⟨_, rfl, (stepKeeps_resetWith s r _).trans (kept_settle _).stepKeeps⟩
    case duePointReached x => exact ⟨_, rfl, stepKeeps_at s x _ fun h => kept_dueReached _ h⟩
    case warmUpExpiry r x => exact ⟨_, rfl, stepKeeps_at s x (·.warmUpExpiry r) fun h => kept_warmUpExpiry _ r h⟩
    case burstReading r x => exact ⟨_, rfl, stepKeeps_at s x (·.burstReading r) fun h => kept_burstReading _ r h⟩
    case stationSecond x => exact ⟨_, rfl, stepKeeps_at s x _ fun h => kept_stationSecond _ h⟩
    case holdTimerExpiry => exact ⟨_, rfl, stepKeeps_op (kept_holdExpiry s)⟩
    case deadlineExpiry => exact ⟨_, rfl, stepKeeps_op (kept_deadlineExpiry s)⟩
    case silenceTimerExpiry => exact ⟨_, rfl, stepKeeps_op (kept_silenceExpiry s)⟩
    case traverseArrival x => exact ⟨_, rfl, stepKeeps_at s x _ fun _ => kept_traverseArrival _⟩
    case reelArrival x => exact ⟨_, rfl, stepKeeps_at s x _ fun _ => kept_reelArrival _⟩
    case surfaceContact x => exact ⟨_, rfl, stepKeeps_at s x _ fun _ => kept_surfaceContact _⟩
    case bottomContact x => exact ⟨_, rfl, stepKeeps_at s x _ fun _ => kept_bottomContact _⟩
    case reelDepthReaches25000 x => exact ⟨_, rfl, stepKeeps_at s x _ fun _ => kept_reelLimit _⟩
    case meterPulse => exact ⟨_, rfl, stepKeeps_op (kept_meterPulse s)⟩
    case exposureTimerExpiry x => exact ⟨_, rfl, stepKeeps_at s x _ fun _ => kept_exposureExpiry _⟩
    case motionTimerExpiry x => exact ⟨_, rfl, stepKeeps_at s x _ fun _ => kept_motionExpiry _⟩
    case overload x => exact ⟨_, rfl, stepKeeps_at s x _ fun _ => kept_overloaded _⟩
    case deadManWindowExpiry x => exact ⟨_, rfl, stepKeeps_at s x _ fun _ => kept_windowExpiry _⟩
    case pauseTimerExpiry x => exact ⟨_, rfl, stepKeeps_at s x _ fun _ => kept_pauseExpiry _⟩
    case recordProgrammed => exact ⟨_, rfl, stepKeeps_op (.of_wake s.wake.kept_recordProgrammed)⟩
    case eraseComplete => exact ⟨_, rfl, stepKeeps_op (.of_wake s.wake.kept_eraseComplete)⟩
    case programFailure left => exact ⟨_, rfl, stepKeeps_op (.of_wake (s.wake.kept_programFailure left))⟩
    case eraseFailure left => exact ⟨_, rfl, stepKeeps_op (.of_wake (s.wake.kept_eraseFailure left))⟩
    case verificationEnd p => exact ⟨_, rfl, stepKeeps_op (.of_wake (s.wake.kept_verificationEnd p))⟩
    case settingsWriteComplete => exact ⟨_, rfl, stepKeeps_op (kept_writeComplete s)⟩
    case readBackFailed => exact ⟨_, rfl, stepKeeps_op (kept_readBackFailed s)⟩
    case frameBegin => exact ⟨_, rfl, stepKeeps_op (kept_frameBegin s)⟩
    case frameEnd l x => exact ⟨_, rfl, stepKeeps_at s x (·.frameEnd (Inbound.judge l)) fun h => kept_frameEnd _ _ h⟩
    case lineBreak p => exact ⟨_, rfl, stepKeeps_op (kept_lineBreak s p)⟩
    case longGap p => exact ⟨_, rfl, stepKeeps_op (kept_longGap s p)⟩
    case frameError l =>
      exact ⟨_, rfl, stepKeeps_at s l.lines (·.frameError l.port l.characters) fun h => kept_frameError _ _ _ h⟩
    case busy p code tag => exact ⟨_, rfl, stepKeeps_op (kept_busy s p code tag)⟩
    case responseSent p => exact ⟨_, rfl, stepKeeps_op (kept_responseSent s p)⟩
    case noticePacketComplete => exact ⟨_, rfl, stepKeeps_op (kept_packetComplete s)⟩
    case startUpSequenceEnd => exact ⟨_, rfl, (stepKeeps_startUpEnd s).trans (kept_settle _).stepKeeps⟩
    case pageHeaderProgrammed => exact ⟨_, rfl, stepKeeps_op (.of_wake s.wake.kept_pageHeaderProgrammed)⟩
    case verifyRecordChecked p => exact ⟨_, rfl, stepKeeps_op (kept_verifyChecked s p)⟩
    all_goals simp [Instr.sent] at hsent

/-- A step on an empty queue is a tick, which no invariant reads; any other is its front command. -/
theorem step_keeps (s t : State) (h : step s = .next t) :
    (SeriesOk s → SeriesOk t) ∧ (WarningOk s → WarningOk t) ∧ (CablewayOk s → CablewayOk t) ∧ (NoticesOk s → NoticesOk t) ∧
      (ArchiveOk s → ArchiveOk t) ∧ (ShiftsOk s → ShiftsOk t) := by
  unfold step at h
  split at h
  · cases h
    exact ⟨id, id, id, id, id, id⟩
  · rename_i c rest _
    obtain ⟨u, hu, k⟩ := exec_keeps c { s with pending := rest }
    rw [hu] at h
    cases h
    exact ⟨k.series, k.warning, k.cable, k.notices, k.archive, k.shifts⟩

/-- Settles O6: an observation joins the series in a later second alone, and none while the start-up sequence runs. -/
theorem theStageSeriesStaysInOrder : Obligations.TheStageSeriesStaysInOrder := fun s t i h => (step_keeps s t h).1 i

/-- Settles O7: every change of level is to the level the records form, with the relay brought to its state. -/
theorem theWarningUnitStaysConsistent : Obligations.TheWarningUnitStaysConsistent := fun s t i h => (step_keeps s t h).2.1 i

/-- Settles O8: a run keeps its holder, its kind and its record from one of its states to the next, and its end leaves none. -/
theorem theCablewayKeepsItsLock : Obligations.TheCablewayKeepsItsLock := fun s t i h => (step_keeps s t h).2.2.1 i

/-- Settles O9: a full queue displaces or drops, and a line that becomes free marks one notice alone. -/
theorem theNoticeQueueKeepsItsBounds : Obligations.TheNoticeQueueKeepsItsBounds := fun s t i h => (step_keeps s t h).2.2.2.1 i

/-- Settles O10: every store is of a page of the archive, and a record joins a queue only within its bounds. -/
theorem theArchiveKeepsItsForm : Obligations.TheArchiveKeepsItsForm := fun s t i h => (step_keeps s t h).2.2.2.2.1 i

/-- Settles O11: an insertion and a removal keep the order, and a copy is of a table in order. -/
theorem theShiftTableStaysInOrder : Obligations.TheShiftTableStaysInOrder := fun s t i h => (step_keeps s t h).2.2.2.2.2 i

/-- Settles O3: by the meaning of each command. -/
theorem everyCommandAnswersNextAndKeepsTheQueue : Obligations.EveryCommandAnswersNextAndKeepsTheQueue := fun c s => by
  obtain ⟨t, ht, k⟩ := exec_keeps c s
  exact ⟨t, ht, k.pending⟩

/-- Settles O1. -/
theorem stepRunsTheFrontCommand : Obligations.StepRunsTheFrontCommand := fun _ _ _ => rfl

/-- Settles O2. -/
theorem stepOnAnEmptyQueueIsOneHundredth : Obligations.StepOnAnEmptyQueueIsOneHundredth := fun s h => by
  unfold step
  rw [h]

/-- Settles O12: nothing is in progress, no record is ACTIVE, and every queue is empty. -/
theorem resetMeetsTheInvariants : Obligations.ResetMeetsTheInvariants := by
  refine ⟨⟨Nat.zero_le _, rfl, fun o ho => ?_, fun _ => ⟨rfl, rfl, rfl, rfl, rfl⟩⟩, ?_, ?_,
    ⟨Nat.zero_le _, Nat.zero_le _, Nat.zero_le _, fun h => ?_⟩, ?_, ⟨tableOk_nil, fun _ => tableOk_nil, fun w hw => ?_⟩⟩
  · cases ho
  · simp [WarningOk, State.reset, Warning.formed, Warning.relayRequired, Warning.dangerous, Eight.zip, Eight.all, Eight.toList,
      levelHigher, levelRank]
  · simp [CablewayOk, State.reset, RunState.running, RunState.measuring, RunState.held, RunState.drives]
  · cases h
  · exact ⟨rfl, by simp [State.reset, ArchiveOp.page], by simp [State.reset, FirstOp.page], Nat.zero_le _, Nat.zero_le _⟩
  · cases hw

end Sys2Proof.Machine
end

section
/-! SUPPORT. A request newly taken: what the operations on its slot leave of the ports, and what its command ends with when it is
answered at once, when its answer waits for a write, and when it waits for a record (R178, R184, R194). -/

namespace Sys2Proof.Machine

/-! ### The other ports -/

/-- The ports but for the slot of one and what Ports T and F have ready or send. -/
structure Ports.SameBut (ps qs : Ports) (p : Port) : Prop where
  slots : ∀ q, q ≠ p → qs.slot q = ps.slot q
  portL : p ≠ .L → qs.l = ps.l
  receivingT : qs.t.receiving = ps.t.receiving
  receivingF : qs.f.receiving = ps.f.receiving
  heardT : qs.t.heard = ps.t.heard
  heardF : qs.f.heard = ps.f.heard
  firstT : qs.t.first = ps.t.first
  firstF : qs.f.first = ps.f.first

theorem samePorts_iff (s t : State) (p : Port) : SamePorts s t p ↔ s.ports.SameBut t.ports p :=
  ⟨fun ⟨a, b, c, d, e, f, g, h⟩ => ⟨a, b, c, d, e, f, g, h⟩, fun ⟨a, b, c, d, e, f, g, h⟩ => ⟨a, b, c, d, e, f, g, h⟩⟩

theorem Ports.SameBut.refl (ps : Ports) (p : Port) : ps.SameBut ps p :=
  ⟨fun _ _ => rfl, fun _ => rfl, rfl, rfl, rfl, rfl, rfl, rfl⟩

theorem Ports.SameBut.trans {ps qs rs : Ports} {p : Port} (h : ps.SameBut qs p) (k : qs.SameBut rs p) : ps.SameBut rs p :=
  ⟨fun q hq => (k.slots q hq).trans (h.slots q hq), fun hp => (k.portL hp).trans (h.portL hp),
    k.receivingT.trans h.receivingT, k.receivingF.trans h.receivingF, k.heardT.trans h.heardT, k.heardF.trans h.heardF,
    k.firstT.trans h.firstT, k.firstF.trans h.firstF⟩

theorem Ports.sameBut_setSlot (ps : Ports) (p : Port) (o : Option Owed) : ps.SameBut (ps.setSlot p o) p := by
  refine ⟨fun q hq => by rw [Ports.slot_setSlot, if_neg hq], fun hp => ?_, ?_, ?_, ?_, ?_, ?_, ?_⟩ <;> cases p
  case refine_1.L => exact absurd rfl hp
  all_goals rfl

theorem Ports.sameBut_answer (ps : Ports) (p : Port) (r : Result) (a : Payload) : ps.SameBut (ps.answer p r a) p := by
  have hslots := fun q (hq : q ≠ p) => Ports.slot_answer_other ps p q r a hq
  revert hslots
  unfold Ports.answer
  split
  · exact fun _ => .refl ps p
  · split
    · exact fun _ => .refl ps p
    · cases p with
      | L => exact fun hslots => ⟨hslots, fun h => absurd rfl h, rfl, rfl, rfl, rfl, rfl, rfl⟩
      | T => exact fun hslots => ⟨hslots, fun _ => rfl, rfl, rfl, rfl, rfl, rfl, rfl⟩
      | F => exact fun hslots => ⟨hslots, fun _ => rfl, rfl, rfl, rfl, rfl, rfl, rfl⟩

theorem Ports.sameBut_await (ps : Ports) (p : Port) (f : Owed → Owed) : ps.SameBut (ps.await p f) p := by
  unfold Ports.await
  split
  · exact .refl ps p
  · exact ps.sameBut_setSlot p _

theorem Ports.sameBut_resolve (ps : Ports) (p : Port) : ps.SameBut (ps.resolve p) p := by
  unfold Ports.resolve
  split
  · exact .refl ps p
  · split
    · exact ps.sameBut_answer p _ _
    · exact .refl ps p

theorem Ports.sameBut_report (ps : Ports) (p : Port) (id : Nat) (f : Owed → Owed) : ps.SameBut (ps.report p id f) p := by
  unfold Ports.report
  split
  · exact .refl ps p
  · split
    · exact (ps.sameBut_setSlot p _).trans (Ports.sameBut_resolve _ p)
    · exact .refl ps p

theorem Ports.sameBut_settle (s : State) (p : Port) : s.ports.SameBut s.settle.ports p := by
  obtain ⟨h1, h2, h3, h4, h5, h6⟩ := PortAsync.pump_frame s
  exact ⟨fun q _ => s.settle_slot q, fun _ => rfl, h1, h4, h2, h5, h3, h6⟩

theorem Ports.sameBut_occupy (s : State) (p : Port) (code tag : Byte) : s.ports.SameBut (s.occupy p code tag).ports p := by
  obtain ⟨h1, h2, h3, h4, h5, h6, h7, h8⟩ := s.ports.sameBut_setSlot p (some (Owed.new s.ports.nextId code tag))
  refine ⟨fun q hq => ?_, h2, h3, h4, h5, h6, h7, h8⟩
  rw [State.occupy_slot, if_neg hq]

/-- A notice handed leaves the ports but what Port T sends. -/
theorem Ports.sameBut_notice (s : State) (b : NoticeBody) (p : Port) : s.ports.SameBut (s.notice b).ports p := by
  refine ⟨fun q _ => Wake.notice_slot _ _ _ q, fun _ => Wake.notice_l _ _ _, ?_, ?_, ?_, ?_, ?_, ?_⟩ <;>
    simp only [State.notice_ports, Wake.notice] <;> split
  all_goals first
    | rfl
    | exact PortAsync.noteLoss_receiving _
    | exact PortAsync.noteLoss_heard _
    | exact PortAsync.noteLoss_first _

/-! ### Ready for the end of a command -/

/-- The request of a code and tag has just been taken on a port, its slot OWED by it, and what its owner has done since has left the
ports but for that slot. -/
structure Taken (h u : State) (p : Port) (code : Nat) (tag : Byte) : Prop where
  slot : ∃ id, u.ports.slot p = some (Owed.new id (BitVec.ofNat 8 code) tag)
  same : h.ports.SameBut u.ports p

theorem taken_occupy (h : State) (p : Port) (code : Nat) (tag : Byte) :
    Taken h (h.occupy p (BitVec.ofNat 8 code) tag) p code tag :=
  ⟨⟨_, by rw [State.occupy_slot, if_pos rfl]⟩, Ports.sameBut_occupy h p _ tag⟩

/-- What an operation does beside the ports. -/
theorem Taken.of_ports {h u v : State} {p : Port} {code : Nat} {tag : Byte} (k : Taken h u p code tag) (e : v.ports = u.ports) :
    Taken h v p code tag := ⟨by rw [e]; exact k.slot, by rw [e]; exact k.same⟩

theorem Taken.notice {h u : State} {p : Port} {code : Nat} {tag : Byte} (k : Taken h u p code tag) (b : NoticeBody) :
    Taken h (u.notice b) p code tag := by
  refine ⟨?_, k.same.trans (Ports.sameBut_notice u b p)⟩
  obtain ⟨id, hid⟩ := k.slot
  exact ⟨id, (Wake.notice_slot _ _ _ p).trans hid⟩

/-- A request answered: its answer is ready or being sent, and the rest of the ports stays. -/
theorem Taken.answer {h u b : State} {p : Port} {code : Nat} {tag : Byte} (k : Taken h u p code tag) (hb : SameBlocks b u)
    (r : Result) (a : Payload) :
    Answered (u.answer p r a).settle p code tag r a ∧ SameBlocks b (u.answer p r a).settle ∧
      SamePorts h (u.answer p r a).settle p := by
  obtain ⟨id, hid⟩ := k.slot
  refine ⟨answered_settle u p _ r a hid rfl, hb.trans (answer_sameBlocks u p r a), (samePorts_iff _ _ _).2 ?_⟩
  exact (k.same.trans (u.ports.sameBut_answer p r a)).trans (Ports.sameBut_settle (u.answer p r a) p)

theorem State.defer_slot (s : State) (p : Port) (o : Owed) (w r st : Bool) (a : Payload) (h : s.ports.slot p = some o) :
    (s.defer p w r st a).ports.slot p = some { o with waitWrite := w, waitRecord := r, strict := st, payload := a } := by
  simp [State.defer, Ports.await, h]

/-- A request owed: what it waits for stands in its slot. -/
theorem owes_settle {s : State} {p : Port} {o : Owed} (h : s.ports.slot p = some o) (ha : o.answered = false) {code : Nat}
    (hc : o.code = BitVec.ofNat 8 code) : Owes s.settle p code o.tag o.waitWrite o.waitRecord o.payload :=
  ⟨o, by rw [State.settle_slot]; exact h, hc, rfl, ha, rfl, rfl, rfl⟩

theorem stored_write (u : State) (p : Port) (d : WriteData) : Stored u (u.write p d).settle p d :=
  ⟨State.settle_sameBlocks (u.write p d), by simp [State.write], rfl⟩

/-- A request whose answer waits for its write. -/
theorem Taken.writeThrough {h u : State} {p : Port} {code : Nat} {tag : Byte} (k : Taken h u p code tag) (d : WriteData) :
    Owes (u.writeThrough p d).settle p code tag true false .empty ∧ SamePorts h (u.writeThrough p d).settle p ∧
      Stored u (u.writeThrough p d).settle p d := by
  obtain ⟨id, hid⟩ := k.slot
  have hslot : (u.writeThrough p d).ports.slot p = _ := State.defer_slot u p _ true false false .empty hid
  refine ⟨owes_settle hslot rfl rfl, (samePorts_iff _ _ _).2 ?_, ?_⟩
  · exact (k.same.trans (u.ports.sameBut_await p _)).trans (Ports.sameBut_settle (u.writeThrough p d) p)
  · exact stored_write (u.defer p true false false .empty) p d

/-- Equal blocks stand for one another before a write. -/
theorem Stored.of_same {s u t : State} {p : Port} {d : WriteData} (h : SameBlocks s u) (k : Stored u t p d) : Stored s t p d := by
  obtain ⟨h1, h2, h3, h4, h5, h6, h7, h8, h9, h10, h11, h12, h13⟩ := h
  obtain ⟨kb, kw⟩ := k
  have hb : SameBlocks { s with store := t.store } { u with store := t.store } :=
    ⟨h1, h2, h3, h4, h5, h6, h7, h8, h9, rfl, h11, h12, h13⟩
  refine ⟨hb.trans kb, ?_⟩
  unfold WriteQueued at *
  rwa [h10] at kw

/-! ### From the command -/

/-- A permitted request that its port takes and its owner answers at once, in the state where the owner has done what it does. -/
theorem exec_answers {i : Instr} {p : Port} {tag : Byte} {r : Request} {s u b : State} (hi : i.sent = some (p, tag, r))
    (ht : s.takes p = true) (hp : permitted p r = true) {res : Result} {a : Payload}
    (ho : (s.owing i p tag r).toOwner p r = u.answer p res a)
    (k : Taken ((s.sampled i).heard p) u p (requestCode r) tag) (hb : SameBlocks b u) :
    ∃ t, exec i s = .next t ∧ Answered t p (requestCode r) tag res a ∧ SameBlocks b t ∧ SamePorts ((s.sampled i).heard p) t p :=
  ⟨_, exec_permitted i p tag r s hi ht hp, by rw [ho]; exact k.answer hb res a⟩

/-- One whose owner leaves everything as it is but for the answer. -/
theorem exec_answers_only {i : Instr} {p : Port} {tag : Byte} {r : Request} {s : State} (hi : i.sent = some (p, tag, r))
    (ht : s.takes p = true) (hp : permitted p r = true) {res : Result} {a : Payload}
    (ho : (s.owing i p tag r).toOwner p r = (s.owing i p tag r).answer p res a) :
    ∃ t, exec i s = .next t ∧ Answered t p (requestCode r) tag res a ∧ SameBlocks ((s.sampled i).heard p) t ∧
      SamePorts ((s.sampled i).heard p) t p :=
  exec_answers hi ht hp ho (taken_occupy _ p _ tag) (occupy_sameBlocks _ p _ tag)

/-- One whose answer waits for its write alone. -/
theorem exec_writes {i : Instr} {p : Port} {tag : Byte} {r : Request} {s u b : State} (hi : i.sent = some (p, tag, r))
    (ht : s.takes p = true) (hp : permitted p r = true) {d : WriteData}
    (ho : (s.owing i p tag r).toOwner p r = u.writeThrough p d)
    (k : Taken ((s.sampled i).heard p) u p (requestCode r) tag) (hb : SameBlocks b u) :
    ∃ t, exec i s = .next t ∧ Owes t p (requestCode r) tag true false .empty ∧ SamePorts ((s.sampled i).heard p) t p ∧
      Stored b t p d := by
  obtain ⟨h1, h2, h3⟩ := k.writeThrough d
  exact ⟨_, exec_permitted i p tag r s hi ht hp, by rw [ho]; exact ⟨h1, h2, h3.of_same hb⟩⟩

/-! ### The refusals of the ports (R177) -/

/-- Settles O13: by the table of R177, and the answer of a port that does not allow the request. -/
theorem aRequestFromAPortNotAllowedIsRefused : Obligations.ARequestFromAPortNotAllowedIsRefused := by
  refine ⟨fun p r => ?_, fun s i p tag r hi ht hp => ?_⟩
  · cases r <;> cases p <;> simp [permitted]
  · exact ⟨_, exec_notPermitted i p tag r s hi ht hp,
      (taken_occupy _ p _ tag).answer (occupy_sameBlocks _ p _ tag) .notPermitted .empty⟩

/-- A request whose payload has the wrong size is answered BAD_REQUEST by its owner, LOAD_PLAN apart. -/
theorem State.toOwner_malformed (s : State) (p : Port) (r : Request) (h : requestPayload r = none) (hl : r ≠ .loadPlan none) :
    s.toOwner p r = s.reply p .badRequest := by
  cases r
  case loadPlan f =>
    obtain rfl : f = none := by simpa [requestPayload] using h
    exact absurd rfl hl
  all_goals
    simp only [requestPayload, Option.map_eq_none_iff, ite_eq_right_iff, reduceCtorEq, imp_false, Bool.not_eq_true] at h
    subst h
    rfl

/-- Settles O14: by the owner's answer to a payload of the wrong size, and by the code that names no request. -/
theorem malformedRequestsAreRefused : Obligations.MalformedRequestsAreRefused := by
  refine ⟨fun s i p tag r hi ht hp hn hl => ?_, fun s p code tag ht => ?_⟩
  · exact exec_answers_only hi ht hp (State.toOwner_malformed _ p r hn hl)
  · have hcode : BitVec.ofNat 8 code.toNat = code := by simp
    have hexec : exec (.codeNamesNoRequest p code tag) s =
        .next (((s.heard p).occupy p (BitVec.ofNat 8 code.toNat) tag).answer p .badRequest .empty).settle := by
      show (s.receive p (.unknown code tag)).done = _
      rw [State.receive_taken s p _ ht, hcode]
      rfl
    exact ⟨_, hexec, (taken_occupy _ p _ tag).answer (occupy_sameBlocks _ p _ tag) .badRequest .empty⟩

end Sys2Proof.Machine
end

section
/-! SUPPORT. A record handed with room, a notice told, and a request whose answer waits for its record: the words of the statements
for them. Then the messages that a port does not take, and the frames and responses of the ports (R97, R160, R178 to R187). -/

namespace Sys2Proof.Machine

/-! ### Records and notices with room -/

/-- A record handed to an archive with room. -/
theorem State.hand_recorded (s : State) (r : Record) (o : Owner) (h : s.archive.hasRoom = true) :
    Recorded s (s.hand r o) r ∧ (s.hand r o).ports = s.ports.entered o := by
  obtain ⟨-, -, -, -, hg, hn, hp⟩ := Wake.hand_room s.wake r s.clock.time o h
  refine ⟨⟨⟨rfl, rfl, rfl, rfl, rfl, rfl, rfl, hg, rfl, rfl, rfl, ?_, ?_⟩, Wake.hand_queued s.wake r s.clock.time o h⟩, hp⟩
  · exact congrArg NoticeQueue.overflowed hn
  · exact congrArg (fun q : NoticeQueue => q.held.map (fun n => (n.time, n.body))) hn

/-- A LEVEL record handed to an archive with room. -/
theorem State.levelRecord_recorded (s : State) (e : LevelEvent) (o : Owner) (h : s.archive.hasRoom = true) :
    Recorded s (s.levelRecord e o) (.level (s.warning.body e)) ∧ (s.levelRecord e o).ports = s.ports.entered o :=
  s.hand_recorded _ o h

theorem State.hasRoom_archive {s : State} (h : s.hasRoom = true) : s.archive.hasRoom = true := by
  simp only [State.hasRoom, Bool.and_eq_true] at h
  exact h.1.1

/-- A notice that finds room and no LEVEL notice before it is told. -/
theorem State.notice_told (s : State) (b : NoticeBody) (h : s.hasRoom = true) : s.notice b = s.told b := by
  simp only [State.hasRoom, Bool.and_eq_true, Bool.not_eq_true', decide_eq_true_eq] at h
  obtain ⟨⟨-, hlen⟩, hlevel⟩ := h
  have hq : s.notices.hand s.clock.time b =
      ({ s.notices with held := s.notices.held ++ [{ time := s.clock.time, body := b, inTransmission := false }] }, false) := by
    simp [NoticeQueue.hand, hlevel, hlen]
  simp [State.notice, Wake.notice, State.wake, hq, State.withWake, State.told]

/-- What was written before a record was handed is a write and a record handed. -/
theorem Recorded.stored {s t : State} {p : Port} {d : WriteData} {r : Record} (h : Recorded (s.write p d) t r) :
    StoredAndRecorded s t p d r := by
  obtain ⟨⟨h1, h2, h3, h4, h5, h6, h7, h8, h9, h10, h11, h12, h13⟩, hq⟩ := h
  have hs : t.store = (s.write p d).store := h10
  refine ⟨⟨h1, h2, h3, h4, h5, h6, h7, h8, h9, rfl, h11, h12, h13⟩, ⟨?_, ?_⟩, hq⟩
  · rw [hs]
    simp [State.write]
  · rw [hs]
    rfl

/-- Equal blocks stand for one another before a record is handed. -/
theorem Recorded.of_same {b u t : State} {r : Record} (hb : SameBlocks b u) (h : Recorded u t r) : Recorded b t r := by
  obtain ⟨h1, h2, h3, h4, h5, h6, h7, h8, h9, h10, h11, h12, h13⟩ := hb
  obtain ⟨hu, hq⟩ := h
  have hb : SameBlocks { b with archive := t.archive } { u with archive := t.archive } :=
    ⟨h1, h2, h3, h4, h5, h6, h7, h8, rfl, h10, h11, h12, h13⟩
  refine ⟨hb.trans hu, ?_⟩
  unfold RecordQueued at *
  rwa [h9] at hq

theorem StoredAndRecorded.of_same {b u t : State} {p : Port} {d : WriteData} {r : Record} (hb : SameBlocks b u)
    (h : StoredAndRecorded u t p d r) : StoredAndRecorded b t p d r := by
  obtain ⟨h1, h2, h3, h4, h5, h6, h7, h8, h9, h10, h11, h12, h13⟩ := hb
  obtain ⟨hu, hw, hq⟩ := h
  have hb : SameBlocks { b with archive := t.archive, store := t.store } { u with archive := t.archive, store := t.store } :=
    ⟨h1, h2, h3, h4, h5, h6, h7, h8, rfl, rfl, h11, h12, h13⟩
  refine ⟨hb.trans hu, ?_, ?_⟩
  · unfold WriteQueued at *
    rwa [h10] at hw
  · unfold RecordQueued at *
    rwa [h9] at hq

/-! ### A request whose answer waits -/

/-- The request of a code and tag has been taken on a port and deferred: what its answer waits for, and its payload then; what has
been done since has left the ports but for that slot. -/
structure Deferred (h u : State) (p : Port) (code : Nat) (tag : Byte) (write record strict : Bool) (a : Payload) : Prop where
  slot : ∃ id, u.ports.slot p =
    some
      { Owed.new id (BitVec.ofNat 8 code) tag with
        waitWrite := write, waitRecord := record, strict := strict, payload := a }
  same : h.ports.SameBut u.ports p

theorem Taken.defer {h u : State} {p : Port} {code : Nat} {tag : Byte} (k : Taken h u p code tag) (w r st : Bool) (a : Payload) :
    Deferred h (u.defer p w r st a) p code tag w r st a := by
  obtain ⟨id, hid⟩ := k.slot
  exact ⟨⟨id, State.defer_slot u p _ w r st a hid⟩, k.same.trans (u.ports.sameBut_await p _)⟩

section Waiting

variable {h u v : State} {p : Port} {code : Nat} {tag : Byte} {w st : Bool} {a : Payload}

theorem Deferred.of_ports {r : Bool} (k : Deferred h u p code tag w r st a) (e : v.ports = u.ports) :
    Deferred h v p code tag w r st a := ⟨by rw [e]; exact k.slot, by rw [e]; exact k.same⟩

theorem Deferred.notice {r : Bool} (k : Deferred h u p code tag w r st a) (b : NoticeBody) :
    Deferred h (u.notice b) p code tag w r st a := by
  obtain ⟨id, hid⟩ := k.slot
  exact ⟨⟨id, (Wake.notice_slot _ _ _ p).trans hid⟩, k.same.trans (Ports.sameBut_notice u b p)⟩

/-- A deferred request whose record enters the queue waits for its write alone. -/
theorem Deferred.entered (k : Deferred h u p code tag true true st a) (e : v.ports = u.ports.entered (u.ownerOf p)) :
    Deferred h v p code tag true false st a := by
  obtain ⟨id, hid⟩ := k.slot
  have hent : u.ports.entered (u.ownerOf p) = u.ports.report p id (fun o => { o with waitRecord := false }) := by
    simp [State.ownerOf, Ports.owedId, hid, Ports.entered, Owed.new]
  refine ⟨⟨id, ?_⟩, ?_⟩
  · rw [e, hent]
    simp [Ports.report, hid, Owed.new, Ports.resolve, Owed.complete]
  · rw [e, hent]
    exact k.same.trans (u.ports.sameBut_report p id _)

/-- One that waits for nothing else is answered. -/
theorem Deferred.answered (k : Deferred h u p code tag false true st a) (e : v.ports = u.ports.entered (u.ownerOf p)) :
    Answered v.settle p code tag .ok a ∧ SamePorts h v.settle p := by
  obtain ⟨id, hid⟩ := k.slot
  generalize ho : ({ Owed.new id (BitVec.ofNat 8 code) tag with
    waitWrite := false, waitRecord := false, strict := st, payload := a } : Owed) = o
  have hent : u.ports.entered (u.ownerOf p) = (u.ports.setSlot p (some o)).answer p .ok a := by
    subst ho
    simp [State.ownerOf, Ports.owedId, hid, Ports.entered, Ports.report, Owed.new, Ports.resolve, Owed.complete, Owed.result,
      Owed.resultPayload]
  have hv : v.settle = (({ v with ports := u.ports.setSlot p (some o) } : State).answer p .ok a).settle := by
    rw [State.answer, ← hent, ← e]
  refine ⟨?_, (samePorts_iff _ _ _).2 ?_⟩
  · rw [hv]
    have := answered_settle ({ v with ports := u.ports.setSlot p (some o) } : State) p o .ok a (by simp) (by rw [← ho]; rfl)
    rw [← ho] at this ⊢
    exact this
  · refine Ports.SameBut.trans ?_ (Ports.sameBut_settle v p)
    rw [e, hent]
    exact (k.same.trans (u.ports.sameBut_setSlot p _)).trans (Ports.sameBut_answer _ p _ _)

/-- A deferred request stands owed at the end of the command. -/
theorem Deferred.owes {r : Bool} (k : Deferred h u p code tag w r st a) :
    Owes u.settle p code tag w r a ∧ SamePorts h u.settle p := by
  obtain ⟨id, hid⟩ := k.slot
  exact ⟨owes_settle hid rfl rfl, (samePorts_iff _ _ _).2 (k.same.trans (Ports.sameBut_settle u p))⟩

/-- The request of a deferred one, with its write queued and its record handed to an archive with room. -/
theorem Deferred.writeAndHand (k : Deferred h u p code tag true true st a) (hroom : u.archive.hasRoom = true) (d : WriteData)
    (r : Record) {b : State} (hb : SameBlocks b u) :
    Owes ((u.write p d).hand r (u.ownerOf p)).settle p code tag true false a ∧
      SamePorts h ((u.write p d).hand r (u.ownerOf p)).settle p ∧
      StoredAndRecorded b ((u.write p d).hand r (u.ownerOf p)).settle p d r := by
  obtain ⟨hrec, hports⟩ := (u.write p d).hand_recorded r (u.ownerOf p) hroom
  obtain ⟨howes, hsame⟩ := (k.entered hports).owes
  exact ⟨howes, hsame, (hrec.same (State.settle_sameBlocks _)).stored.of_same hb⟩

/-- A request deferred for its record alone, its record handed to an archive with room. -/
theorem Deferred.hand (k : Deferred h u p code tag false true st a) (hroom : u.archive.hasRoom = true) (r : Record) {b : State}
    (hb : SameBlocks b u) :
    Answered (u.hand r (u.ownerOf p)).settle p code tag .ok a ∧ SamePorts h (u.hand r (u.ownerOf p)).settle p ∧
      Recorded b (u.hand r (u.ownerOf p)).settle r := by
  obtain ⟨hrec, hports⟩ := u.hand_recorded r (u.ownerOf p) hroom
  obtain ⟨hans, hsame⟩ := k.answered hports
  exact ⟨hans, hsame, (hrec.same (State.settle_sameBlocks _)).of_same hb⟩

end Waiting

/-- A slot deferred changes the ports alone. -/
theorem defer_sameBlocks (s : State) (p : Port) (w r st : Bool) (a : Payload) : SameBlocks s (s.defer p w r st a) :=
  ⟨rfl, rfl, rfl, rfl, rfl, rfl, rfl, rfl, rfl, rfl, rfl, rfl, rfl⟩

/-! ### A message that finds the slot OWED (R184) -/

/-- Hearing a message on Port T or F leaves the ports but for its receive state. -/
theorem State.received_ports (s : State) (p : AsyncPort) :
    (s.received p).ports = s.ports.setAsync p (s.ports.async p).idle := by
  cases p
  · exact (State.restartSilence_frame (s.onAsync .T PortAsync.idle)).2.2.2.2.2.2.2.2.2.1
  · rfl

/-- Without an immediate answer waiting, a new one joins the ready ones. -/
theorem PortAsync.immediate_joins {b : PortAsync} (h : b.ready.all (·.answers) = true) (code tag : Byte) (r : Result) :
    (b.immediate code tag r).ready =
      b.ready ++ [{ code := code, tag := tag, result := r, payload := .empty, answers := false }] := by
  have hany : b.ready.any (fun r => !r.answers) = false := by
    simpa [List.any_eq_false] using h
  rw [PortAsync.immediate_ready, hany]
  rfl

/-- A response that is ready on Port T or F stays so, or is being sent, at the end of the command. -/
theorem answers_settle (s : State) (p : AsyncPort) {r : Response} (h : r ∈ (s.ports.async p).ready) :
    Answers s.settle r p.port := by
  cases p
  · exact s.pumpT_ready r h
  · exact s.pumpF_ready r h

/-- A valid message that finds the slot OWED, and no immediate answer waiting, is answered BUSY. -/
theorem arrive_busy (s : State) (p : AsyncPort) (m : Arrival) (hh : s.hears p = true) (hs : (s.ports.slot p.port).isSome = true)
    (hr : (s.ports.async p).ready.all (·.answers) = true) :
    Answers (s.arrive p m).settle { code := m.code, tag := m.tag, result := .busy, payload := .empty, answers := false } p.port ∧
      SameBlocks (s.received p) (s.arrive p m).settle ∧ ∀ q, (s.arrive p m).settle.ports.slot q = s.ports.slot q := by
  have harr : s.arrive p m = (s.received p).onAsync p (fun b => b.immediate m.code m.tag .busy) := by
    rw [State.arrive, if_pos hh]
    exact if_neg (by simpa [Option.isSome_iff_ne_none] using hs)
  have hasync : (s.received p).ports.async p = (s.ports.async p).idle := by rw [State.received_ports]; simp
  rw [harr]
  refine ⟨answers_settle _ p ?_, State.onAsync_sameBlocks _ p _, fun q => ?_⟩
  · rw [State.onAsync_ports, Ports.async_setAsync, if_pos rfl, hasync, PortAsync.immediate_joins (b := (s.ports.async p).idle) hr]
    simp
  · have hslot : ∀ q, (s.received p).ports.slot q = s.ports.slot q := fun q => by
      rw [State.received_ports, Ports.slot_setAsync]
      split
      · subst q
        cases p <;> rfl
      · rfl
    rw [State.onAsync_slot _ p _ ?_ q, hslot]
    rw [PortAsync.immediate_slot]
    cases p <;> rfl

/-- A message on Port T or F. -/
theorem State.receive_async (s : State) (p : AsyncPort) (m : Arrival) : s.receive p.port m = s.arrive p m := by cases p <;> rfl

/-- The BUSY command is a valid message that finds the slot OWED, whatever it carries. -/
theorem State.busy_eq (s : State) (p : AsyncPort) (code tag : Byte) (hs : (s.ports.slot p.port).isSome = true) :
    s.busy p code tag = s.arrive p (.unknown code tag) := by
  have hn : (s.ports.slot p.port).isNone = false := by simpa [Option.isSome_iff_ne_none] using hs
  simp [State.busy, State.arrive, hs, hn, Arrival.code, Arrival.tag]

/-- The encoder lines do not decide what a port hears. -/
theorem State.sampled_hears (s : State) (i : Instr) (p : AsyncPort) : (s.sampled i).hears p = s.hears p := by
  obtain ⟨-, hstart, -, -, -, -, -, -, -, -, hports, -⟩ := s.sampled_frame i
  simp only [State.hears, hstart, hports]

/-- A SILENT link that hears a message becomes LIVE, with its record. -/
theorem State.received_live (s : State) (h : s.warning.silent = true) :
    s.received .T =
      (({ s.onAsync .T PortAsync.idle with
          warning :=
            ({ s.warning with
                silent := false, silenceTimer := some (s.elapsed + 100 * s.warning.timers.silence) } : Warning).withRelay } : State)
        ).levelRecord .linkLive .nobody := by
  simp only [State.received, State.restartSilence, State.onAsync_warning, h, if_true]
  rfl

/-- Settles O15: a valid message that finds the slot OWED is answered BUSY, and on Port T restarts the silence timer. -/
theorem aMessageOnAnOwedSlotIsAnsweredBusy : Obligations.AMessageOnAnOwedSlotIsAnsweredBusy := by
  refine ⟨fun s => ⟨rfl, fun hs => ?_, fun hs hroom u hu => ?_⟩, fun s p hh hslot hr => ⟨fun code tag => ?_, fun i tag r hi => ?_⟩⟩
  · simp only [State.received, State.restartSilence, State.onAsync_warning, hs]
    rfl
  · rw [State.received_live s hs] at hu
    subst hu
    generalize hb : ({ s.onAsync .T PortAsync.idle with
      warning :=
        ({ s.warning with
            silent := false, silenceTimer := some (s.elapsed + 100 * s.warning.timers.silence) } : Warning).withRelay } : State) = b
    have hroomb : b.archive.hasRoom = true := by subst hb; exact hroom
    obtain ⟨hrec, hports⟩ := b.levelRecord_recorded .linkLive .nobody hroomb
    have hw : (b.levelRecord .linkLive .nobody).warning = b.warning := hrec.1.2.2.2.2.2.1
    refine ⟨?_, ?_, ?_⟩
    · rw [hports]; subst hb; rfl
    · rw [hw]; subst hb; rfl
    · rw [hw]
      refine Recorded.of_same ?_ hrec
      subst hb
      exact ⟨rfl, rfl, rfl, rfl, rfl, rfl, rfl, rfl, rfl, rfl, rfl, rfl, rfl⟩
  · obtain ⟨h1, h2, h3⟩ := arrive_busy s p (.unknown code tag) hh hslot hr
    refine ⟨(s.busy p code tag).settle, rfl, ?_⟩
    rw [State.busy_eq s p code tag hslot]
    exact ⟨h1, h2, h3⟩
  · obtain ⟨-, -, -, -, -, -, -, -, -, -, hports, -⟩ := s.sampled_frame i
    obtain ⟨h1, h2, h3⟩ := arrive_busy (s.sampled i) p (.request tag r) (by rw [State.sampled_hears]; exact hh)
      (by rw [hports]; exact hslot) (by rw [hports]; exact hr)
    refine ⟨((s.sampled i).arrive p (.request tag r)).settle, ?_, h1, h2, fun q => by rw [h3, hports]⟩
    rw [exec_sent i p.port tag r s hi, State.request, State.receive_async]

/-! ### Port L (R179, R181, R182) -/

/-- Settles O16: by the judging of an inbound request against a slot that the frame's response leaves OWED. -/
theorem aRequestInAFrameOfAnOwedSlotIsDiscarded : Obligations.ARequestInAFrameOfAnOwedSlotIsDiscarded := by
  intro s i tag r hi m hm hans hslot
  obtain ⟨-, -, -, -, -, -, -, -, -, -, hports, -⟩ := s.sampled_frame i
  have hend : (s.sampled i).request .L tag r =
      { s.sampled i with
        ports := { s.ports with l := { s.ports.l with frame := none, first := false, discarded := true } } } := by
    simp [State.request, State.receive, State.frameEnd, hports, hm, PortL.sent, hans, Arrival.inbound, State.judgeInbound, hslot]
  refine ⟨_, exec_sent i .L tag r s hi, ?_, ?_, ?_, ?_⟩
  · rw [hend]; rfl
  · have := State.settle_sameAsync_t ((s.sampled i).request .L tag r)
    rw [hend] at this ⊢
    exact this
  · have := State.settle_sameAsync_f ((s.sampled i).request .L tag r)
    rw [hend] at this ⊢
    exact this
  · have := State.settle_sameBlocks ((s.sampled i).request .L tag r)
    rw [hend] at this ⊢
    exact this

/-- The attention line is low exactly while every item of the present summary but the marker is what the last response carried. -/
theorem State.attention_eq_false_iff (s : State) (m : Summary) (h : s.ports.l.lastSummary = some m) :
    s.attention = false ↔ s.summary false = { m with first := false } := by
  simp [State.attention, h]

/-- Equal blocks have the same summary. -/
theorem SameBlocks.summary {s t : State} (h : SameBlocks s t) (first : Bool) : t.summary first = s.summary first := by
  obtain ⟨-, -, h3, h4, h5, h6, h7, h8, h9, h10, -, -, hheld⟩ := h
  have hlen : t.notices.held.length = s.notices.held.length := by simpa using congrArg List.length hheld
  simp only [State.summary, h3, h4, h5, h6, h7, h8, h9, h10, hlen]

/-- What a frame that begins now carries. -/
def State.begunFrame (s : State) : SentResponse :=
  { response := s.ports.l.choose, discarded := s.ports.l.discarded, summary := s.summary s.ports.l.first }

theorem State.frameBegin_eq (s : State) (hs : s.startingUp = false) (hf : s.ports.l.frame = none) :
    s.frameBegin =
      { s with
        ports :=
          { s.ports with
            l :=
              { s.ports.l with
                frame := some s.begunFrame, lastSummary := some (s.summary s.ports.l.first), frameError := false
                discarded := false } } } := by
  simp [State.frameBegin, hs, hf, State.begunFrame]

theorem State.frameBegin_l (s : State) (hs : s.startingUp = false) (hf : s.ports.l.frame = none) :
    s.frameBegin.settle.ports.l =
      { s.ports.l with
        frame := some s.begunFrame, lastSummary := some (s.summary s.ports.l.first), frameError := false, discarded := false } := by
  rw [s.frameBegin_eq hs hf]
  rfl

theorem State.frameBegin_sameBlocks (s : State) (hs : s.startingUp = false) (hf : s.ports.l.frame = none) :
    SameBlocks s s.frameBegin.settle := by
  have h := State.settle_sameBlocks s.frameBegin
  rw [s.frameBegin_eq hs hf] at h ⊢
  exact h

/-- Settles O17: by the summary item by item, and the frame that FRAME_BEGIN forms. -/
theorem aFrameBeginsWithTheResponseItFinds : Obligations.AFrameBeginsWithTheResponseItFinds := by
  refine ⟨fun s => ⟨fun h => by simp [State.attention, h], fun m hm => ?_⟩, fun s hstart hframe => ?_⟩
  · rw [State.attention_eq_false_iff s m hm]
    obtain ⟨level, owed, relay, silent, hold, cableway, holder, result, dispositions, notices, archive, quality, disagree, frozen,
      defaulted, first⟩ := m
    simp only [State.summary, Summary.mk.injEq, and_true]
    have hd : (s.gauging.list.any (fun e => decide (e.record.disposition = .pending)) = dispositions) ↔
        (dispositions = true ↔ ∃ e ∈ s.gauging.list, e.record.disposition = .pending) := by
      rw [Bool.eq_iff_iff, List.any_eq_true]
      simp only [decide_eq_true_eq]
      exact ⟨Iff.symm, Iff.symm⟩
    have hs : ((!s.store.defaulted.isEmpty) = defaulted) ↔ (defaulted = true ↔ s.store.defaulted ≠ []) := by
      rw [Bool.eq_iff_iff]
      simp only [Bool.not_eq_true', List.isEmpty_eq_false_iff]
      exact ⟨Iff.symm, Iff.symm⟩
    rw [hd, hs]
    simp only [eq_comm]
  · have hl := s.frameBegin_l hstart hframe
    have hsame := s.frameBegin_sameBlocks hstart hframe
    refine ⟨s.frameBegin.settle, rfl, s.begunFrame, ?_, rfl, rfl, ?_, ?_, ?_, ?_, ?_, hsame, ?_⟩
    · rw [hl]
    · rw [hl]
    · rw [hl]
    · rw [hl]; rfl
    · rw [State.attention_eq_false_iff _ (s.summary s.ports.l.first) (by rw [hl]), hsame.summary]
      rfl
    · rw [hl]
    · refine ⟨fun o ho r hr => ?_, fun o ho hr => ?_, fun hs he => ?_, fun hs he => ?_⟩ <;>
        simp [State.begunFrame, PortL.choose, *]

/-! ### Responses sent (R178, R187) -/

/-- Settles O20. -/
theorem aResponseSentFreesItsSlot : Obligations.AResponseSentFreesItsSlot := by
  intro s p m hm
  have hsent : s.responseSent p = s.onAsync p (fun a => a.sent m.response) := by simp [State.responseSent, hm]
  refine ⟨(s.responseSent p).settle, rfl, ?_⟩
  rw [hsent]
  obtain ⟨-, -, -, hfirst, -, -, -⟩ := s.onAsync_settle p (fun a => a.sent m.response)
  refine ⟨hfirst, ?_, fun q hq => ?_, s.onAsync_sameBlocks p _⟩
  · rw [State.settle_slot, State.onAsync_ports, Ports.slot_setAsync, if_pos rfl]
    cases p <;> rfl
  · rw [State.settle_slot, State.onAsync_ports, Ports.slot_setAsync, if_neg hq]

end Sys2Proof.Machine
end

section
/-! SUPPORT. What the bytes of a frame and the characters of a line are judged to be, and what the ports then do; the notice packets
(R177, R179, R180, R183, R184, R188 to R191). -/

namespace Sys2Proof.Machine

/-! ### The codes of messages (R200) -/

theorem parseRequest_unknown (n : Nat) (l : List Byte) (h : n = 0 ∨ 37 < n) : parseRequest n l = none := by
  unfold parseRequest
  split <;> first | rfl | omega

theorem parseRequest_known (n : Nat) (l : List Byte) (h1 : 1 ≤ n) (h2 : n ≤ 37) :
    ∃ r, parseRequest n l = some r ∧ requestCode r = n := by
  interval_cases n <;> exact ⟨_, rfl, rfl⟩

theorem Inbound.ofMessage_cases (code tag : Byte) (payload : List Byte) :
    (code.toNat = 0 ∨ 37 < code.toNat → Inbound.ofMessage code tag payload = .unknown code tag) ∧
      (1 ≤ code.toNat → code.toNat ≤ 37 →
        ∃ r, Inbound.ofMessage code tag payload = .request tag r ∧ requestCode r = code.toNat) := by
  refine ⟨fun h => ?_, fun h1 h2 => ?_⟩
  · simp [Inbound.ofMessage, parseRequest_unknown _ payload h]
  · obtain ⟨r, hr, hc⟩ := parseRequest_known _ payload h1 h2
    exact ⟨r, by simp [Inbound.ofMessage, hr], hc⟩

/-! ### The bytes of a frame (R179, R180) -/

theorem Inbound.judge_short (code : Byte) (l : List Byte) (hc : code ≠ 255#8) (hl : l.length < 3) :
    Inbound.judge (code :: l) = .faulty := by
  match l, hl with
  | [], _ | [_], _ | [_, _], _ => simp [Inbound.judge, hc]

theorem Inbound.judge_long (code tag h k : Byte) (body : List Byte) (hc : code ≠ 255#8)
    (hn : 576 < 256 * h.toNat + k.toNat) : Inbound.judge (code :: tag :: h :: k :: body) = .faulty := by
  simp [Inbound.judge, hc, hn]

theorem Inbound.judge_unended (code tag h k : Byte) (body : List Byte) (hc : code ≠ 255#8)
    (hn : body.length ≤ 256 * h.toNat + k.toNat) : Inbound.judge (code :: tag :: h :: k :: body) = .faulty := by
  simp [Inbound.judge, hc, List.drop_of_length_le hn]

theorem Inbound.judge_message (code tag h k check : Byte) (payload more : List Byte) (hc : code ≠ 255#8)
    (hn : payload.length = 256 * h.toNat + k.toNat) (hl : payload.length ≤ 576) :
    Inbound.judge (code :: tag :: h :: k :: (payload ++ check :: more)) =
      if crc (code :: tag :: h :: k :: payload) = check then Inbound.ofMessage code tag payload else .faulty := by
  have hl : ¬ 576 < payload.length := by omega
  simp [Inbound.judge, hc, ← hn, hl]

/-! ### A frame's end (R179, R187) -/

theorem PortL.sent_eq (l : PortL) (r : Response) :
    l.sent r =
      { l with
        frame := none, first := false, slot := if r.answers then none else l.slot
        answer := if r.answers then none else l.answer } := by
  unfold PortL.sent
  split <;> rfl

/-- A change of Port L alone, at the end of a command. -/
theorem portL_settle (s : State) (l : PortL) : ∀ b : State, b = { s with ports := { s.ports with l := l } } →
    b.settle.ports.l = l ∧ SameAsync s.ports.t b.settle.ports.t ∧ SameAsync s.ports.f b.settle.ports.f ∧ SameBlocks s b.settle := by
  rintro b rfl
  exact ⟨rfl, State.settle_sameAsync_t _, State.settle_sameAsync_f _, State.settle_sameBlocks _⟩

/-- The end of the frame in progress. -/
theorem State.frameEnd_eq (s : State) (i : Inbound) (m : SentResponse) (h : s.ports.l.frame = some m) :
    s.frameEnd i = ({ s with ports := { s.ports with l := s.ports.l.sent m.response } } : State).judgeInbound i := by
  simp [State.frameEnd, h]

/-- With the slot OWED, whatever a frame carries is discarded. -/
theorem State.judgeInbound_owed (s : State) (i : Inbound) (hi : i ≠ .empty) (h : s.ports.l.slot.isSome = true) :
    s.judgeInbound i = { s with ports := { s.ports with l := { s.ports.l with discarded := true } } } := by
  cases i with
  | empty => exact absurd rfl hi
  | faulty => simp [State.judgeInbound, h]
  | unknown code tag => simp [State.judgeInbound, h]
  | request tag r => simp [State.judgeInbound, h]

/-- The encoder lines read twice are those lines. -/
theorem State.sampled_again (s : State) (i : Instr) {x : Encoders} (hx : ∀ y, i.lines = some y → y = x) :
    (s.sample x).sampled i = s.sample x := by
  unfold State.sampled
  split
  · rfl
  · rename_i y hy
    rw [hx y hy]
    rfl

/-- Settles O18: by the judging of the bytes, and then by what the frame carried. -/
theorem aFrameEndsWithItsResponseSent : Obligations.AFrameEndsWithItsResponseSent := by
  refine ⟨rfl, fun l => by simp [Inbound.judge], Inbound.judge_short, fun code tag h k body hc n hn => ⟨?_, ?_, ?_⟩,
    Inbound.ofMessage_cases, fun s inbound x m hm l hl => ⟨fun hi => ?_, fun hi hs => ?_, fun hi hs => ?_,
      fun code tag hi hs => ?_, fun tag r hi hs i hsent hx => ?_⟩⟩
  · exact fun hlong => Inbound.judge_long code tag h k body hc (hn ▸ hlong)
  · exact fun hshort => Inbound.judge_unended code tag h k body hc (hn ▸ hshort)
  · rintro hle payload check more rfl hp
    have hj := Inbound.judge_message code tag h k check payload more hc (hp.trans hn) (hp ▸ hle)
    exact ⟨fun hcrc => hj.trans (if_neg hcrc), fun hcrc => hj.trans (if_pos hcrc)⟩
  all_goals
    have hend := (s.sample x).frameEnd_eq (Inbound.judge inbound) m hm
    have hafter : (s.sample x).ports.l.sent m.response = l := by rw [hl]; exact PortL.sent_eq s.ports.l m.response
    rw [hafter] at hend
  · rw [hi] at hend
    exact ⟨_, rfl, portL_settle (s.sample x) l _ (by rw [hi]; exact hend)⟩
  · exact ⟨_, rfl, portL_settle (s.sample x) { l with discarded := true } _ (hend.trans (State.judgeInbound_owed _ _ hi hs))⟩
  · refine ⟨_, rfl, portL_settle (s.sample x) { l with frameError := true } _ ?_⟩
    rw [hend, hi]
    simp [State.judgeInbound, hs]
  · generalize hb : ({ s.sample x with ports := { (s.sample x).ports with l := l } } : State) = b at hend
    have htaken := taken_occupy b .L code.toNat tag
    have hcode : BitVec.ofNat 8 code.toNat = code := by simp
    have hslot : b.ports.l.slot = none := by subst hb; exact hs
    have hend' : (s.sample x).frameEnd (Inbound.judge inbound) =
        (b.occupy .L (BitVec.ofNat 8 code.toNat) tag).answer .L .badRequest .empty := by
      rw [hend, hi, hcode]
      simp [State.judgeInbound, hslot, State.take, State.reply, Arrival.code, Arrival.tag]
    have hbs : SameBlocks (s.sample x) b := by subst hb; exact ⟨rfl, rfl, rfl, rfl, rfl, rfl, rfl, rfl, rfl, rfl, rfl, rfl, rfl⟩
    obtain ⟨hans, hsame, hports⟩ := htaken.answer (hbs.trans (occupy_sameBlocks b .L _ tag)) .badRequest .empty
    rw [← hend'] at hans hsame hports
    refine ⟨_, rfl, hans, ?_, ?_, ?_, hsame⟩
    · rw [hend']
      subst hb
      simp [State.answer, State.occupy, Ports.answer, Ports.slot, Ports.setSlot, Owed.new, State.settle]
    · have ht : ((s.sample x).frameEnd (Inbound.judge inbound)).ports.t = s.ports.t := by rw [hend']; subst hb; rfl
      exact ht ▸ State.settle_sameAsync_t _
    · have hf : ((s.sample x).frameEnd (Inbound.judge inbound)).ports.f = s.ports.f := by rw [hend']; subst hb; rfl
      exact hf ▸ State.settle_sameAsync_f _
  · exact ⟨_, rfl, by rw [exec_sent i .L tag r (s.sample x) hsent, State.sampled_again s i hx, hi]; rfl⟩

/-! ### Characters (R183) -/

theorem ofLowFirst_lowFirst : ∀ b : Byte, ofLowFirst (lowFirst b) = b := by decide +kernel

theorem foldl_xor (l : List Bool) (b : Bool) : l.foldl Bool.xor b = Bool.xor b (decide (l.count true % 2 = 1)) := by
  induction l generalizing b with
  | nil => simp
  | cons a l ih =>
    have hodd : ∀ n : Nat, decide ((n + 1) % 2 = 1) = !decide (n % 2 = 1) := fun n => by
      rcases Nat.mod_two_eq_zero_or_one n with h | h <;> simp [Nat.add_mod, h]
    rw [List.foldl_cons, ih]
    cases a <;> cases b <;> simp [hodd]

/-- A character without a parity error carries an even number of ones. -/
theorem Character.sound_iff (c : Character) : c.sound = true ↔ (lowFirst c.data ++ [c.parity]).count true % 2 = 0 := by
  have h := foldl_xor (lowFirst c.data) false
  rw [Bool.false_xor] at h
  simp only [Character.sound, beq_iff_eq, evenParity, h, List.count_append]
  rcases Nat.mod_two_eq_zero_or_one ((lowFirst c.data).count true) with hn | hn <;> cases c.parity <;> simp [Nat.add_mod, hn]

/-! ### Ports T and F (R183, R184) -/

@[simp] theorem Ports.async_slot (ps : Ports) (p : AsyncPort) : (ps.async p).slot = ps.slot p.port := by cases p <;> rfl

/-- A change of Port T or F that keeps its slot, at the end of a command. -/
theorem onAsync_end (s : State) (p : AsyncPort) (f : PortAsync → PortAsync)
    (h : (f (s.ports.async p)).slot = (s.ports.async p).slot) :
    SameAsync (f (s.ports.async p)) ((s.onAsync p f).settle.ports.async p) ∧ SameBlocks s (s.onAsync p f).settle ∧
      ∀ q, (s.onAsync p f).settle.ports.slot q = s.ports.slot q :=
  ⟨s.onAsync_settle p f, s.onAsync_sameBlocks p f, s.onAsync_slot p f (h.trans (s.ports.async_slot p))⟩

/-- A command without an effect. -/
theorem settle_end (s : State) (p : AsyncPort) :
    SameAsync (s.ports.async p) (s.settle.ports.async p) ∧ SameBlocks s s.settle ∧ ∀ q, s.settle.ports.slot q = s.ports.slot q :=
  ⟨s.settle_sameAsync p, s.settle_sameBlocks, fun q => s.settle_slot q⟩

theorem PortAsync.immediate_eq {b : PortAsync} (h : b.ready.all (·.answers) = true) (code tag : Byte) (r : Result) :
    b.immediate code tag r =
      { b with ready := b.ready ++ [{ code := code, tag := tag, result := r, payload := .empty, answers := false }] } := by
  have hany : b.ready.any (fun r => !r.answers) = false := by simpa [List.any_eq_false] using h
  simp [PortAsync.immediate, hany]

theorem PortAsync.immediate_waits {b : PortAsync} (h : b.ready.all (·.answers) = false) (code tag : Byte) (r : Result) :
    b.immediate code tag r = b := by
  have hany : b.ready.any (fun r => !r.answers) = true := by simpa [List.any_eq_true] using h
  simp [PortAsync.immediate, hany]

theorem Inbound.judgeLine_short (l : List Character) (h : l.length < 4) : Inbound.judgeLine l = .empty := by
  match l, h with
  | [], _ | [_], _ | [_, _], _ | [_, _, _], _ => rfl

theorem Inbound.judgeLine_long (code tag h k : Character) (body : List Character)
    (hn : 576 < 256 * h.data.toNat + k.data.toNat) : Inbound.judgeLine (code :: tag :: h :: k :: body) = .faulty := by
  simp [Inbound.judgeLine, hn]

/-- Settles O19: by the levels of a character, the judging of a line's characters, and what each verdict does to the port. -/
theorem breaksGapsAndFaultsEndAMessage : Obligations.BreaksGapsAndFaultsEndAMessage := by
  refine ⟨fun c => ⟨rfl, ?_, Character.sound_iff c⟩, fun b => ⟨rfl, by simp [Character.of, Character.sound]⟩, Inbound.judgeLine_short,
    fun code tag h k body n hn => ⟨?_, ?_, ?_⟩, Inbound.ofMessage_cases, fun s p a ha => ?_⟩
  · exact congrArg (fun b => some ({ data := b, parity := c.parity } : Character)) (ofLowFirst_lowFirst c.data)
  · exact fun hlong => Inbound.judgeLine_long code tag h k body (hn ▸ hlong)
  · exact fun hle hshort => Inbound.judgeLine_unended code tag h k body (hn ▸ hle) (hn ▸ hshort)
  · rintro hle payload check more rfl hp m rfl
    have hj := Inbound.judgeLine_message code tag h k check payload more (hp.trans hn) (hp ▸ hle)
    refine ⟨fun hbad => hj.trans (if_neg ?_), fun hsound hcrc => hj.trans (if_pos ?_)⟩
    · simp only [Bool.and_eq_true, List.all_eq_true, decide_eq_true_eq, not_and]
      rintro hall
      rcases hbad with ⟨c, hc, hs⟩ | hcrc
      · rw [hall c hc] at hs
        cases hs
      · exact hcrc
    · simp only [Bool.and_eq_true, List.all_eq_true, decide_eq_true_eq]
      exact ⟨hsound, hcrc⟩
  · subst ha
    refine ⟨fun hs => ⟨_, rfl, ?_⟩, fun hs => ⟨_, rfl, ?_⟩, ⟨_, rfl, onAsync_end s p PortAsync.idle rfl⟩,
      fun l x => ⟨fun hh => ⟨_, rfl, ?_⟩, ?_⟩⟩
    · rw [State.lineBreak, if_neg (by simp [hs])]
      exact onAsync_end s p (fun a => { a with receiving := true, heard := [] }) rfl
    · rw [State.lineBreak, if_pos hs]
      exact settle_end s p
    · rw [State.frameError_unheard (s.sample x) p l hh]
      exact settle_end (s.sample x) p
    · rintro hh m rfl
      have heq := State.frameError_eq (s.sample x) p l hh
      refine ⟨fun hj => ⟨_, rfl, ?_⟩, fun hj hr => ⟨_, rfl, ?_⟩, fun hj hr => ⟨_, rfl, ?_⟩, fun code tag hj => ⟨_, rfl, ?_⟩,
        fun tag r hj i hi hx => ⟨_, rfl, ?_⟩⟩
      all_goals
        have hj' : Inbound.judgeLine (((s.sample x).ports.async p).heard ++ l) = _ := hj
        rw [hj'] at heq
      · rw [heq]
        exact onAsync_end (s.sample x) p (fun a => { a with heard := (s.ports.async p).heard ++ l }) rfl
      · have hend := onAsync_end (s.sample x) p (fun a => a.idle.immediate 0 0 .frameError) (by simp [PortAsync.idle])
        simp only [State.sample_ports] at hend
        rw [PortAsync.immediate_eq (b := (s.ports.async p).idle) hr] at hend
        rw [heq]
        exact hend
      · have hend := onAsync_end (s.sample x) p (fun a => a.idle.immediate 0 0 .frameError) (by simp [PortAsync.idle])
        simp only [State.sample_ports] at hend
        rw [PortAsync.immediate_waits (b := (s.ports.async p).idle) hr] at hend
        rw [heq]
        exact hend
      · show ((s.sample x).receive p.port (.unknown code tag)).done = _
        rw [heq, State.receive_async]
        rfl
      · rw [exec_sent i p.port tag r (s.sample x) hi, State.sampled_again s i hx, State.request, State.receive_async, heq]

/-! ### The notice queue (R188 to R191) -/

theorem noticeKind_range (b : NoticeBody) : 1 ≤ noticeKind b ∧ noticeKind b ≤ 6 := by cases b <;> simp [noticeKind]

theorem Notice.isLevel_iff (n : Notice) : n.isLevel = true ↔ ∃ a b c, n.body = .level a b c := by
  obtain ⟨time, body, tr⟩ := n
  cases body <;> simp [Notice.isLevel, noticeKind]

/-- Taking the least of the priorities not in transmission, from a bound. -/
theorem foldl_highest (l : List Notice) (k : Nat) :
    ∀ m, m = l.foldl (fun k n => if n.inTransmission then k else min k (noticeKind n.body)) k →
      m ≤ k ∧ (∀ n ∈ l, n.inTransmission = false → m ≤ noticeKind n.body) ∧
        (m = k ∨ ∃ n ∈ l, n.inTransmission = false ∧ noticeKind n.body = m) := by
  induction l generalizing k with
  | nil => simp
  | cons a l ih =>
    intro m hm
    rw [List.foldl_cons] at hm
    obtain ⟨hle, hall, hex⟩ := ih _ m hm
    cases ha : a.inTransmission with
    | true =>
      rw [ha, if_pos rfl] at hle hex
      exact ⟨hle, by simpa [ha] using hall, by simpa [ha] using hex⟩
    | false =>
      rw [ha, if_neg (by simp)] at hle hex
      refine ⟨by omega, by simpa [ha] using ⟨by omega, hall⟩, ?_⟩
      rcases hex with hex | ⟨n, hn, h⟩
      · rcases Nat.le_total k (noticeKind a.body) with hk | hk
        · exact .inl (by omega)
        · exact .inr ⟨a, List.mem_cons_self, ha, by omega⟩
      · exact .inr ⟨n, List.mem_cons_of_mem a hn, h⟩

/-- The priority of the notice that goes before every other not in transmission is the highest. -/
theorem highestPriority_eq {before after : List Notice} {m : Notice} (hm : m.inTransmission = false)
    (hb : ∀ k ∈ before, k.inTransmission = true ∨ noticeKind m.body < noticeKind k.body)
    (ha : ∀ k ∈ after, k.inTransmission = true ∨ noticeKind m.body ≤ noticeKind k.body) :
    highestPriority (before ++ m :: after) = noticeKind m.body := by
  obtain ⟨-, hle, hex⟩ := foldl_highest (before ++ m :: after) 7 _ rfl
  have h1 : highestPriority (before ++ m :: after) ≤ noticeKind m.body := hle m (by simp) hm
  have h2 : noticeKind m.body ≤ highestPriority (before ++ m :: after) := by
    rcases hex with hex | ⟨n, hn, ht, hk⟩
    · have := (noticeKind_range m.body).2
      unfold highestPriority
      omega
    · rw [highestPriority, ← hk]
      rcases List.mem_append.1 hn with hn | hn
      · exact (hb n hn).elim (fun h => by simp [ht] at h) Nat.le_of_lt
      · rcases List.mem_cons.1 hn with rfl | hn
        · exact Nat.le_refl _
        · exact (ha n hn).elim (fun h => by simp [ht] at h) id
  omega

/-- The oldest notice of a priority is marked where none before it has that priority. -/
theorem markOldest_split {before after : List Notice} {m : Notice} (hm : m.inTransmission = false)
    (hb : ∀ k ∈ before, k.inTransmission = true ∨ noticeKind k.body ≠ noticeKind m.body) :
    markOldest (noticeKind m.body) (before ++ m :: after) =
      (some m, before ++ { m with inTransmission := true } :: after) := by
  induction before with
  | nil => simp [markOldest, hm]
  | cons a l ih =>
    have hih := ih fun k hk => hb k (List.mem_cons_of_mem a hk)
    have ha := hb a List.mem_cons_self
    rw [List.cons_append, markOldest, hih, if_neg]
    · rfl
    · rcases ha with ha | ha <;> simp [ha]

theorem foldl_lowest (l : List Notice) (k : Nat) :
    ∀ m, m = l.foldl (fun k n => if n.inTransmission then k else max k (noticeKind n.body)) k →
      k ≤ m ∧ (∀ n ∈ l, n.inTransmission = false → noticeKind n.body ≤ m) ∧
        (m = k ∨ ∃ n ∈ l, n.inTransmission = false ∧ noticeKind n.body = m) := by
  induction l generalizing k with
  | nil => simp
  | cons a l ih =>
    intro m hm
    rw [List.foldl_cons] at hm
    obtain ⟨hle, hall, hex⟩ := ih _ m hm
    cases ha : a.inTransmission with
    | true =>
      rw [ha, if_pos rfl] at hle hex
      exact ⟨hle, by simpa [ha] using hall, by simpa [ha] using hex⟩
    | false =>
      rw [ha, if_neg (by simp)] at hle hex
      refine ⟨by omega, by simpa [ha] using ⟨by omega, hall⟩, ?_⟩
      rcases hex with hex | ⟨n, hn, h⟩
      · rcases Nat.le_total (noticeKind a.body) k with hk | hk
        · exact .inl (by omega)
        · exact .inr ⟨a, List.mem_cons_self, ha, by omega⟩
      · exact .inr ⟨n, List.mem_cons_of_mem a hn, h⟩

theorem lowestPriority_eq {before after : List Notice} {m : Notice} (hm : m.inTransmission = false)
    (hb : ∀ k ∈ before, k.inTransmission = true ∨ noticeKind k.body < noticeKind m.body)
    (ha : ∀ k ∈ after, k.inTransmission = true ∨ noticeKind k.body ≤ noticeKind m.body) :
    lowestPriority (before ++ m :: after) = noticeKind m.body := by
  obtain ⟨-, hle, hex⟩ := foldl_lowest (before ++ m :: after) 0 _ rfl
  have h1 : noticeKind m.body ≤ lowestPriority (before ++ m :: after) := hle m (by simp) hm
  have h2 : lowestPriority (before ++ m :: after) ≤ noticeKind m.body := by
    rcases hex with hex | ⟨n, hn, ht, hk⟩
    · unfold lowestPriority
      omega
    · rw [lowestPriority, ← hk]
      rcases List.mem_append.1 hn with hn | hn
      · exact (hb n hn).elim (fun h => by simp [ht] at h) Nat.le_of_lt
      · rcases List.mem_cons.1 hn with rfl | hn
        · exact Nat.le_refl _
        · exact (ha n hn).elim (fun h => by simp [ht] at h) id
  omega

theorem removeOldest_split {before after : List Notice} {m : Notice} (hm : m.inTransmission = false)
    (hb : ∀ k ∈ before, k.inTransmission = true ∨ noticeKind k.body ≠ noticeKind m.body) :
    removeOldest (noticeKind m.body) (before ++ m :: after) = before ++ after := by
  induction before with
  | nil => simp [removeOldest, hm]
  | cons a l ih =>
    have hih := ih fun k hk => hb k (List.mem_cons_of_mem a hk)
    have ha := hb a List.mem_cons_self
    rw [List.cons_append, removeOldest, hih, if_neg]
    · rfl
    · rcases ha with ha | ha <;> simp [ha]

/-- What a free line of Port T does with the notices. -/
theorem State.pumpT_notice (s : State) (hs : s.ports.t.sending = none) (m : Packet)
    (h : s.pumpT.1.sending = some (.notice m)) : m.overflowed = s.pumpT.2.overflowed ∧ m.lossSince = false := by
  unfold State.pumpT at h ⊢
  rw [hs] at h ⊢
  revert h
  split
  · rename_i he
    cases he
  · split
    · simp
    · simp only
      split
      · simp [hs]
      · simp only [Option.some.injEq, Transmission.notice.injEq]
        rintro rfl
        exact ⟨rfl, rfl⟩

theorem State.pumpT_first (s : State) (hs : s.ports.t.sending = none) (hr : s.ports.t.ready = []) {before after : List Notice}
    {m : Notice} (hh : s.notices.held = before ++ m :: after) (hm : m.inTransmission = false)
    (hb : ∀ k ∈ before, k.inTransmission = true ∨ noticeKind m.body < noticeKind k.body)
    (ha : ∀ k ∈ after, k.inTransmission = true ∨ noticeKind m.body ≤ noticeKind k.body) :
    s.pumpT.1.sending =
        some (.notice { time := m.time, body := m.body, overflowed := s.notices.overflowed, lossSince := false }) ∧
      s.pumpT.2 = { s.notices with held := before ++ { m with inTransmission := true } :: after } := by
  have hmark := markOldest_split (before := before) (after := after) hm
    fun k hk => (hb k hk).imp id fun h => by omega
  unfold State.pumpT
  rw [hs, hr]
  simp only [hh, highestPriority_eq hm hb ha, hmark]
  exact ⟨trivial, trivial⟩

theorem State.packetComplete_eq (s : State) (n : Packet) (h : s.ports.t.sending = some (.notice n)) :
    s.packetComplete =
      { s with
        notices :=
          { held := dropSent s.notices.held
            overflowed := if n.overflowed && !n.lossSince then false else s.notices.overflowed }
        ports := { s.ports with t := { s.ports.t with sending := none } } } := by
  simp [State.packetComplete, h]

/-- A LEVEL notice replaces the one that is held. -/
theorem NoticeQueue.hand_replaces (q : NoticeQueue) (time : Nat) {before after : List Notice} {old : Notice}
    {new previous peak new' previous' peak' : _} (hq : q.held = before ++ old :: after)
    (ho : old.body = .level new' previous' peak') (hno : ∀ m ∈ before ++ after, m.isLevel = false) :
    q.hand time (.level new previous peak) =
      ({ q with
          held :=
            before ++ { time := time, body := .level new previous (levelHigher peak' peak), inTransmission := false } :: after },
        false) := by
  have hold : old.isLevel = true := (Notice.isLevel_iff old).2 ⟨_, _, _, ho⟩
  have hkeep : ∀ l : List Notice, (∀ m ∈ l, m.isLevel = false) →
      l.map (fun m => if m.isLevel then m.replaceWith time (.level new previous peak) else m) = l := fun l hl => by
    conv => rhs; rw [← List.map_id l]
    exact List.map_congr_left fun m hm => by simp [hl m hm]
  have hany : q.held.any Notice.isLevel = true := by rw [hq]; simp [hold]
  have hn : ({ time := time, body := .level new previous peak, inTransmission := false } : Notice).isLevel = true := rfl
  simp only [NoticeQueue.hand, hn, hany, Bool.and_self, if_true]
  rw [hq, List.map_append, List.map_cons, hkeep before fun m hm => hno m (by simp [hm]),
    hkeep after fun m hm => hno m (by simp [hm]), hold, if_pos rfl]
  simp [Notice.replaceWith, ho]

/-- Settles O21: by the notice of highest priority, and by what the queue does with a notice handed. -/
theorem aNoticePacketRemovesItsNotice : Obligations.ANoticePacketRemovesItsNotice := by
  refine ⟨fun s n hn => ?_, fun q time body n hnew => ⟨fun hlen hl => ?_, ?_, fun hlen hl => ?_, ?_⟩⟩
  · have heq := s.packetComplete_eq n hn
    obtain ⟨hover, hheld⟩ := s.packetComplete.settle_notices_frame
    refine ⟨s.packetComplete.settle, rfl, hheld.trans (by rw [heq]), hover.trans (by rw [heq]), fun q => ?_, ?_, fun m hm => ?_,
      fun hr before m after hsplit hm hb ha => ?_⟩
    · rw [State.settle_slot, heq]
      cases q <;> rfl
    · rw [heq]
      exact ⟨rfl, rfl, rfl, rfl, rfl, rfl, rfl, rfl, rfl, rfl, rfl, rfl, rfl⟩
    · exact s.packetComplete.pumpT_notice (by rw [heq]) m hm
    · obtain ⟨h1, h2⟩ := s.packetComplete.pumpT_first (by rw [heq]) (by rw [heq]; exact hr) (before := before) (after := after)
        (m := m) (by rw [heq]; exact hsplit) hm hb ha
      rw [hover]
      exact ⟨h1, congrArg NoticeQueue.held h2⟩
  · subst hnew
    have hcond : (({ time := time, body := body, inTransmission := false } : Notice).isLevel && q.held.any Notice.isLevel) = false := by
      rw [Bool.and_eq_false_iff]
      rcases Bool.eq_false_or_eq_true ({ time := time, body := body, inTransmission := false } : Notice).isLevel with h | h
      · exact .inr (by simpa [List.any_eq_false] using fun m hm => hl m hm h)
      · exact .inl h
    simp only [NoticeQueue.hand, hcond, Bool.false_eq_true, if_false, if_pos hlen]
  · rintro new previous peak rfl before old after hq hno new' previous' peak' ho top ht1 ht2
    rw [NoticeQueue.hand_replaces q time hq ho hno]
    have htop : levelHigher peak' peak = top := by
      unfold levelHigher
      split
      · rename_i h; exact (ht1 h).symm
      · rename_i h; exact (ht2 (by omega)).symm
    rw [htop]
  · subst hnew
    have hfull : ¬ q.held.length < noticeCapacity := by simpa using hlen
    simp only [NoticeQueue.hand, hl, Bool.false_and, Bool.false_eq_true, if_false, if_neg hfull]
  · rintro hlen hl hno before old after hq ho hb ha
    subst hnew
    have hfull : ¬ q.held.length < noticeCapacity := by simpa using hlen
    have hany : q.held.any Notice.isLevel = false := by simpa [List.any_eq_false] using hno
    have hrem : removeOldest (lowestPriority q.held) q.held = before ++ after := by
      rw [hq, lowestPriority_eq ho hb ha]
      exact removeOldest_split ho fun k hk => (hb k hk).imp id fun h => by omega
    simp only [NoticeQueue.hand, hl, hany, Bool.and_false, Bool.false_eq_true, if_false, if_neg hfull, if_true, hrem]

end Sys2Proof.Machine
end

section
/-! SUPPORT. The fields of a payload read back from the bytes written for them, kind by kind, and the message that carries them
(R200, R201; log entry 12). -/

namespace Sys2Proof.Machine

/-! ### One field (R200) -/

theorem foldl_ofBe (l : List Byte) (a : Nat) :
    l.foldl (fun a b => 256 * a + b.toNat) a = a * 256 ^ l.length + ofBe l := by
  unfold ofBe
  induction l generalizing a with
  | nil => simp
  | cons b l ih =>
    rw [List.foldl_cons, List.foldl_cons, ih, ih (256 * 0 + b.toNat), List.length_cons, Nat.pow_succ]
    ring

theorem ofBe_cons (b : Byte) (l : List Byte) : ofBe (b :: l) = b.toNat * 256 ^ l.length + ofBe l := by
  show List.foldl _ (256 * 0 + b.toNat) l = _
  rw [foldl_ofBe]
  simp

/-- The bytes of a number carry it. -/
theorem ofBe_be {n v : Nat} (h : v < 256 ^ n) : ofBe (be n v) = v := by
  have key : ∀ n v : Nat, ofBe (be n v) = v % 256 ^ n := by
    intro n
    induction n with
    | zero => intro v; simp [be, ofBe, Nat.mod_one]
    | succ n ih =>
      intro v
      rw [be, ofBe_cons, ih, be_length, BitVec.toNat_ofNat, Nat.pow_succ 256 n, Nat.mod_mul (a := 256 ^ n), Nat.mul_comm, Nat.add_comm]
  rw [key, Nat.mod_eq_of_lt h]

theorem ofBeInt_beInt {n : Nat} {v : Int} (h : fitsInt n v = true) : ofBeInt (beInt n v) = v := by
  simp only [fitsInt, Bool.and_eq_true, decide_eq_true_eq] at h
  obtain ⟨hlo, hhi⟩ := h
  have hlen : (beInt n v).length = n := be_length _ _
  generalize hm : (256 ^ n : Nat) = m at hlo hhi
  have hmod : v % (m : Int) = if 0 ≤ v then v else v + m := by
    split
    · exact Int.emod_eq_of_lt (by omega) (by omega)
    · rw [← Int.add_emod_right]
      exact Int.emod_eq_of_lt (by omega) (by omega)
  have hval : ofBe (beInt n v) = (v % (m : Int)).toNat := by
    rw [beInt, hm]
    refine ofBe_be ?_
    rw [hm, hmod]
    split <;> omega
  rw [ofBeInt, hval, hlen, hm, hmod]
  split <;> split <;> omega

@[simp] theorem beInt_length (n : Nat) (v : Int) : (beInt n v).length = n := be_length _ _

/-- Beyond the bytes of the fields before it, a field stands in what follows. -/
theorem nat_skip (a l : List Byte) {off : Nat} (n : Nat) (h : a.length ≤ off) : nat (a ++ l) off n = nat l (off - a.length) n := by
  rw [nat, nat, field, field, List.drop_append, List.drop_of_length_le h, List.nil_append]

theorem int_skip (a l : List Byte) {off : Nat} (n : Nat) (h : a.length ≤ off) : int (a ++ l) off n = int l (off - a.length) n := by
  rw [int, int, field, field, List.drop_append, List.drop_of_length_le h, List.nil_append]

@[simp] theorem nat_be_skip {k off : Nat} (v n : Nat) (l : List Byte) (h : k ≤ off) :
    nat (be k v ++ l) off n = nat l (off - k) n := by
  rw [nat_skip _ _ _ (by simpa using h), be_length]

@[simp] theorem nat_beInt_skip {k off : Nat} (v : Int) (n : Nat) (l : List Byte) (h : k ≤ off) :
    nat (beInt k v ++ l) off n = nat l (off - k) n := by
  rw [nat_skip _ _ _ (by simpa using h), beInt_length]

@[simp] theorem int_be_skip {k off : Nat} (v n : Nat) (l : List Byte) (h : k ≤ off) :
    int (be k v ++ l) off n = int l (off - k) n := by
  rw [int_skip _ _ _ (by simpa using h), be_length]

@[simp] theorem int_beInt_skip {k off : Nat} (v : Int) (n : Nat) (l : List Byte) (h : k ≤ off) :
    int (beInt k v ++ l) off n = int l (off - k) n := by
  rw [int_skip _ _ _ (by simpa using h), beInt_length]

@[simp] theorem nat_be_front {n v : Nat} (l : List Byte) (h : Sys2Proof.fits n v = true) : nat (be n v ++ l) 0 n = v := by
  have hl : (be n v ++ l).take n = be n v := by rw [List.take_append_of_le_length (by simp), List.take_of_length_le (by simp)]
  rw [nat, field, List.drop_zero, hl]
  exact ofBe_be (by simpa [Sys2Proof.fits] using h)

@[simp] theorem int_beInt_front {n : Nat} {v : Int} (l : List Byte) (h : fitsInt n v = true) : int (beInt n v ++ l) 0 n = v := by
  have hl : (beInt n v ++ l).take n = beInt n v := by
    rw [List.take_append_of_le_length (by simp), List.take_of_length_le (by simp)]
  rw [int, field, List.drop_zero, hl]
  exact ofBeInt_beInt h

@[simp] theorem nat_be_whole {n v : Nat} (h : Sys2Proof.fits n v = true) : nat (be n v) 0 n = v := by
  simpa using nat_be_front [] h

@[simp] theorem int_beInt_whole {n : Nat} {v : Int} (h : fitsInt n v = true) : int (beInt n v) 0 n = v := by
  simpa using int_beInt_front [] h

/-! ### Enumeration fields (log entry 12) -/

theorem fits_code {α : Type} (f : α → Nat) (hf : ∀ a, f a < 256) (o : Option α) : Sys2Proof.fits 1 (codeOr f o) = true := by
  cases o with
  | none => rfl
  | some a => simpa [Sys2Proof.fits, codeOr] using hf a

@[simp] theorem fits_channel (o : Option Channel) : Sys2Proof.fits 1 (codeOr channelCode o) = true :=
  fits_code _ (fun a => by cases a <;> decide) o
@[simp] theorem fits_yesNo (o : Option Bool) : Sys2Proof.fits 1 (codeOr yesNoCode o) = true :=
  fits_code _ (fun a => by cases a <;> decide) o
@[simp] theorem fits_quantity (o : Option Quantity) : Sys2Proof.fits 1 (codeOr quantityCode o) = true :=
  fits_code _ (fun a => by cases a <;> decide) o
@[simp] theorem fits_severity (o : Option Severity) : Sys2Proof.fits 1 (codeOr severityCode o) = true :=
  fits_code _ (fun a => by cases a <;> decide) o
@[simp] theorem fits_level (o : Option Level) : Sys2Proof.fits 1 (codeOr levelRank o) = true :=
  fits_code _ (fun a => by cases a <;> decide) o
@[simp] theorem fits_method (o : Option Method) : Sys2Proof.fits 1 (codeOr methodCode o) = true :=
  fits_code _ (fun a => by cases a <;> decide) o
@[simp] theorem fits_section (o : Option SettingsSection) : Sys2Proof.fits 1 (codeOr sectionCode o) = true :=
  fits_code _ (fun a => by cases a <;> decide) o
@[simp] theorem fits_recordKind (k : RecordKind) : Sys2Proof.fits 1 (recordKindCode k) = true := by cases k <;> rfl
@[simp] theorem fits_noName : Sys2Proof.fits 1 noName = true := rfl

@[simp] theorem channelOf_code (o : Option Channel) : channelOf (codeOr channelCode o) = o := by
  cases o with | none => rfl | some a => cases a <;> rfl
@[simp] theorem yesNo_code (o : Option Bool) : yesNo (codeOr yesNoCode o) = o := by
  cases o with | none => rfl | some a => cases a <;> rfl
@[simp] theorem quantityOf_code (o : Option Quantity) : quantityOf (codeOr quantityCode o) = o := by
  cases o with | none => rfl | some a => cases a <;> rfl
@[simp] theorem severityOf_code (o : Option Severity) : severityOf (codeOr severityCode o) = o := by
  cases o with | none => rfl | some a => cases a <;> rfl
@[simp] theorem levelOf_code (o : Option Level) : levelOf (codeOr levelRank o) = o := by
  cases o with | none => rfl | some a => cases a <;> rfl
@[simp] theorem methodOf_code (o : Option Method) : methodOf (codeOr methodCode o) = o := by
  cases o with | none => rfl | some a => cases a <;> rfl
@[simp] theorem sectionOf_code (o : Option SettingsSection) : sectionOf (codeOr sectionCode o) = o := by
  cases o with | none => rfl | some a => cases a <;> rfl
@[simp] theorem recordKindOf_code (k : RecordKind) : recordKindOf (recordKindCode k) = some k := by cases k <;> rfl

/-! ### Points and verticals -/

@[simp] theorem writePoint_length (q : RatingPoint) : (writePoint q).length = 6 := by simp [writePoint]
@[simp] theorem writeVertical_length (v : VerticalFields) : (writeVertical v).length = 7 := by simp [writeVertical]

theorem readPoint_skip (a l : List Byte) {off : Nat} (h : a.length ≤ off) : readPoint (a ++ l) off = readPoint l (off - a.length) := by
  rw [readPoint, readPoint, int_skip a l 2 h, nat_skip a l 4 (by omega), Nat.sub_add_comm h]

theorem readPoint_front {q : RatingPoint} (l : List Byte) (hs : fitsInt 2 q.stage = true) (hd : Sys2Proof.fits 4 q.discharge = true) :
    readPoint (writePoint q ++ l) 0 = q := by
  simp [readPoint, writePoint, hs, hd]

theorem readVertical_skip (a l : List Byte) {off : Nat} (h : a.length ≤ off) :
    readVertical (a ++ l) off = readVertical l (off - a.length) := by
  simp only [readVertical, nat_skip a l 3 h, nat_skip a l 1 (show a.length ≤ off + 3 by omega),
    nat_skip a l 1 (show a.length ≤ off + 4 by omega), nat_skip a l 2 (show a.length ≤ off + 5 by omega), Nat.sub_add_comm h]

theorem readVertical_front {v : VerticalFields} (l : List Byte) (hd : Sys2Proof.fits 3 v.distance = true)
    (he : Sys2Proof.fits 1 v.exposure = true) (hg : Sys2Proof.fits 2 v.edgeDepth = true) :
    readVertical (writeVertical v ++ l) 0 = v := by
  simp [readVertical, writeVertical, hd, he, hg]

/-- Entries of one width, written one after another, read back one after another. -/
theorem map_read_flatMap {α : Type} (write : α → List Byte) (read : List Byte → Nat → α) (width : Nat)
    (hskip : ∀ a l off, width ≤ off → read (write a ++ l) off = read l (off - width))
    (good : α → Prop) (hfront : ∀ a l, good a → read (write a ++ l) 0 = a) (l : List α) (h : ∀ a ∈ l, good a) :
    (List.range l.length).map (fun i => read (l.flatMap write) (width * i)) = l := by
  induction l with
  | nil => rfl
  | cons a l ih =>
    rw [List.length_cons, List.range_succ_eq_map, List.map_cons, List.map_map, List.flatMap_cons]
    have hrest : ∀ i, read (write a ++ l.flatMap write) (width * (i + 1)) = read (l.flatMap write) (width * i) := fun i => by
      rw [hskip _ _ _ (Nat.le_mul_of_pos_right _ (by omega)), Nat.mul_add_one, Nat.add_sub_cancel]
    rw [Nat.mul_zero, hfront a _ (h a (by simp))]
    refine congrArg (a :: ·) (Eq.trans (List.map_congr_left fun i _ => hrest i) (ih fun b hb => h b (by simp [hb])))

theorem flatMap_length {α : Type} (write : α → List Byte) (width : Nat) (hw : ∀ a, (write a).length = width) (l : List α) :
    (l.flatMap write).length = width * l.length := by
  induction l with
  | nil => simp
  | cons a l ih => rw [List.flatMap_cons, List.length_append, hw, ih, List.length_cons]; ring

theorem readRating_payload (f : RatingFields) (h : f.fits = true) :
    readRating (be 4 f.effective ++ be 1 f.points.length ++ f.points.flatMap writePoint) = some f := by
  simp only [RatingFields.fits, Bool.and_eq_true, decide_eq_true_eq, List.all_eq_true] at h
  obtain ⟨⟨he, hlen⟩, hp⟩ := h
  have hcount : Sys2Proof.fits 1 f.points.length = true := by simp only [Sys2Proof.fits, decide_eq_true_eq]; omega
  have hw := flatMap_length writePoint 6 writePoint_length f.points
  have hpoints : ∀ i, readPoint (be 4 f.effective ++ (be 1 f.points.length ++ f.points.flatMap writePoint)) (5 + 6 * i) =
      readPoint (f.points.flatMap writePoint) (6 * i) := fun i => by
    rw [readPoint_skip _ _ (by simp; omega), readPoint_skip _ _ (by simp; omega)]
    congr 1
    simp
    omega
  have hmap := map_read_flatMap writePoint readPoint 6
    (fun a l off ho => by rw [readPoint_skip _ _ (by simpa using ho), writePoint_length])
    (fun q => fitsInt 2 q.stage = true ∧ Sys2Proof.fits 4 q.discharge = true)
    (fun a l ha => readPoint_front l ha.1 ha.2) f.points hp
  simp only [readRating, List.append_assoc, List.length_append, be_length, hw, nat_be_skip, nat_be_front, he, hcount, hpoints,
    Nat.reduceLeDiff, Nat.reduceSub, hmap]
  rw [if_pos (by simp; omega)]

theorem readPlan_payload (f : PlanFields) (h : f.fits = true) :
    readPlan (be 2 f.a ++ be 1 f.b ++ be 1 f.verticals.length ++ f.verticals.flatMap writeVertical) = some f := by
  simp only [PlanFields.fits, Bool.and_eq_true, decide_eq_true_eq, List.all_eq_true] at h
  obtain ⟨⟨⟨ha, hb⟩, hlen⟩, hp⟩ := h
  have hcount : Sys2Proof.fits 1 f.verticals.length = true := by simp only [Sys2Proof.fits, decide_eq_true_eq]; omega
  have hw := flatMap_length writeVertical 7 writeVertical_length f.verticals
  have hverticals : ∀ i,
      readVertical (be 2 f.a ++ (be 1 f.b ++ (be 1 f.verticals.length ++ f.verticals.flatMap writeVertical))) (4 + 7 * i) =
        readVertical (f.verticals.flatMap writeVertical) (7 * i) := fun i => by
    rw [readVertical_skip _ _ (by simp; omega), readVertical_skip _ _ (by simp; omega), readVertical_skip _ _ (by simp; omega)]
    congr 1
    simp
    omega
  have hmap := map_read_flatMap writeVertical readVertical 7
    (fun a l off ho => by rw [readVertical_skip _ _ (by simpa using ho), writeVertical_length])
    (fun v => (Sys2Proof.fits 3 v.distance = true ∧ Sys2Proof.fits 1 v.exposure = true) ∧ Sys2Proof.fits 2 v.edgeDepth = true)
    (fun a l ha => readVertical_front l ha.1.1 ha.1.2 ha.2) f.verticals hp
  simp only [readPlan, List.append_assoc, List.length_append, be_length, hw, nat_be_skip, nat_be_front, ha, hb, hcount,
    hverticals, Nat.reduceLeDiff, Nat.reduceSub, hmap]
  rw [if_pos (by simp; omega)]

/-! ### The payload of each kind -/

/-- A request whose fields fit reads back from its payload. -/
theorem parseRequest_payload (r : Request) (l : List Byte) (hf : r.fits = true) (h : requestPayload r = some l) :
    parseRequest (requestCode r) l = some r ∧ l.length ≤ 576 := by
  cases r
  case abortRun | acquireNow | claimCableway | clearFault | enterHold | fixDatum | forceClaim | freezeRating | holdAlive |
      leaveHold | readDescriptor | releaseCableway | resume | startRun | status =>
    simp only [requestPayload, Option.ite_none_right_eq_some, Option.some.injEq] at h
    obtain ⟨rfl, rfl⟩ := h
    exact ⟨rfl, by simp⟩
  all_goals
    simp only [requestPayload, Option.map_eq_some_iff] at h
    obtain ⟨f, rfl, rfl⟩ := h
  case commitRating =>
    refine ⟨congrArg (fun o => some (Request.commitRating o)) (readRating_payload f hf), ?_⟩
    simp only [Request.fits, fitsOpt, RatingFields.fits, Bool.and_eq_true, decide_eq_true_eq] at hf
    have hw := flatMap_length writePoint 6 writePoint_length f.points
    simp only [List.length_append, be_length, hw]
    omega
  case loadPlan =>
    refine ⟨congrArg (fun o => some (Request.loadPlan o)) (readPlan_payload f hf), ?_⟩
    simp only [Request.fits, fitsOpt, PlanFields.fits, Bool.and_eq_true, decide_eq_true_eq] at hf
    have hw := flatMap_length writeVertical 7 writeVertical_length f.verticals
    simp only [List.length_append, be_length, hw]
    omega
  case readArchive =>
    obtain ⟨start, count, filter⟩ := f
    simp only [Request.fits, fitsOpt, Bool.and_eq_true] at hf
    obtain ⟨hs, hc⟩ := hf
    cases filter <;> simp [parseRequest, requestCode, readArchiveFields, hs, hc]
    rfl
  case readSettings =>
    obtain ⟨part, slot⟩ := f
    cases slot with
    | none => simp [parseRequest, requestCode, readSettingsFields]
    | some n =>
      have hn : Sys2Proof.fits 1 n = true := hf
      simp [parseRequest, requestCode, readSettingsFields, hn]
  all_goals
    simp only [Request.fits, fitsOpt, AcqSettings.fits, CablewaySettings.fits, ChannelFields.fits, ThresholdFields.fits,
      Bool.and_eq_true] at hf
    simp [parseRequest, requestCode, sizedAs, readChannel, readAcquisition, readThreshold, readCableway, hf]

/-! ### The message -/

theorem requestCode_range (r : Request) : 1 ≤ requestCode r ∧ requestCode r ≤ 37 := by cases r <;> simp [requestCode]

theorem be_two (n : Nat) (h : n < 65536) : ∃ a b : Byte, be 2 n = [a, b] ∧ n = 256 * a.toNat + b.toNat := by
  refine ⟨BitVec.ofNat 8 (n / 256), BitVec.ofNat 8 n, by simp [be], ?_⟩
  simp only [BitVec.toNat_ofNat]
  omega

@[simp] theorem Character.sound_of (b : Byte) : (Character.of b).sound = true := by simp [Character.of, Character.sound]

@[simp] theorem Character.data_of (b : Byte) : (Character.of b).data = b := rfl

theorem map_data_of (l : List Byte) : (l.map Character.of).map (·.data) = l := by
  rw [List.map_map]
  exact List.map_id'' (fun b => rfl) l

/-- A request whose fields fit, whole. -/
theorem Inbound.ofMessage_payload (r : Request) (tag : Byte) (l : List Byte) (hf : r.fits = true) (h : requestPayload r = some l) :
    Inbound.ofMessage (BitVec.ofNat 8 (requestCode r)) tag l = .request tag r := by
  have hcode : (BitVec.ofNat 8 (requestCode r)).toNat = requestCode r := by
    have := (requestCode_range r).2
    simp only [BitVec.toNat_ofNat]
    omega
  simp [Inbound.ofMessage, hcode, (parseRequest_payload r l hf h).1]

/-- Settles O4: kind by kind, the payload reads back; and the message around it is judged by its own check. -/
theorem requestsReadBackFromTheirBytes : Obligations.RequestsReadBackFromTheirBytes := by
  intro r tag l hf h
  have hlen := (parseRequest_payload r l hf h).2
  have hmsg := Inbound.ofMessage_payload r tag l hf h
  obtain ⟨a, b, hab, hn⟩ := be_two l.length (by omega)
  have hcode : BitVec.ofNat 8 (requestCode r) ≠ 255#8 := by
    have := (requestCode_range r).2
    intro hc
    have := congrArg BitVec.toNat hc
    simp only [BitVec.toNat_ofNat] at this
    omega
  generalize BitVec.ofNat 8 (requestCode r) = code at hmsg hcode ⊢
  have hm : message code tag l = code :: tag :: a :: b :: (l ++ crc (code :: tag :: a :: b :: l) :: []) := by simp [message, hab]
  refine ⟨hlen, ?_, ?_⟩
  · rw [hm, Inbound.judge_message code tag a b _ l [] hcode hn hlen, if_pos rfl, hmsg]
  · rw [hm]
    simp only [List.map_cons, List.map_append, List.map_nil]
    rw [Inbound.judgeLine_message _ _ _ _ _ _ _ (by simpa using hn) (by simpa using hlen), if_pos, map_data_of]
    · exact hmsg
    · have hdata : ((Character.of code) :: (Character.of tag) :: (Character.of a) :: (Character.of b) :: l.map Character.of).map
          (·.data) = code :: tag :: a :: b :: l := map_data_of (code :: tag :: a :: b :: l)
      rw [hdata]
      simp

end Sys2Proof.Machine
end

section
/-! SUPPORT. The bytes of what the part sends and stores: fields, flags, the status summary, page headers, records and pages, and the
bodies of the records (R200, R201, R202). -/

namespace Sys2Proof.Machine

/-! ### Numbers and flags (R200) -/

theorem be_getElem? (n v k : Nat) (h : k < n) : (be n v)[k]? = some (BitVec.ofNat 8 (v / 256 ^ (n - 1 - k))) := by
  induction n generalizing k with
  | zero => omega
  | succ n ih =>
    cases k with
    | zero => simp [be]
    | succ k =>
      have he : n - (k + 1) = n - 1 - k := by omega
      simpa [be, he] using ih k (by omega)

theorem beInt_of_nonneg (n k : Nat) (h : 2 * k < 256 ^ n) : beInt n k = be n k := by
  have hk : ((k : Int) % (256 ^ n : Nat)) = k := Int.emod_eq_of_lt (by omega) (by omega)
  rw [beInt, hk, Int.toNat_natCast]

theorem beInt_of_neg (n k : Nat) (h0 : 0 < k) (h : 2 * k ≤ 256 ^ n) : beInt n (-(k : Int)) = be n (256 ^ n - k) := by
  have hk : (-(k : Int)) % (256 ^ n : Nat) = ((256 ^ n - k : Nat) : Int) := by
    rw [← Int.add_emod_right]
    exact (Int.emod_eq_of_lt (by omega) (by omega)).trans (by omega)
  rw [beInt, hk, Int.toNat_natCast]

theorem flagCode_le (b : Bool) : flagCode b ≤ 1 := by cases b <;> simp [flagCode]

theorem bits_cons (b : Bool) (l : List Bool) : bits (b :: l) = flagCode b + 2 * bits l := rfl

theorem bits_nil : bits [] = 0 := rfl

theorem bits_testBit (l : List Bool) (i : Nat) : (bits l).testBit i = l.getD i false := by
  induction l generalizing i with
  | nil => simp [bits]
  | cons b l ih =>
    rw [bits_cons]
    cases i with
    | zero => cases b <;> simp [flagCode, Nat.testBit_zero]
    | succ i =>
      have hdiv : (flagCode b + 2 * bits l) / 2 = bits l := by have := flagCode_le b; omega
      simpa [Nat.testBit_succ, hdiv] using ih i

/-- A byte of flags and numbers shows the flag that stands at a bit of it. -/
theorem getLsbD_flag {x n : Nat} {b : Bool} (hn : n < 8) (h : x / 2 ^ n % 2 = flagCode b) : (BitVec.ofNat 8 x).getLsbD n = b := by
  rw [BitVec.getLsbD_ofNat, Nat.testBit_eq_decide_div_mod_eq, h]
  cases b <;> simp [flagCode, hn]

theorem be_one (x : Nat) : be 1 x = [BitVec.ofNat 8 x] := by simp [be]

theorem toNat_byte {x : Nat} (h : x < 256) : (BitVec.ofNat 8 x).toNat = x := by
  rw [BitVec.toNat_ofNat]
  omega

/-- One flag as a byte. -/
theorem be_flag (b : Bool) : be 1 (flagCode b) = [if b then 1#8 else 0#8] := by cases b <;> rfl

theorem bitByte_flag (b : Bool) : bitByte [b] = [if b then 1#8 else 0#8] := by cases b <;> rfl

/-! ### Responses, packets and the status summary (R201) -/

theorem levelRank_le (l : Level) : levelRank l ≤ 3 := by cases l <;> simp [levelRank]
theorem holdStateCode_le (h : HoldState) : holdStateCode h ≤ 2 := by cases h <;> simp [holdStateCode]
theorem coarseCode_le (c : Coarse) : coarseCode c ≤ 6 := by cases c <;> simp [coarseCode]
theorem holderCode_le (p : Option Port) : holderCode p ≤ 2 := by
  unfold holderCode
  split <;> omega
theorem resultStateCode_le (r : ResultState) : resultStateCode r ≤ 2 := by cases r <;> simp [resultStateCode]
theorem healthCode_le (h : ArchiveHealth) : healthCode h ≤ 2 := by cases h <;> simp [healthCode]

theorem SentResponse.bytes_eq (r : SentResponse) : ∀ b, b = payloadBytes r.response.payload →
    ∀ m, m =
        r.summary.bytes ++ [r.response.code, r.response.tag] ++ be 1 (resultCode r.response.result) ++
          [if r.discarded then 1#8 else 0#8] ++ be 2 b.length ++ b →
      r.bytes = m ++ [crc m] := by
  rintro b rfl m rfl
  rw [← bitByte_flag]
  rfl

theorem Packet.bytes_eq (n : Packet) : ∀ b, b = noticeBytes n.body →
    ∀ m, m = [254#8] ++ be 1 (noticeKind n.body) ++ be 4 n.time ++ [if n.overflowed then 1#8 else 0#8] ++ be 2 b.length ++ b →
      n.bytes = m ++ [crc m] := by
  rintro b rfl m rfl
  rw [← be_flag]
  rfl

/-- The four bytes of the status summary, bit by bit. -/
theorem Summary.bytes_bits (m : Summary) (hn : m.notices ≤ 16) :
    ∃ a b c d : Byte, m.bytes = [a, b, c, d] ∧
      a.toNat / 64 = levelRank m.level ∧ a.getLsbD 5 = m.owed ∧ a.getLsbD 4 = m.relay ∧ a.getLsbD 3 = m.silent ∧
      a.toNat / 2 % 4 = holdStateCode m.hold ∧ a.getLsbD 0 = m.first ∧
      b.toNat / 32 = coarseCode m.cableway ∧ b.toNat / 8 % 4 = holderCode m.holder ∧
      b.toNat / 2 % 4 = resultStateCode m.result ∧ b.getLsbD 0 = m.pendingDispositions ∧
      c.toNat / 8 = m.notices ∧ c.toNat / 2 % 4 = healthCode m.archive ∧ c.getLsbD 0 = decide (m.quality = .set) ∧
      d.getLsbD 7 = m.disagree ∧ d.getLsbD 6 = m.frozen ∧ d.getLsbD 5 = m.defaulted ∧ d.toNat % 32 = 0 := by
  have h1 := levelRank_le m.level
  have h2 := holdStateCode_le m.hold
  have h3 := coarseCode_le m.cableway
  have h4 := holderCode_le m.holder
  have h5 := resultStateCode_le m.result
  have h6 := healthCode_le m.archive
  have f1 := flagCode_le m.owed
  have f2 := flagCode_le m.relay
  have f3 := flagCode_le m.silent
  have f4 := flagCode_le m.first
  have f5 := flagCode_le m.pendingDispositions
  have f6 := flagCode_le (decide (m.quality = .set))
  have f7 := flagCode_le m.disagree
  have f8 := flagCode_le m.frozen
  have f9 := flagCode_le m.defaulted
  refine ⟨_, _, _, _, by simp only [Summary.bytes, be_one]; rfl, ?_, getLsbD_flag (by omega) (by omega),
    getLsbD_flag (by omega) (by omega), getLsbD_flag (by omega) (by omega), ?_, getLsbD_flag (by omega) (by omega), ?_, ?_, ?_,
    getLsbD_flag (by omega) (by omega), ?_, ?_, getLsbD_flag (by omega) (by omega), getLsbD_flag (by omega) (by omega),
    getLsbD_flag (by omega) (by omega), getLsbD_flag (by omega) (by omega), ?_⟩ <;>
    rw [toNat_byte (by omega)] <;> omega

/-! ### Page headers (R157, R202) -/

theorem PageHeader.bytes_pass (sequence : Nat) (elevation : Int) (closed retired : Bool) : ∀ m, m = be 4 sequence ++ beInt 4 elevation →
    PageHeader.bytes { sequence := sequence, elevation := elevation, checkOk := true, closed := closed, retiredMark := retired } =
      m ++ [crc m, if closed then 0#8 else 255#8, if retired then 0#8 else 255#8] ++ List.replicate 5 255#8 := by
  rintro m rfl
  cases closed <;> cases retired <;> rfl

theorem PageHeader.bytes_fail (sequence : Nat) (elevation : Int) (closed retired : Bool) : ∀ m, m = be 4 sequence ++ beInt 4 elevation →
    ∃ check, check ≠ crc m ∧
      PageHeader.bytes { sequence := sequence, elevation := elevation, checkOk := false, closed := closed, retiredMark := retired } =
        m ++ [check, if closed then 0#8 else 255#8, if retired then 0#8 else 255#8] ++ List.replicate 5 255#8 := by
  rintro m rfl
  refine ⟨_, PageHeader.check_fails
    { sequence := sequence, elevation := elevation, checkOk := false, closed := closed, retiredMark := retired } rfl, ?_⟩
  cases closed <;> cases retired <;> rfl

/-- The check that erased space would have to hold, which a header that fails it never shows as erased (log entry 16). -/
theorem headerCheck_erased : headerCheck max32 (-1) ≠ 254#8 ∧ headerCheck max32 (-1) ≠ 255#8 := by decide +kernel

/-- A header with a mark or without is never wholly erased. -/
theorem PageHeader.bytes_written (sequence : Nat) (elevation : Int) (closed retired : Bool) (h1 : sequence ≤ 4294967295)
    (h2 : -9999999 ≤ elevation) (h3 : elevation ≤ 9999999) :
    PageHeader.bytes { sequence := sequence, elevation := elevation, checkOk := false, closed := closed, retiredMark := retired } ≠
      List.replicate 16 255#8 := by
  intro h
  generalize hh : ({ sequence := sequence, elevation := elevation, checkOk := false, closed := closed, retiredMark := retired } :
    PageHeader) = x at h
  have hs : be 4 x.sequence = List.replicate 4 255#8 := by
    have := congrArg (List.take 4) h
    simpa [PageHeader.bytes] using this
  have he : beInt 4 x.elevation = List.replicate 4 255#8 := by
    have := congrArg (fun l => (l.drop 4).take 4) h
    simpa [PageHeader.bytes] using this
  have hm : [x.check, markByte x.closed, markByte x.retiredMark] = List.replicate 3 255#8 := by
    have := congrArg (fun l => (l.drop 8).take 3) h
    rw [PageHeader.bytes, List.append_assoc] at this
    simpa [List.drop_left' (l₁ := be 4 x.sequence ++ beInt 4 x.elevation) (show _ = 8 by simp), -List.append_assoc] using this
  obtain ⟨hcheck, hclosed, hretired⟩ : x.check = 255#8 ∧ markByte x.closed = 255#8 ∧ markByte x.retiredMark = 255#8 := by
    simpa using hm
  subst hh
  have hseq : sequence = max32 := by
    have := congrArg ofBe hs
    rw [ofBe_be (by simpa using Nat.lt_succ_of_le h1)] at this
    exact this
  have helev : elevation = -1 := by
    have := congrArg ofBeInt he
    rw [ofBeInt_beInt (by simp [fitsInt]; omega)] at this
    exact this
  have hnotClosed : closed = false := by cases closed <;> simp_all [markByte]
  have hnotRetired : retired = false := by cases retired <;> simp_all [markByte]
  subst hseq helev hnotClosed hnotRetired
  obtain ⟨h254, h255⟩ := headerCheck_erased
  simp only [PageHeader.check, PageHeader.unwritten, decide_true, Bool.and_self, Bool.not_true, Bool.or_self, Bool.false_eq_true,
    if_false] at hcheck
  generalize headerCheck max32 (-1) = pass at *
  generalize Config.failedCheck max32 (-1) = free at hcheck
  have hplus : pass + 1 ≠ 255#8 := fun hc => h254 (by rw [← sub_eq_of_eq_add hc.symm]; rfl)
  rw [failingByte] at hcheck
  by_cases hf : free = 255#8
  · rw [if_pos hf, if_pos rfl] at hcheck
    exact hplus hcheck
  · rw [if_neg hf] at hcheck
    split at hcheck
    · exact hplus hcheck
    · exact hf hcheck

/-! ### Records and pages (R202) -/

theorem recordBytes_eq (r : Record) (index time : Nat) :
    ∀ m, m = be 1 (recordKindCode r.kind) ++ be 2 (12 + r.body.length) ++ be 4 index ++ be 4 time →
      recordBytes r index time = m ++ [crc (m ++ r.body)] ++ r.body := by
  rintro m rfl
  rfl

/-- A record that fails its check shows a kind, a length and a check byte that does not pass over that length. -/
theorem damagedBytes_spec (free rest : List Byte) (h : 12 ≤ free.length) : ∀ l, l = damagedBytes free rest ++ rest →
    ∃ kind high low check : Byte, l[0]? = some kind ∧ l[1]? = some high ∧ l[2]? = some low ∧ l[11]? = some check ∧
      kind ≠ 255#8 ∧ check ≠ crc ((l.take (256 * high.toNat + low.toNat)).eraseIdx 11) := by
  rintro l rfl
  generalize hb : free.set 0 (if free[0]? = some 0xFF#8 then 0x00#8 else (free[0]?).getD 0) = b
  have hlen : b.length = free.length := by rw [← hb, List.length_set]
  have hkind : ∃ kind, b[0]? = some kind ∧ kind ≠ 255#8 := by
    refine ⟨_, by rw [← hb, List.getElem?_set_self (by omega)], ?_⟩
    obtain ⟨k, hk⟩ : ∃ k, free[0]? = some k := ⟨_, List.getElem?_eq_getElem (by omega)⟩
    rw [hk]
    split
    · decide
    · simp_all
  obtain ⟨kind, hk, hk255⟩ := hkind
  obtain ⟨high, hhigh⟩ : ∃ k, b[1]? = some k := ⟨_, List.getElem?_eq_getElem (by omega)⟩
  obtain ⟨low, hlow⟩ : ∃ k, b[2]? = some k := ⟨_, List.getElem?_eq_getElem (by omega)⟩
  have hfield : lengthField b = 256 * high.toNat + low.toNat := by
    simp [lengthField, hhigh, hlow, Nat.mul_comm]
  have hset : damagedBytes free rest ++ rest =
      (b ++ rest).set 11 (failingByte ((b[11]?).getD 0) (checkOf ((b ++ rest).take (256 * high.toNat + low.toNat)))) := by
    rw [damagedBytes, hb, hfield, List.set_append_left _ _ (by omega)]
  have hget : ∀ i, i < 11 → (damagedBytes free rest ++ rest)[i]? = b[i]? := fun i hi => by
    rw [hset, List.getElem?_set_ne (by omega), List.getElem?_append_left (by omega)]
  refine ⟨kind, high, low, _, (hget 0 (by omega)).trans hk, (hget 1 (by omega)).trans hhigh, (hget 2 (by omega)).trans hlow,
    by rw [hset, List.getElem?_set_self (by simp; omega)], hk255, ?_⟩
  rw [hset, List.take_set, List.eraseIdx_set_eq]
  exact failingByte_ne _ _

/-- A page of records: its header, its records and its erased space. -/
theorem Page.bytes_spec (p : Page) : ∀ used, used = 16 + (p.records.map (fun r => r.record.length)).sum → used ≤ 4096 →
    p.bytes.length = 4096 ∧ p.bytes.take 16 = p.headerBytes ∧ (p.header = none → p.headerBytes = List.replicate 16 255#8) ∧
    p.bytes.drop used = List.replicate (4096 - used) 255#8 ∧
    ∀ before r after, p.records = before ++ r :: after →
      ∀ l, l = p.bytes.drop (16 + (before.map (fun r => r.record.length)).sum) →
      (r.intact = true → l.take r.record.length = recordBytes r.record r.index r.time) ∧
      (r.intact = false →
        ∃ kind high low check : Byte, l[0]? = some kind ∧ l[1]? = some high ∧ l[2]? = some low ∧ l[11]? = some check ∧
          kind ≠ 255#8 ∧ check ≠ crc ((l.take (256 * high.toNat + low.toNat)).eraseIdx 11)) := by
  intro used hu hle
  generalize hseq : (p.header.map (·.sequence)).getD 0 = sequence
  have hbytes : p.bytes = p.headerBytes ++ recordsBytes sequence 16 p.records := by rw [Page.bytes, hseq]
  have hdrop : ∀ a b : List StoredRecord, p.records = a ++ b →
      p.bytes.drop (16 + (a.map (fun r => r.record.length)).sum) =
        recordsBytes sequence (16 + (a.map (fun r => r.record.length)).sum) b := fun a b hab => by
    rw [hbytes, hab, ← List.drop_drop, List.drop_left' p.headerBytes_length, recordsBytes_drop]
  refine ⟨?_, ?_, fun h => by simp [Page.headerBytes, h], ?_, fun before r after hr l hl => ?_⟩
  · rw [hbytes, List.length_append, p.headerBytes_length, recordsBytes_length]
    omega
  · rw [hbytes, List.take_left' p.headerBytes_length]
  · have := hdrop p.records [] (by simp)
    rw [← hu] at this
    exact this
  · rw [hdrop before (r :: after) hr] at hl
    subst hl
    have hlength : 12 ≤ r.record.length := by unfold Record.length; omega
    refine ⟨fun hi => ?_, fun hi => ?_⟩
    · rw [recordsBytes, if_pos hi, List.take_left' (recordBytes_length _ _ _)]
    · rw [recordsBytes, if_neg (by simp [hi])]
      exact damagedBytes_spec _ _ (by simpa using hlength) _ rfl

/-! ### Record bodies (R202) -/

theorem causeCode_le (c : EndCause) : causeCode c ≤ 7 := by cases c <;> simp [causeCode]
theorem dispositionCode_le (d : Disposition) : dispositionCode d ≤ 3 := by cases d <;> simp [dispositionCode]
theorem deadlineCode_le (d : DeadlineState) : deadlineCode d ≤ 2 := by cases d <;> simp [deadlineCode]
theorem methodCode_le (m : Method) : methodCode m ≤ 2 := by cases m <;> simp [methodCode]

theorem obsBody_spec (o : Observation) : (Record.obs o).body.length = 19 ∧ (Record.obs o).body =
    be 4 o.number ++ bitByte [decide (o.quality = .set), o.range, o.disagree, o.manual] ++
      bitByte [o.stage.isSome, o.rate.isSome, o.discharge.isSome, o.ratingId.isSome] ++ beInt 2 (o.stage.getD 0) ++
      be 1 ((o.source.map sourceCode).getD 0) ++ beInt 2 (o.rate.getD 0) ++ be 4 (o.discharge.getD 0) ++
      bitByte [o.flags.belowRating, o.flags.aboveRating, o.flags.saturated, o.flags.noRating, o.flags.stageClamped] ++
      be 1 (o.ratingId.getD 0) ++ beInt 2 (o.shift.getD 0) :=
  ⟨by simp [Record.body, obsBody, bitByte, beOpt, beIntOpt], rfl⟩

theorem gaugingBody_spec (g : GaugingRecord) : ∃ b : Byte, b.getLsbD 7 = decide (g.holdPort = .F) ∧
    b.toNat / 16 % 8 = causeCode g.cause ∧ b.toNat % 16 = dispositionCode g.disposition ∧ (Record.gauging g).body =
      be 2 g.id ++ [b] ++ be 4 g.startTime ++ beInt 4 g.elevation ++ be 2 g.a ++ be 1 g.b ++
        bitByte [g.qMeas.isSome, g.height.isSome, g.qRated.isSome, g.ratingId.isSome, g.percent.isSome, g.candidate.isSome] ++
        bitByte [g.ratedFlags.belowRating, g.ratedFlags.aboveRating, g.ratedFlags.saturated, g.ratedFlags.noRating,
          g.ratedFlags.stageClamped] ++
        be 2 (bits [g.flags.incompleteSection, g.flags.skippedVerticals, g.flags.qSaturated, g.flags.manualHeight,
          g.flags.seriesShort, g.flags.timeChanged, g.flags.pctClamped, g.flags.shiftClamped, g.flags.notArchived]) ++
        be 4 (g.qMeas.getD 0) ++ beInt 2 (g.height.getD 0) ++ be 4 (g.qRated.getD 0) ++ be 1 (g.ratingId.getD 0) ++
        beInt 2 (g.shift.getD 0) ++ beInt 3 (g.percent.getD 0) ++ beInt 2 (g.candidate.getD 0) ++
        be 5 (bits ((List.range 40).map (fun i => g.results.any (fun v => v.index = i + 1)))) ++
        g.results.flatMap verticalEntry := by
  have h1 := causeCode_le g.cause
  have h2 := dispositionCode_le g.disposition
  have f := flagCode_le (decide (g.holdPort = .F))
  refine ⟨BitVec.ofNat 8 (128 * flagCode (decide (g.holdPort = .F)) + 16 * causeCode g.cause + dispositionCode g.disposition),
    getLsbD_flag (by omega) (by omega), ?_, ?_, by rw [← be_one]; rfl⟩ <;>
    rw [toNat_byte (by omega)] <;> omega

theorem verticalEntry_spec (v : VerticalResult) : ∃ b : Byte, b.toNat % 4 = methodCode v.method ∧ b.getLsbD 2 = v.flags.dry ∧
    b.getLsbD 3 = v.flags.skipped ∧ b.getLsbD 4 = v.flags.methodChanged ∧ b.getLsbD 5 = v.flags.depthLimited ∧
    b.getLsbD 6 = v.flags.countSaturated ∧ b.getLsbD 7 = v.flags.velocityClamped ∧
    (v.flags.skipped = true → verticalEntry v = be 3 v.distance ++ [b]) ∧
    (v.flags.skipped = false → v.method = .edge → verticalEntry v = be 3 v.distance ++ [b] ++ be 2 (v.depth.getD 0)) ∧
    (v.flags.skipped = false → v.method ≠ .edge → v.flags.dry = true →
      verticalEntry v = be 3 v.distance ++ [b] ++ be 2 (v.depth.getD 0) ++ be 2 (v.velocity.getD 0)) ∧
    (v.flags.skipped = false → v.method ≠ .edge → v.flags.dry = false →
      verticalEntry v =
        be 3 v.distance ++ [b] ++ be 2 (v.depth.getD 0) ++ be 2 (v.velocity.getD 0) ++ be 1 v.exposure ++
          v.counts.flatMap (fun c => be 2 c.n)) := by
  have h1 := methodCode_le v.method
  have f1 := flagCode_le v.flags.dry
  have f2 := flagCode_le v.flags.skipped
  have f3 := flagCode_le v.flags.methodChanged
  have f4 := flagCode_le v.flags.depthLimited
  have f5 := flagCode_le v.flags.countSaturated
  have f6 := flagCode_le v.flags.velocityClamped
  generalize hx : methodCode v.method + 4 * bits [v.flags.dry, v.flags.skipped, v.flags.methodChanged, v.flags.depthLimited,
    v.flags.countSaturated, v.flags.velocityClamped] = x
  have hentry : verticalEntry v = be 3 v.distance ++ [BitVec.ofNat 8 x] ++
      (if v.flags.skipped then []
        else if v.method = .edge then beOpt 2 v.depth
        else if v.flags.dry then beOpt 2 v.depth ++ beOpt 2 v.velocity
        else beOpt 2 v.depth ++ beOpt 2 v.velocity ++ be 1 v.exposure ++ v.counts.flatMap (fun c => be 2 c.n)) := by
    rw [← be_one, ← hx]
    rfl
  simp only [bits_cons, bits_nil] at hx
  refine ⟨BitVec.ofNat 8 x, ?_, getLsbD_flag (by omega) (by omega), getLsbD_flag (by omega) (by omega),
    getLsbD_flag (by omega) (by omega), getLsbD_flag (by omega) (by omega), getLsbD_flag (by omega) (by omega),
    getLsbD_flag (by omega) (by omega), fun hs => ?_, fun hs hm => ?_, fun hs hm hd => ?_, fun hs hm hd => ?_⟩
  · rw [toNat_byte (by omega)]
    omega
  · simp [hentry, hs]
  · simp [hentry, hs, hm, beOpt]
  · simp [hentry, hs, hm, hd, beOpt]
  · simp [hentry, hs, hm, hd, beOpt]

theorem levelBody_spec (l : LevelBody) : ∃ b : Byte, b.toNat / 64 = levelRank l.level ∧ b.getLsbD 5 = l.owed ∧
    b.toNat / 8 % 4 = deadlineCode l.deadline ∧ b.getLsbD 2 = l.silent ∧ b.getLsbD 1 = l.relay ∧ b.getLsbD 0 = false ∧
    (Record.level l).body =
      [BitVec.ofNat 8 (levelEventCode l.event), b] ++
        bitByte [l.active.t1, l.active.t2, l.active.t3, l.active.t4, l.active.t5, l.active.t6, l.active.t7, l.active.t8] ++
        be 4 (l.firstTime.getD 0) ++ levelTail l.event := by
  have h1 := levelRank_le l.level
  have h2 := deadlineCode_le l.deadline
  have f1 := flagCode_le l.owed
  have f2 := flagCode_le l.silent
  have f3 := flagCode_le l.relay
  refine ⟨BitVec.ofNat 8 (64 * levelRank l.level + 32 * flagCode l.owed + 8 * deadlineCode l.deadline + 4 * flagCode l.silent
    + 2 * flagCode l.relay), ?_, getLsbD_flag (by omega) (by omega), ?_, getLsbD_flag (by omega) (by omega),
    getLsbD_flag (by omega) (by omega), getLsbD_flag (by omega) (by simp only [flagCode, Bool.false_eq_true, if_false]; omega), ?_⟩
  · rw [toNat_byte (by omega)]
    omega
  · rw [toNat_byte (by omega)]
    omega
  · show levelBody l = _
    simp only [levelBody, be_one]
    rfl

theorem gapBody_spec (g : GapBody) :
    (g.obsCount ≠ 0 → (Record.gap g).body = be 2 g.obsCount ++ be 4 g.first ++ be 4 g.last ++ be 2 g.others) ∧
      (g.obsCount = 0 → (Record.gap g).body = List.replicate 10 0#8 ++ be 2 g.others) := by
  refine ⟨fun h => ?_, fun h => ?_⟩ <;> simp only [Record.body, gapBody, h, if_true, if_false]
  rfl

/-- Settles O5: by the bytes of each field and body, and by evaluating the messages written out. -/
theorem messagesWrittenOutAreJudged : Obligations.MessagesWrittenOutAreJudged := by
  refine ⟨by decide +kernel, by decide +kernel, by decide +kernel, by decide +kernel, by decide +kernel, by decide +kernel,
    fun n v k => ⟨be_length n v, be_getElem? n v k⟩, fun n k => ⟨beInt_of_nonneg n k, beInt_of_neg n k⟩,
    fun l i => ⟨bits_testBit l i, rfl⟩, rfl, rfl, rfl, rfl, rfl, rfl, rfl, rfl, rfl, rfl, rfl, rfl, rfl, rfl, rfl, rfl, rfl,
    fun b => by cases b <;> rfl, SentResponse.bytes_eq, Packet.bytes_eq, Summary.bytes_bits, fun _ _ _ => rfl,
    fun _ _ _ _ _ => rfl, PageHeader.bytes_pass, ?_, Page.bytes_spec, recordBytes_eq, obsBody_spec, gaugingBody_spec,
    verticalEntry_spec, ?_, gapBody_spec, ?_, by decide +kernel, by decide +kernel, by decide +kernel, by decide +kernel,
    by decide +kernel, by decide +kernel⟩
  · rintro sequence elevation closed retired h1 h2 h3 h4 m hm b rfl
    exact ⟨PageHeader.bytes_written sequence elevation closed retired h2 h3 h4,
      PageHeader.bytes_fail sequence elevation closed retired m hm⟩
  · intro l
    obtain ⟨b, h1, h2, h3, h4, h5, h6, hbody⟩ := levelBody_spec l
    refine ⟨b, h1, h2, h3, h4, h5, h6, _, _, hbody, ?_⟩
    obtain ⟨event, level, active, owed, firstTime, deadline, silent, relay⟩ := l
    rcases event with ⟨previous, cause⟩ | ⟨p, named⟩ | _ | _ | _
    · cases cause <;> exact ⟨rfl, rfl⟩
    all_goals exact ⟨rfl, rfl⟩
  · rintro m rfl
    exact ⟨by decide +kernel, by decide +kernel⟩

end Sys2Proof.Machine
end

section
/-! SUPPORT. The requests that change a setting, the rating store, the datum, the shift table or a disposition, each refused by its
checks or answered with its write and its record (R2, R32, R46 to R51, R54, R61 to R66, R101, R103, R154, R155). -/

namespace Sys2Proof.Machine

/-! ### Commands that write or record -/

/-- What an operation beside the ports leaves of the other blocks. -/
theorem SameBlocks.of_ports {b u : State} (h : u = { b with ports := u.ports }) : SameBlocks b u := by
  rw [h]
  exact ⟨rfl, rfl, rfl, rfl, rfl, rfl, rfl, rfl, rfl, rfl, rfl, rfl, rfl⟩

/-- A command carries a request of a code that its port takes and allows, heard in a state. -/
structure Accepted (i : Instr) (s : State) (p : Port) (tag : Byte) (r : Request) (code : Nat) (h : State) : Prop where
  sent : i.sent = some (p, tag, r)
  heard : (s.sampled i).heard p = h
  code : requestCode r = code
  takes : s.takes p = true
  permitted : permitted p r = true

section Accepted

variable {i : Instr} {s h u b : State} {p : Port} {tag : Byte} {r : Request} {code : Nat} {res : Result} {a : Payload} {d : WriteData}
  {rec : Record} {st : Bool}

/-- Such a command is its owner's operation in the state where the slot has just become OWED. -/
theorem Accepted.exec_eq (acc : Accepted i s p tag r code h) :
    exec i s = .next ((h.occupy p (BitVec.ofNat 8 code) tag).toOwner p r).settle := by
  rw [exec_permitted i p tag r s acc.sent acc.takes acc.permitted, State.owing, acc.heard, acc.code]

theorem taken_of_ports (hu : u.ports = (h.occupy p (BitVec.ofNat 8 code) tag).ports) : Taken h u p code tag :=
  (taken_occupy h p code tag).of_ports hu

/-- Its owner changes what it changes beside the ports, and answers at once. -/
theorem Accepted.answers (acc : Accepted i s p tag r code h)
    (ho : (h.occupy p (BitVec.ofNat 8 code) tag).toOwner p r = u.answer p res a)
    (hu : u.ports = (h.occupy p (BitVec.ofNat 8 code) tag).ports) (hb : SameBlocks b u) :
    ∃ t, exec i s = .next t ∧ Answered t p code tag res a ∧ SamePorts h t p ∧ SameBlocks b t := by
  obtain ⟨h1, h2, h3⟩ := (taken_of_ports hu).answer hb res a
  exact ⟨_, by rw [acc.exec_eq, ho], h1, h3, h2⟩

/-- Its owner only answers. -/
theorem Accepted.replies (acc : Accepted i s p tag r code h)
    (ho : (h.occupy p (BitVec.ofNat 8 code) tag).toOwner p r = (h.occupy p (BitVec.ofNat 8 code) tag).answer p res a) :
    ∃ t, exec i s = .next t ∧ Answered t p code tag res a ∧ SameBlocks h t ∧ SamePorts h t p := by
  obtain ⟨t, h1, h2, h3, h4⟩ := acc.answers ho rfl (occupy_sameBlocks h p _ tag)
  exact ⟨t, h1, h2, h4, h3⟩

/-- Its answer waits for its write alone. -/
theorem Accepted.writes (acc : Accepted i s p tag r code h)
    (ho : (h.occupy p (BitVec.ofNat 8 code) tag).toOwner p r = u.writeThrough p d)
    (hu : u.ports = (h.occupy p (BitVec.ofNat 8 code) tag).ports) (hb : SameBlocks b u) :
    ∃ t, exec i s = .next t ∧ Owes t p code tag true false .empty ∧ SamePorts h t p ∧ Stored b t p d := by
  obtain ⟨h1, h2, h3⟩ := (taken_of_ports hu).writeThrough d
  exact ⟨_, by rw [acc.exec_eq, ho], h1, h2, h3.of_same hb⟩

/-- Its answer waits for its record alone, and the archive has room for it. -/
theorem Accepted.records (acc : Accepted i s p tag r code h)
    (ho : (h.occupy p (BitVec.ofNat 8 code) tag).toOwner p r =
      (u.defer p false true st a).hand rec ((u.defer p false true st a).ownerOf p))
    (hu : u.ports = (h.occupy p (BitVec.ofNat 8 code) tag).ports) (hroom : u.archive.hasRoom = true) (hb : SameBlocks b u) :
    ∃ t, exec i s = .next t ∧ Answered t p code tag .ok a ∧ SamePorts h t p ∧ Recorded b t rec :=
  ⟨_, by rw [acc.exec_eq, ho],
    ((taken_of_ports hu).defer false true st a).hand hroom rec (hb.trans (defer_sameBlocks u p false true st a))⟩

/-- Its answer waits for its write and its record, and the archive has room for the record. -/
theorem Accepted.writesAndRecords (acc : Accepted i s p tag r code h)
    (ho : (h.occupy p (BitVec.ofNat 8 code) tag).toOwner p r =
      ((u.defer p true true st a).write p d).hand rec ((u.defer p true true st a).ownerOf p))
    (hu : u.ports = (h.occupy p (BitVec.ofNat 8 code) tag).ports) (hroom : u.archive.hasRoom = true) (hb : SameBlocks b u) :
    ∃ t, exec i s = .next t ∧ Owes t p code tag true false a ∧ SamePorts h t p ∧ StoredAndRecorded b t p d rec :=
  ⟨_, by rw [acc.exec_eq, ho],
    ((taken_of_ports hu).defer true true st a).writeAndHand hroom d rec (hb.trans (defer_sameBlocks u p true true st a))⟩

end Accepted

theorem within_iff (lo hi v : Nat) : within lo hi v = true ↔ lo ≤ v ∧ v ≤ hi := by simp [within]

/-! ### Settings -/

theorem checkChannel_iff (f : ChannelFields) (v : ChannelSettings) :
    checkChannel f = some v ↔
      (∃ e, f.enabled = some e ∧ v = { enabled := e, preference := f.preference, offset := f.offset, gain := f.gain }) ∧
        1 ≤ f.preference ∧ f.preference ≤ 3 ∧ -30000 ≤ f.offset ∧ f.offset ≤ 30000 ∧ 1 ≤ f.gain ∧ f.gain ≤ 60000 := by
  cases he : f.enabled with
  | none => simp [checkChannel, he]
  | some e =>
    simp only [checkChannel, he, Option.bind_some, Option.ite_none_right_eq_some, Bool.and_eq_true, within_iff, decide_eq_true_eq,
      Option.some.injEq, exists_eq_left']
    constructor
    · rintro ⟨⟨⟨⟨h1, h2⟩, h3⟩, h4⟩, rfl⟩
      exact ⟨rfl, h1.1, h1.2, h2, h3, h4⟩
    · rintro ⟨rfl, h1, h2, h3, h4, h5⟩
      exact ⟨⟨⟨⟨⟨h1, h2⟩, h3⟩, h4⟩, h5⟩, rfl⟩

theorem preferenceTaken_iff (channels : PerChannel ChannelSettings) (c : Channel) (v : ChannelSettings) :
    preferenceTaken channels c v = true ↔
      v.enabled = true ∧ ∃ d, d ≠ c ∧ (channels.get d).enabled = true ∧ (channels.get d).preference = v.preference := by
  have hall : ∀ P : Channel × ChannelSettings → Prop, (∃ x ∈ channels.toList, P x) ↔ ∃ d, P (d, channels.get d) := fun P => by
    constructor
    · rintro ⟨x, hx, hP⟩
      simp only [PerChannel.toList, List.mem_cons, List.not_mem_nil, or_false] at hx
      rcases hx with rfl | rfl | rfl
      · exact ⟨.LA, hP⟩
      · exact ⟨.LB, hP⟩
      · exact ⟨.LC, hP⟩
    · rintro ⟨d, hP⟩
      exact ⟨_, by cases d <;> simp [PerChannel.toList, PerChannel.get], hP⟩
  simp only [preferenceTaken, Bool.and_eq_true, List.any_eq_true, decide_eq_true_eq, hall, and_assoc]

theorem State.setChannel_range (s : State) (p : Port) (f : ChannelFields) (c : Channel) (hc : f.channel = some c)
    (h : f.enabled = none ∨ f.preference < 1 ∨ 3 < f.preference ∨ f.offset < -30000 ∨ 30000 < f.offset ∨ f.gain < 1 ∨
      60000 < f.gain ∨ (f.enabled = some true ∧
        ∃ d, d ≠ c ∧ (s.lau.channels.get d).enabled = true ∧ (s.lau.channels.get d).preference = f.preference)) :
    s.setChannel p f = s.reply p .range := by
  cases hv : checkChannel f with
  | none => simp only [State.setChannel, hc, hv]
  | some v =>
    obtain ⟨⟨e, he, rfl⟩, h1⟩ := (checkChannel_iff f v).1 hv
    have htaken : f.enabled = some true ∧ ∃ d, d ≠ c ∧ (s.lau.channels.get d).enabled = true ∧
        (s.lau.channels.get d).preference = f.preference := by
      rcases h with h | h | h | h | h | h | h | h
      · simp [he] at h
      · omega
      · omega
      · omega
      · omega
      · omega
      · omega
      · exact h
    obtain ⟨htrue, hd⟩ := htaken
    obtain rfl : e = true := by simpa [he] using htrue
    simp only [State.setChannel, hc, hv]
    rw [if_pos ((preferenceTaken_iff s.lau.channels c _).2 ⟨rfl, hd⟩)]

/-- Settles O25: by the two checks of R2 and the record's replacement. -/
theorem setChannelReplacesTheRecord : Obligations.SetChannelReplacesTheRecord := by
  rintro s p tag ht h rfl f
  refine ⟨fun hc => Accepted.replies ⟨rfl, rfl, rfl, ht, rfl⟩ ?_, fun c hc => ⟨fun e he hr hfree => ?_, fun hbad => ?_⟩⟩
  · show State.setChannel _ p f = _
    simp only [State.setChannel, hc]
    rfl
  · generalize hv : ({ enabled := e, preference := f.preference, offset := f.offset, gain := f.gain } : ChannelSettings) = v
    have hcheck : checkChannel f = some v := (checkChannel_iff f v).2 ⟨⟨e, he, hv.symm⟩, hr⟩
    have hnot : preferenceTaken (s.heard p).lau.channels c v = false := by
      rw [← Bool.not_eq_true, preferenceTaken_iff]
      rintro ⟨hen, d, hd, hde, hdp⟩
      subst hv
      exact hfree hen d hd hde hdp
    have hset : ∀ b : State, b.lau = (s.heard p).lau →
        b.setChannel p f = (b.withLau (b.lau.setChannel c v)).writeThrough p (.channel c v) := fun b hb => by
      simp only [State.setChannel, hc, hcheck, hb, hnot, Bool.false_eq_true, if_false]
    refine Accepted.writes ⟨rfl, rfl, rfl, ht, rfl⟩ (hset _ rfl) rfl (.of_ports ?_)
    subst hv
    rfl
  · exact Accepted.replies ⟨rfl, rfl, rfl, ht, rfl⟩ (State.setChannel_range _ p f c hc hbad)

theorem cablewayValid_iff (c : CablewaySettings) :
    cablewayValid c = true ↔
      (c.span = 0 ∨ (10000 ≤ c.span ∧ c.span ≤ 600000)) ∧ -2000 ≤ c.unattendedLimit ∧
        c.unattendedLimit ≤ c.attendedLimit ∧ c.attendedLimit ≤ 20000 ∧ 50 ≤ c.weightOffset ∧ c.weightOffset ≤ 500 ∧
        300 ≤ c.twoPointMinimum ∧ c.twoPointMinimum ≤ 2000 ∧ 3 ≤ c.deadMan ∧ c.deadMan ≤ 15 ∧ 60 ≤ c.pauseLimit ∧
        c.pauseLimit ≤ 900 ∧ 60 ≤ c.traverseTimeout ∧ c.traverseTimeout ≤ 1800 ∧ 30 ≤ c.reelTimeout ∧ c.reelTimeout ≤ 600 := by
  simp only [cablewayValid, Bool.and_eq_true, Bool.or_eq_true, within_iff, stageOk, stageMin, stageMax, decide_eq_true_eq]
  omega

/-- Settles O26: by the ranges of the three settings. -/
theorem settingsChangesAreWrittenThrough : Obligations.SettingsChangesAreWrittenThrough := by
  rintro s p tag ht h rfl
  refine ⟨fun n => ⟨fun hn => ?_, fun hn => ?_⟩, fun w => ⟨fun hw => ?_, fun hw => ?_⟩, ?_⟩
  · exact Accepted.writes ⟨rfl, rfl, rfl, ht, rfl⟩ (if_pos ((within_iff 300 7200 n).2 hn)) rfl (.of_ports rfl)
  · exact Accepted.replies ⟨rfl, rfl, rfl, ht, rfl⟩ (if_neg (by rw [within_iff]; omega))
  · refine Accepted.writes ⟨rfl, rfl, rfl, ht, rfl⟩ (if_pos ?_) rfl (.of_ports rfl)
    simp only [Bool.and_eq_true, within_iff]
    omega
  · refine Accepted.replies ⟨rfl, rfl, rfl, ht, rfl⟩ (if_neg ?_)
    simp only [Bool.and_eq_true, within_iff]
    omega
  · rintro rfl c
    refine ⟨fun hst => Accepted.replies ⟨rfl, rfl, rfl, ht, rfl⟩ (if_pos hst), fun hst hv => ?_, fun hst hv => ?_⟩
    · have hset : ∀ b : State, b.cable.state = .idle →
          b.setCableway .F c =
            (b.withCable { b.cable with settings := c, available := decide (c.span ≠ 0) }).writeThrough .F (.cableway c) :=
        fun b hb => by simp [State.setCableway, hb, (cablewayValid_iff c).2 hv, Nat.pos_iff_ne_zero]
      exact Accepted.writes ⟨rfl, rfl, rfl, ht, rfl⟩ (hset _ hst) rfl (.of_ports rfl)
    · have hset : ∀ b : State, b.cable.state = .idle → b.setCableway .F c = b.reply .F .range := fun b hb => by
        have hbad : cablewayValid c = false := by
          rw [← Bool.not_eq_true, cablewayValid_iff]
          omega
        simp [State.setCableway, hb, hbad]
      exact Accepted.replies ⟨rfl, rfl, rfl, ht, rfl⟩ (hset _ hst)

end Sys2Proof.Machine
end

section
/-! SUPPORT. The rating store's slots, ids and versions for removal, and the requests that change the rating store, the datum, the
shift table or a disposition (R44 to R56, R61 to R66, R154, R155). -/

namespace Sys2Proof.Machine

/-! ### Slots and versions -/

theorem Four.toList_eq {α : Type} (b : Four α) : b.toList = (List.finRange 4).map (fun n => (n, b.get n)) := rfl

theorem RatingStore.findSlot_some_iff (r : RatingStore) (f : Option RatingVersion → Bool) (n : Fin 4) :
    r.findSlot f = some n ↔ f (r.slots.get n).version = true ∧ ∀ m, m < n → f (r.slots.get m).version = false := by
  have hfind : r.findSlot f = (List.finRange 4).find? (fun n => f (r.slots.get n).version) := by
    rw [RatingStore.findSlot, Four.toList_eq, List.find?_map, Option.map_map]
    exact Option.map_id'
  rw [hfind, List.find?_eq_some_iff_getElem]
  simp only [List.length_finRange, List.getElem_finRange, Bool.not_eq_true']
  refine and_congr_right fun _ => ⟨fun ⟨i, hi, hn, hlt⟩ m hm => ?_, fun hlt => ⟨n, n.isLt, rfl, fun j hj => hlt _ hj⟩⟩
  subst hn
  exact hlt m hm

theorem RatingStore.findSlot_none_iff (r : RatingStore) (f : Option RatingVersion → Bool) :
    r.findSlot f = none ↔ ∀ n : Fin 4, f (r.slots.get n).version = false := by
  rw [RatingStore.findSlot, Option.map_eq_none_iff, Four.toList_eq, List.find?_eq_none]
  simp

theorem RatingStore.vacantSlot_some_iff (r : RatingStore) (n : Fin 4) :
    r.vacantSlot = some n ↔ (r.slots.get n).version = none ∧ ∀ m, m < n → (r.slots.get m).version ≠ none := by
  rw [RatingStore.vacantSlot, RatingStore.findSlot_some_iff]
  simp [Option.isSome_iff_ne_none]

theorem RatingStore.vacantSlot_none_iff (r : RatingStore) : r.vacantSlot = none ↔ ∀ n : Fin 4, (r.slots.get n).version ≠ none := by
  rw [RatingStore.vacantSlot, RatingStore.findSlot_none_iff]
  simp [Option.isSome_iff_ne_none]

theorem RatingStore.versions_length (r : RatingStore) : r.versions.length ≤ 4 := by
  have h := List.length_filterMap_le (fun x : Fin 4 × SlotItem => x.2.version) r.slots.toList
  simpa [RatingStore.versions, Four.toList] using h

/-- The version with the earliest effective-from. -/
theorem oldestVersion_spec (l : List RatingVersion) :
    (oldestVersion l = none ↔ l = []) ∧
      ∀ v, oldestVersion l = some v → v ∈ l ∧ ∀ w ∈ l, v.effective ≤ w.effective := by
  induction l with
  | nil => simp [oldestVersion]
  | cons a l ih =>
    obtain ⟨hnone, hsome⟩ := ih
    cases ho : oldestVersion l with
    | none =>
      obtain rfl := hnone.1 ho
      simp [oldestVersion]
    | some w =>
      obtain ⟨hw, hle⟩ := hsome w ho
      simp only [oldestVersion, ho]
      split
      · rename_i h
        refine ⟨by simp, ?_⟩
        rintro v ⟨⟩
        exact ⟨by simp, fun u hu => (List.mem_cons.1 hu).elim (fun e => by rw [e]) fun hu => h.trans (hle u hu)⟩
      · rename_i h
        refine ⟨by simp, ?_⟩
        rintro v ⟨⟩
        exact ⟨by simp [hw], fun u hu => (List.mem_cons.1 hu).elim (fun e => by rw [e]; omega) (hle u)⟩

theorem superseded_iff (held : List RatingVersion) (now : Nat) (v : RatingVersion) :
    superseded held now v = true ↔ ∃ w ∈ held, v.effective < w.effective ∧ w.effective ≤ now := by
  simp [superseded]

/-- The version named for removal is the superseded one with the earliest effective-from (R47). -/
theorem namedForRemoval_spec (held : List RatingVersion) (now : Nat) :
    ∀ old : RatingVersion → Prop,
      old = (fun v => v ∈ held ∧ ∃ w ∈ held, v.effective < w.effective ∧ w.effective ≤ now) →
    (namedForRemoval held now = none ↔ ∀ v, ¬ old v) ∧
    ∀ v, namedForRemoval held now = some v → old v ∧ ∀ w, old w → v.effective ≤ w.effective := by
  rintro old rfl
  have hmem : ∀ v, v ∈ held.filter (superseded held now) ↔
      v ∈ held ∧ ∃ w ∈ held, v.effective < w.effective ∧ w.effective ≤ now := fun v => by
    rw [List.mem_filter, superseded_iff]
  obtain ⟨hnone, hsome⟩ := oldestVersion_spec (held.filter (superseded held now))
  refine ⟨?_, fun v hv => ?_⟩
  · rw [namedForRemoval, hnone, List.eq_nil_iff_forall_not_mem]
    exact forall_congr' fun v => not_congr (hmem v)
  · obtain ⟨hv, hle⟩ := hsome v hv
    exact ⟨(hmem v).1 hv, fun w hw => hle w ((hmem w).2 hw)⟩

/-! ### Ids and write numbers (R48, R53) -/

/-- The id that follows another by a number of places, 255 followed by 1. -/
def idFrom (base k : Nat) : Nat := (base + k) % 255 + 1

theorem idAfter_idFrom (base k : Nat) : idAfter (idFrom base k) = idFrom base (k + 1) := by
  unfold idAfter idFrom
  split <;> omega

/-- The first candidate that no held version carries: those before it are in use, and so is every one when the search ends. -/
theorem freeId_spec (held : List RatingVersion) (base fuel j : Nat) :
    ∃ k, j ≤ k ∧ k ≤ j + fuel ∧ freeId held fuel (idFrom base j) = idFrom base k ∧
      (∀ m, j ≤ m → m < k → ∃ v ∈ held, v.id = idFrom base m) ∧
      (k = j + fuel ∨ ∀ v ∈ held, v.id ≠ idFrom base k) := by
  induction fuel generalizing j with
  | zero => exact ⟨j, Nat.le_refl _, Nat.le_refl _, rfl, fun m h1 h2 => absurd h1 (by omega), .inl rfl⟩
  | succ fuel ih =>
    by_cases hused : ∃ v ∈ held, v.id = idFrom base j
    · obtain ⟨k, h1, h2, h3, h4, h5⟩ := ih (j + 1)
      refine ⟨k, by omega, by omega, ?_, fun m hm hmk => ?_, h5.imp (fun h => by omega) id⟩
      · rw [freeId, if_pos (by simpa using hused), idAfter_idFrom, h3]
      · rcases Nat.eq_or_lt_of_le hm with rfl | hlt
        · exact hused
        · exact h4 m hlt hmk
    · refine ⟨j, Nat.le_refl _, by omega, ?_, fun m h1 h2 => absurd h1 (by omega), .inr fun v hv he => hused ⟨v, hv, he⟩⟩
      rw [freeId, if_neg (by simpa using hused)]

/-- The ids tried one after another differ, up to 255 of them. -/
theorem idFrom_nodup (base : Nat) : ((List.range 5).map (idFrom base)).Nodup := by
  rw [List.nodup_map_iff_inj_on List.nodup_range]
  simp only [List.mem_range, idFrom]
  omega

/-- Of five candidates in succession one is free, for at most four versions are held (R45, R48). -/
theorem RatingStore.exists_free_id (r : RatingStore) (base : Nat) : ∃ m, m < 5 ∧ ∀ v ∈ r.versions, v.id ≠ idFrom base m := by
  by_contra hno
  push Not at hno
  have hsub : ((List.range 5).map (idFrom base)) ⊆ r.versions.map (·.id) := by
    intro x hx
    obtain ⟨m, hm, rfl⟩ := List.mem_map.1 hx
    obtain ⟨v, hv, he⟩ := hno m (List.mem_range.1 hm)
    exact List.mem_map.2 ⟨v, hv, he⟩
  have hlen := ((idFrom_nodup base).subperm hsub).length_le
  have := r.versions_length
  simp at hlen
  omega

/-- The id of an accepted commit: the first free one after the last assigned id. -/
theorem RatingStore.newId_spec (r : RatingStore) (base : Nat) (hb : idAfter r.lastId = idFrom base 0) :
    ∃ k ≤ 4, r.newId = idFrom base k ∧ (∀ j, j < k → ∃ v ∈ r.versions, v.id = idFrom base j) ∧
      ∀ v ∈ r.versions, v.id ≠ idFrom base k := by
  obtain ⟨k, -, h2, h3, h4, h5⟩ := freeId_spec r.versions base 4 0
  rw [← hb] at h3
  obtain ⟨m, hm, hfree⟩ := r.exists_free_id base
  have hmk : k ≤ m := by
    by_contra hlt
    obtain ⟨v, hv, he⟩ := h4 m (by omega) (by omega)
    exact hfree v hv he
  refine ⟨k, by omega, h3, fun j hj => h4 j (by omega) hj, ?_⟩
  rcases h5 with h5 | h5
  · have : m = k := by omega
    exact this ▸ hfree
  · exact h5

theorem idAfter_small {n : Nat} (h : n ≤ 255) : idAfter n = idFrom n 0 := by
  unfold idAfter idFrom
  split <;> omega

theorem RatingStore.newId_free (r : RatingStore) : 1 ≤ r.newId ∧ r.newId ≤ 255 ∧ ∀ v ∈ r.versions, v.id ≠ r.newId := by
  obtain ⟨base, hb⟩ : ∃ base, idAfter r.lastId = idFrom base 0 := by
    by_cases h : r.lastId ≤ 255
    · exact ⟨_, idAfter_small h⟩
    · exact ⟨0, by unfold idAfter idFrom; split <;> omega⟩
  obtain ⟨k, -, hk, -, hfree⟩ := r.newId_spec base hb
  rw [hk]
  exact ⟨by unfold idFrom; omega, by unfold idFrom; omega, hfree⟩

theorem RatingStore.nextWrite_spec (r : RatingStore) :
    (∀ n : Fin 4, (r.slots.get n).writeNumber < r.nextWrite) ∧ ∃ n : Fin 4, r.nextWrite = (r.slots.get n).writeNumber + 1 := by
  generalize hm : max (max (max r.slots.s1.writeNumber r.slots.s2.writeNumber) r.slots.s3.writeNumber) r.slots.s4.writeNumber = m
  have hnext : r.nextWrite = m + 1 := by simp [RatingStore.nextWrite, Four.toList, ← hm]
  rw [hnext]
  refine ⟨fun n => ?_, ?_⟩
  · match n with
    | 0 | 1 | 2 | 3 => simp only [Four.get]; omega
  · have : m = r.slots.s1.writeNumber ∨ m = r.slots.s2.writeNumber ∨ m = r.slots.s3.writeNumber ∨ m = r.slots.s4.writeNumber := by
      omega
    rcases this with rfl | rfl | rfl | rfl
    · exact ⟨0, rfl⟩
    · exact ⟨1, rfl⟩
    · exact ⟨2, rfl⟩
    · exact ⟨3, rfl⟩

/-! ### Commits and deletions -/

/-- A change of a slot, the archive having room for its record. -/
theorem Accepted.changesSlot {i : Instr} {s h : State} {p : Port} {tag : Byte} {r : Request} {code : Nat}
    (acc : Accepted i s p tag r code h) {n : Fin 4} {v : Option RatingVersion} {id : Nat} {body : RatingBody} {a : Payload}
    (ho : (h.occupy p (BitVec.ofNat 8 code) tag).toOwner p r =
      (h.occupy p (BitVec.ofNat 8 code) tag).slotChange p n v id body a)
    (hroom : h.archive.hasRoom = true) : ∀ item : SlotItem, item = { version := v, lastId := id, writeNumber := h.rating.nextWrite } →
    ∃ t, exec i s = .next t ∧ Owes t p code tag true false a ∧ SamePorts h t p ∧
      StoredAndRecorded { h with rating := { h.rating with slots := h.rating.slots.set n item, lastId := id } } t p
        (.slot n item) (.rating body) := by
  rintro item rfl
  exact acc.writesAndRecords
    (u := { h.occupy p (BitVec.ofNat 8 code) tag with
      rating :=
        { h.rating with
          slots := h.rating.slots.set n { version := v, lastId := id, writeNumber := h.rating.nextWrite }, lastId := id } })
    ho rfl hroom (.of_ports rfl)

/-- COMMIT_RATING past its first three checks. -/
theorem State.commitRating_checked (s : State) (p : Port) (f : RatingFields) (h1 : s.rating.frozen = false)
    (h2 : pointsValid f.points = true) (h3 : ∀ v ∈ s.rating.versions, v.effective ≠ f.effective) :
    s.commitRating p (some f) =
      match s.rating.vacantSlot with
      | some n => s.placeRating p f n none
      | none =>
        match namedForRemoval s.rating.versions s.clock.time with
        | none => s.reply p .ratingFull
        | some v =>
          match s.rating.slotOf v.id with
          | none => s.reply p .ratingFull
          | some n => s.placeRating p f n (some v) := by
  have h3' : s.rating.versions.any (fun v => decide (v.effective = f.effective)) = false := by
    simpa [List.any_eq_false] using h3
  simp only [State.commitRating, h1, h2, h3', Bool.false_eq_true, if_false, Bool.not_true] <;> rfl

/-- Settles O29: by the search of the slots, of the version for removal and of the id, and by the checks of R46. -/
theorem commitRatingPlacesTheVersion : Obligations.CommitRatingPlacesTheVersion := by
  refine ⟨fun l => ?_, RatingStore.vacantSlot_some_iff, RatingStore.vacantSlot_none_iff, namedForRemoval_spec,
    RatingStore.newId_free, fun r hr => ?_, RatingStore.nextWrite_spec, ?_⟩
  · rw [pointsValid_iff]
    exact ⟨fun ⟨⟨h1, h2⟩, h3, h4⟩ => ⟨h1, h2, fun a ha => ⟨(h3 a ha).1.1, (h3 a ha).1.2, (h3 a ha).2⟩, h4⟩,
      fun ⟨h1, h2, h3, h4⟩ => ⟨⟨h1, h2⟩, fun a ha => ⟨⟨(h3 a ha).1, (h3 a ha).2.1⟩, (h3 a ha).2.2⟩, h4⟩⟩
  · obtain ⟨k, hk, he, hused, -⟩ := r.newId_spec r.lastId (idAfter_small hr)
    exact ⟨k, hk, he, hused⟩
  · rintro s p tag f ht h rfl
    refine ⟨fun hf => Accepted.replies ⟨rfl, rfl, rfl, ht, rfl⟩ (if_pos hf), fun hf hv => ?_, fun hf hv => ⟨?_, fun hne => ⟨?_, ?_⟩⟩⟩
    · have hrange : ∀ b : State, b.rating.frozen = false → b.commitRating p (some f) = b.reply p .range := fun b hb => by
        simp [State.commitRating, hb, hv]
      exact Accepted.replies ⟨rfl, rfl, rfl, ht, rfl⟩ (hrange _ hf)
    · rintro ⟨v, hmem, he⟩
      have hdup : ∀ b : State, b.rating = (s.heard p).rating → b.commitRating p (some f) = b.reply p .duplicateTime :=
        fun b hb => by
          have : b.rating.versions.any (fun v => decide (v.effective = f.effective)) = true := by
            rw [hb]
            exact List.any_eq_true.2 ⟨v, hmem, by simpa using he⟩
          simp [State.commitRating, hb ▸ hf, hv, this]
      exact Accepted.replies ⟨rfl, rfl, rfl, ht, rfl⟩ (hdup _ rfl)
    · intro hvac hnamed
      have hfull : ∀ b : State, b.rating = (s.heard p).rating → b.clock = (s.heard p).clock →
          b.commitRating p (some f) = b.reply p .ratingFull := fun b hb hc => by
        rw [State.commitRating_checked b p f (hb ▸ hf) hv (hb ▸ hne), hb, hc, hvac, hnamed]
      exact Accepted.replies ⟨rfl, rfl, rfl, ht, rfl⟩ (hfull _ rfl rfl)
    · rintro item hitem hroom
      have acc : Accepted (.commitRating p tag (some f)) s p tag _ 7 (s.heard p) := ⟨rfl, rfl, rfl, ht, rfl⟩
      refine ⟨fun n hn => ?_, fun hvac v hnamed n hn => ?_⟩
      · have hplace : ∀ b : State, b.rating = (s.heard p).rating → b.commitRating p (some f) = b.placeRating p f n none :=
          fun b hb => by rw [State.commitRating_checked b p f (hb ▸ hf) hv (hb ▸ hne), hb, hn]
        exact acc.changesSlot (hplace ((s.heard p).occupy p 7 tag) rfl) hroom item hitem
      · have hplace : ∀ b : State, b.rating = (s.heard p).rating → b.clock = (s.heard p).clock →
            b.commitRating p (some f) = b.placeRating p f n (some v) := fun b hb hc => by
          rw [State.commitRating_checked b p f (hb ▸ hf) hv (hb ▸ hne), hb, hc, hvac, hnamed]
          simp only [hn]
        exact acc.changesSlot (hplace ((s.heard p).occupy p 7 tag) rfl rfl) hroom item hitem

/-- Settles O30: by the checks of R50 and the freeze. -/
theorem deleteAndFreezeChangeTheRatingStore : Obligations.DeleteAndFreezeChangeTheRatingStore := by
  rintro s p tag ht h rfl
  refine ⟨fun id => ⟨fun hf => Accepted.replies ⟨rfl, rfl, rfl, ht, rfl⟩ (if_pos hf), fun hf hall => ?_, fun hf v hv => ⟨?_, ?_⟩⟩,
    fun hf => Accepted.replies ⟨rfl, rfl, rfl, ht, rfl⟩ (if_pos hf), fun hf hroom => ?_⟩
  · have hnone : (s.heard p).rating.versions.find? (fun v => decide (v.id = id)) = none := by simpa using hall
    have hdel : ∀ b : State, b.rating = (s.heard p).rating → b.deleteRating p id = b.reply p .notFound := fun b hb => by
      rw [State.deleteRating, if_neg (by rw [hb]; simp [hf]), hb, hnone]
    exact Accepted.replies ⟨rfl, rfl, rfl, ht, rfl⟩ (hdel _ rfl)
  · intro hin
    have hslot : ∃ n, (s.heard p).rating.slotOf id = some n := by
      rw [← Option.isSome_iff_exists, Option.isSome_iff_ne_none]
      intro hnone
      rw [RatingStore.slotOf, RatingStore.findSlot_none_iff] at hnone
      obtain ⟨x, hx, hxv⟩ := List.mem_filterMap.1 (List.mem_of_find?_eq_some hv)
      rw [Four.toList_eq] at hx
      obtain ⟨n, -, rfl⟩ := List.mem_map.1 hx
      have hid : v.id = id := by simpa using List.find?_some hv
      have := hnone n
      simp only at hxv
      simp [hxv, hid] at this
    obtain ⟨n, hn⟩ := hslot
    have hdel : ∀ b : State, b.rating = (s.heard p).rating → b.clock = (s.heard p).clock →
        b.deleteRating p id = b.reply p .inForce := fun b hb hc => by
      rw [State.deleteRating, if_neg (by rw [hb]; simp [hf]), hb, hc, hv, hn]
      exact if_pos hin
    exact Accepted.replies ⟨rfl, rfl, rfl, ht, rfl⟩ (hdel _ rfl rfl)
  · intro hin hroom n hn
    have hid : v.id = id := by simpa using List.find?_some hv
    have hdel : ∀ b : State, b.rating = (s.heard p).rating → b.clock = (s.heard p).clock →
        b.deleteRating p id = b.slotChange p n none b.rating.lastId (.deleted p id v.effective) .empty := fun b hb hc => by
      rw [State.deleteRating, if_neg (by rw [hb]; simp [hf]), hb, hc, hv, hn, ← hid]
      exact if_neg hin
    have acc : Accepted (.deleteRating p tag (some id)) s p tag _ 8 (s.heard p) := ⟨rfl, rfl, rfl, ht, rfl⟩
    exact acc.changesSlot (hdel ((s.heard p).occupy p 8 tag) rfl rfl) hroom _ rfl
  · have hfreeze : ∀ b : State, b.rating.frozen = false →
        b.freezeRating p =
          (({ b with rating := { b.rating with frozen := true } } : State).defer p false true false .empty).hand (.rating (.frozen p))
            ((({ b with rating := { b.rating with frozen := true } } : State).defer p false true false .empty).ownerOf p) :=
      fun b hb => if_neg (by simp [hb])
    have acc : Accepted (.freezeRating p tag true) s p tag _ 13 (s.heard p) := ⟨rfl, rfl, rfl, ht, rfl⟩
    exact acc.records (hfreeze ((s.heard p).occupy p 13 tag) hf) rfl hroom (.of_ports rfl)

/-- Settles O31: by the checks of R41 and R42. -/
theorem datumRequestsChangeTheDatum : Obligations.DatumRequestsChangeTheDatum := by
  rintro s tag ht h rfl
  refine ⟨fun hf v => ⟨Accepted.replies ⟨rfl, rfl, rfl, ht, rfl⟩ (if_pos hf), Accepted.replies ⟨rfl, rfl, rfl, ht, rfl⟩ (if_pos hf)⟩,
    fun hf v hv => ?_, fun hf hroom => ⟨fun v h1 h2 => ?_, ?_⟩⟩
  · have hrange : ∀ b : State, b.rating.fixed = false → b.writeDatum .F v = b.reply .F .range := fun b hb => by
      rw [State.writeDatum, if_neg (by simp [hb]), if_pos]
      simp only [elevationOk, Bool.not_eq_true', Bool.and_eq_false_iff, decide_eq_false_iff_not]
      omega
    exact Accepted.replies ⟨rfl, rfl, rfl, ht, rfl⟩ (hrange _ hf)
  · have hok : elevationOk v = true := by simp [elevationOk, h1, h2]
    have hwrite : ∀ b : State, b.rating.fixed = false → ∀ u : State, u = { b with rating := { b.rating with elevation := v } } →
        b.writeDatum .F v =
          ((u.defer .F true true true .empty).write .F (.datum v)).hand
            (.datum { fixed := false, before := b.rating.elevation, after := v, port := .F })
            ((u.defer .F true true true .empty).ownerOf .F) := by
      rintro b hb u rfl
      rw [State.writeDatum, if_neg (by simp [hb]), if_neg (by simp [hok])]
      rfl
    have acc : Accepted (.writeDatum .F tag (some v)) s .F tag _ 37 (s.heard .F) := ⟨rfl, rfl, rfl, ht, rfl⟩
    exact acc.writesAndRecords (hwrite ((s.heard .F).occupy .F 37 tag) hf _ rfl) rfl hroom (.of_ports rfl)
  · have hfix : ∀ b : State, b.rating.fixed = false → ∀ u : State, u = { b with rating := { b.rating with fixed := true } } →
        b.fixDatum .F =
          ((u.defer .F true true true .empty).write .F (.cell b.rating.elevation)).hand
            (.datum { fixed := true, before := b.rating.elevation, after := b.rating.elevation, port := .F })
            ((u.defer .F true true true .empty).ownerOf .F) := by
      rintro b hb u rfl
      rw [State.fixDatum, if_neg (by simp [hb])]
      rfl
    have acc : Accepted (.fixDatum .F tag true) s .F tag _ 11 (s.heard .F) := ⟨rfl, rfl, rfl, ht, rfl⟩
    exact acc.writesAndRecords (hfix ((s.heard .F).occupy .F 11 tag) hf _ rfl) rfl hroom (.of_ports rfl)

/-! ### The shift table and the gauging list -/

/-- A change of the shift table, the archive having room for its record. -/
theorem Accepted.changesShifts {i : Instr} {s h u b : State} {p : Port} {tag : Byte} {r : Request} {code : Nat}
    (acc : Accepted i s p tag r code h) {table : List ShiftEntry} {x : ShiftBody}
    (ho : (h.occupy p (BitVec.ofNat 8 code) tag).toOwner p r = u.shiftChange p table x)
    (hu : u.ports = (h.occupy p (BitVec.ofNat 8 code) tag).ports) (hroom : u.archive.hasRoom = true)
    (hb : SameBlocks b { u with rating := { u.rating with shifts := table } }) :
    ∃ t, exec i s = .next t ∧ Owes t p code tag true false (.shiftCount table.length x.removed) ∧ SamePorts h t p ∧
      StoredAndRecorded b t p (.shifts table) (.shift x) :=
  acc.writesAndRecords (u := { u with rating := { u.rating with shifts := table } }) ho hu hroom hb

/-- Settles O33: by the range of a shift and the entry of a time. -/
theorem shiftRequestsChangeTheTable : Obligations.ShiftRequestsChangeTheTable := by
  rintro s p tag ht h rfl
  refine ⟨fun f => ⟨fun hr => ?_, ?_⟩, fun time => ⟨fun hall => ?_, ?_⟩⟩
  · have hset : ∀ b : State, b.setShift p (some f) = b.reply p .range := fun b => if_pos (by simpa using hr)
    exact Accepted.replies ⟨rfl, rfl, rfl, ht, rfl⟩ (hset _)
  · rintro h1 h2 hroom e rfl r rfl
    have hset : ∀ b : State, b.setShift p (some f) = b.insertShift p .set { time := f.time, shift := f.shift, origin := .manual } :=
      fun b => if_neg (by simp; omega)
    have acc : Accepted (.setShift p tag (some f)) s p tag _ 30 (s.heard p) := ⟨rfl, rfl, rfl, ht, rfl⟩
    exact acc.changesShifts (hset ((s.heard p).occupy p 30 tag)) rfl hroom (.of_ports rfl)
  · have hnone : (s.heard p).rating.shifts.find? (fun a => decide (a.time = time)) = none := by simpa using hall
    have hdel : ∀ b : State, b.rating = (s.heard p).rating → b.deleteShift p time = b.reply p .notFound := fun b hb => by
      rw [State.deleteShift, hb, hnone]
    exact Accepted.replies ⟨rfl, rfl, rfl, ht, rfl⟩ (hdel _ rfl)
  · rintro hroom e he table rfl
    have hdel : ∀ b : State, b.rating = (s.heard p).rating →
        b.deleteShift p time =
          b.shiftChange p ((s.heard p).rating.shifts.filter (fun a => a.time ≠ time))
            { event := .deleted, port := p, entry := e, replaced := none, removed := none
              countAfter := ((s.heard p).rating.shifts.filter (fun a => a.time ≠ time)).length } := fun b hb => by
      rw [State.deleteShift, hb, he]
    have acc : Accepted (.deleteShift p tag (some time)) s p tag _ 9 (s.heard p) := ⟨rfl, rfl, rfl, ht, rfl⟩
    exact acc.changesShifts (hdel ((s.heard p).occupy p 9 tag) rfl) rfl hroom (.of_ports rfl)

theorem Gauging.forDisposition_missing (g : Gauging) (id : Nat) (h : id = 0 ∨ g.list.all (fun e => e.record.id ≠ id) = true) :
    g.forDisposition id = .error .notFound := by
  unfold Gauging.forDisposition
  by_cases h0 : id = 0
  · rw [if_pos h0]
  · have hnone : g.list.find? (fun e => decide (e.record.id = id)) = none := by simpa using h.resolve_left h0
    rw [if_neg h0, Gauging.find, if_neg h0, hnone]

theorem Gauging.forDisposition_found (g : Gauging) (id : Nat) (h0 : id ≠ 0) {e : GaugingEntry}
    (he : g.list.find? (fun e => e.record.id = id) = some e) :
    g.forDisposition id = if e.record.disposition = .pending then .ok e else .error .wrongState := by
  unfold Gauging.forDisposition
  rw [if_neg h0, Gauging.find, if_neg h0, he]

/-- Settles O34: by the two checks of R154. -/
theorem gaugingsAreDisposedOfOnce : Obligations.GaugingsAreDisposedOfOnce := by
  rintro s p tag id ht h rfl
  have hrefuse : ∀ res, (s.heard p).gauging.forDisposition id = .error res → ∀ b : State, b.gauging = (s.heard p).gauging →
      b.acceptShift p id = b.reply p res ∧ b.rejectShift p id = b.reply p res := fun res hres b hb => by
    simp only [State.acceptShift, State.rejectShift, hb, hres, and_self]
  refine ⟨fun hno => ?_, fun h0 e he => ⟨fun hd => ?_, fun hd => ⟨?_, ?_⟩⟩⟩
  · have hf := Gauging.forDisposition_missing (s.heard p).gauging id hno
    exact ⟨Accepted.replies ⟨rfl, rfl, rfl, ht, rfl⟩ (hrefuse _ hf ((s.heard p).occupy p 2 tag) rfl).1,
      Accepted.replies ⟨rfl, rfl, rfl, ht, rfl⟩ (hrefuse _ hf ((s.heard p).occupy p 23 tag) rfl).2⟩
  · have hf := (Gauging.forDisposition_found _ id h0 he).trans (if_neg hd)
    exact ⟨Accepted.replies ⟨rfl, rfl, rfl, ht, rfl⟩ (hrefuse _ hf ((s.heard p).occupy p 2 tag) rfl).1,
      Accepted.replies ⟨rfl, rfl, rfl, ht, rfl⟩ (hrefuse _ hf ((s.heard p).occupy p 23 tag) rfl).2⟩
  · have hf := (Gauging.forDisposition_found _ id h0 he).trans (if_pos hd)
    have hrej : ∀ b : State, b.gauging = (s.heard p).gauging →
        b.rejectShift p id =
          ({ b with gauging := { b.gauging with list := setDisposition b.gauging.list id .rejected } } : State).reply p .ok :=
      fun b hb => by simp only [State.rejectShift, hb, hf]
    exact Accepted.answers ⟨rfl, rfl, rfl, ht, rfl⟩ (hrej _ rfl) rfl (.of_ports rfl)
  · rintro hroom c hc n rfl r rfl
    have hf := (Gauging.forDisposition_found _ id h0 he).trans (if_pos hd)
    have hid : e.record.id = id := by simpa using List.find?_some he
    have hacc : ∀ b : State, b.gauging = (s.heard p).gauging →
        b.acceptShift p id =
          ({ b with gauging := { b.gauging with list := setDisposition b.gauging.list id .accepted } } : State).insertShift p
            .accepted { time := e.record.midTime, shift := c, origin := .gauging id } := fun b hb => by
      simp only [State.acceptShift, hb, hf, hc, hid, Option.getD_some]
    have acc : Accepted (.acceptShift p tag (some id)) s p tag _ 2 (s.heard p) := ⟨rfl, rfl, rfl, ht, rfl⟩
    exact acc.changesShifts (hacc ((s.heard p).occupy p 2 tag) rfl) rfl hroom (.of_ports rfl)

end Sys2Proof.Machine
end

section
/-! SUPPORT. The effects of a level change, the acknowledgement of a level, and the timers of the warning unit (R87 to R99). -/

namespace Sys2Proof.Machine

/-! ### A record handed -/

/-- The warning unit is one of the blocks that a record handed leaves. -/
theorem Recorded.warning_eq {s t : State} {r : Record} (h : Recorded s t r) : t.warning = s.warning := by
  obtain ⟨⟨-, -, -, -, -, hw, -⟩, -⟩ := h
  exact hw

/-- A LEVEL record that nobody waits for, at the end of its event. -/
theorem State.levelRecord_event (s : State) (e : LevelEvent) (hroom : s.archive.hasRoom = true) :
    Recorded s (s.levelRecord e .nobody).settle (.level (s.warning.body e)) ∧
      ∀ q, (s.levelRecord e .nobody).settle.ports.slot q = s.ports.slot q := by
  obtain ⟨hrec, hports⟩ := s.levelRecord_recorded e .nobody hroom
  exact ⟨hrec.same (State.settle_sameBlocks _), fun q => by rw [State.settle_slot, hports]; rfl⟩

/-! ### Levels -/

theorem levelBars_iff (k : HoldKind) (l : Level) :
    levelBars k l = true ↔ l = .alarm ∨ (k = .unattended ∧ l = .warn) := by
  cases k <;> cases l <;> decide

theorem Warning.relayRequired_iff (w : Warning) :
    w.relayRequired = true ↔
      (w.owed = true ∧ w.deadline = .expired) ∨ ((w.level = .warn ∨ w.level = .alarm) ∧ w.silent = true) := by
  have hd : w.dangerous = true ↔ w.level = .warn ∨ w.level = .alarm := by
    cases hl : w.level <;> simp [Warning.dangerous, hl, levelRank]
  simp only [Warning.relayRequired, Bool.or_eq_true, Bool.and_eq_true, decide_eq_true_eq, hd]

/-! ### A change of level -/

/-- A change of level: the notice and then the record of the level as it has become, and the end of a run that it bars. -/
theorem State.changeLevel_ne (s : State) (new : Level) (cause : LevelCause) (o : Owner) (hne : new ≠ s.warning.level) :
    s.changeLevel new cause o =
      ((({ s with warning := s.warning.changed new s.clock.time s.elapsed } : State).notice
        (.level new s.warning.level (levelHigher new s.warning.level))).levelRecord (.changed s.warning.level cause)
          o).floodOnLevel := by
  have hw : s.withWarning
      (if levelRank s.warning.level < levelRank new then s.warning.escalate new s.clock.time s.elapsed
        else s.warning.deescalate new) =
      { s with warning := s.warning.changed new s.clock.time s.elapsed } := by
    simp only [State.withWarning, Warning.changed, if_neg hne]
    split <;> rfl
  simp only [State.changeLevel, if_neg hne, hw]

theorem State.floodOnLevel_goes_on (s : State) (h : ∀ run, s.cable.run = some run → levelBars run.kind s.warning.level = false) :
    s.floodOnLevel = s := by
  unfold State.floodOnLevel
  split
  · rfl
  · rename_i r hr
    rw [h r hr]
    rfl

/-- A change of level without a run that it bars. -/
theorem State.changeLevel_eq (s : State) (new : Level) (cause : LevelCause) (o : Owner) (hne : new ≠ s.warning.level)
    (hrun : ∀ run, s.cable.run = some run → levelBars run.kind new = false) :
    s.changeLevel new cause o =
      (({ s with warning := s.warning.changed new s.clock.time s.elapsed } : State).notice
        (.level new s.warning.level (levelHigher new s.warning.level))).levelRecord (.changed s.warning.level cause) o := by
  rw [s.changeLevel_ne new cause o hne]
  refine State.floodOnLevel_goes_on _ fun run hr => ?_
  have hlevel : (s.warning.changed new s.clock.time s.elapsed).level = new := Warning.changed_level _ _ _ _
  exact hlevel.symm ▸ hrun run hr

theorem Warning.changed_up {w : Warning} {new : Level} (time now : Nat) (h : levelRank w.level < levelRank new) :
    (w.changed new time now).owed = true ∧
      (w.deadline = .stopped →
        (w.changed new time now).firstTime = some time ∧
          (w.changed new time now).deadline = .running (now + 100 * w.timers.deadline)) ∧
      (w.deadline ≠ .stopped →
        (w.changed new time now).firstTime = w.firstTime ∧ (w.changed new time now).deadline = w.deadline) := by
  have hne : new ≠ w.level := fun e => by simp [e] at h
  have hc : w.changed new time now = (w.escalate new time now).withRelay := by rw [Warning.changed, if_neg hne, if_pos h]
  rw [hc, Warning.escalate]
  split <;> simp_all [Warning.withRelay, after]

theorem Warning.changed_down {w : Warning} {new : Level} (time now : Nat) (h : levelRank new < levelRank w.level) :
    (new = .clear →
        (w.changed new time now).owed = false ∧ (w.changed new time now).firstTime = none ∧
          (w.changed new time now).deadline = .stopped) ∧
      (new ≠ .clear →
        (w.changed new time now).owed = w.owed ∧ (w.changed new time now).firstTime = w.firstTime ∧
          (w.changed new time now).deadline = w.deadline) := by
  have hne : new ≠ w.level := fun e => by simp [e] at h
  have hc : w.changed new time now = (w.deescalate new).withRelay := by
    rw [Warning.changed, if_neg hne, if_neg (Nat.lt_asymm h)]
  rw [hc, Warning.deescalate]
  split <;> simp_all [Warning.withRelay, Warning.settled]

/-- A change of level changes the level, the acknowledgement owed and the relay alone. -/
theorem Warning.changed_frame (w : Warning) (new : Level) (time now : Nat) :
    w.changed new time now =
      { w with
        level := new, owed := (w.changed new time now).owed, firstTime := (w.changed new time now).firstTime
        deadline := (w.changed new time now).deadline, relay := (w.changed new time now).relay } := by
  unfold Warning.changed
  split
  · rename_i h
    rw [h]
  · unfold Warning.escalate Warning.deescalate
    split <;> split <;> rfl

theorem Warning.changed_relay_eq {w : Warning} {new : Level} (time now : Nat) (h : new ≠ w.level) :
    (w.changed new time now).relay = (w.changed new time now).relayRequired := by
  unfold Warning.changed
  rw [if_neg h]
  split <;> rfl

/-- Settles O45: by the level change as the notice and the record of the warning unit that it leaves. -/
theorem aLevelChangeHasItsEffects : Obligations.ALevelChangeHasItsEffects := by
  rintro s new cause hne hroom hrun t rfl
  have hbar : ∀ run, s.cable.run = some run → levelBars run.kind new = false := fun run hr => by
    rw [← Bool.not_eq_true, levelBars_iff]
    obtain ⟨halarm, hwarn⟩ := hrun run hr
    exact fun h => h.elim halarm fun ⟨hk, hl⟩ => hwarn hk hl
  rw [State.changeLevel_warning]
  refine ⟨Warning.changed_level _ _ _ _, Warning.changed_relay_eq _ _ hne, Warning.changed_up _ _, Warning.changed_down _ _, ?_⟩
  generalize hc : s.warning.changed new s.clock.time s.elapsed = w
  have hframe := s.warning.changed_frame new s.clock.time s.elapsed
  rw [hc] at hframe
  have hu : ({ s with warning := w } : State).hasRoom = true := hroom
  rw [State.changeLevel_eq s new cause .nobody hne hbar, hc, State.notice_told _ _ hu, ← hframe]
  have hlog : s.archive.hasRoom = true := State.hasRoom_archive hroom
  exact (State.levelRecord_recorded (({ s with warning := w } : State).told _) _ .nobody hlog).1

/-! ### Acknowledgement and timers -/

/-- Settles O46: by the checks of R93, and by the LEVEL record of each timer's expiry. -/
theorem acknowledgementsAndTimersOfTheWarningUnit : Obligations.AcknowledgementsAndTimersOfTheWarningUnit := by
  refine ⟨Warning.relayRequired_iff, ?_, fun s hroom e he => ?_, fun s hroom hlive e he => ?_⟩
  · rintro s p tag ht h rfl
    refine ⟨Accepted.replies ⟨rfl, rfl, rfl, ht, rfl⟩ rfl, fun l => ⟨fun ho => ?_, fun ho hl => ?_, fun ho hl hroom => ?_⟩⟩
    · have hack : ∀ b : State, b.warning = (s.heard p).warning → b.ackLevel p (some l) = b.reply p .notOwed := fun b hb => by
        simp [State.ackLevel, hb, ho]
      exact Accepted.replies ⟨rfl, rfl, rfl, ht, rfl⟩ (hack _ rfl)
    · have hack : ∀ b : State, b.warning = (s.heard p).warning → b.ackLevel p (some l) = b.reply p .stale := fun b hb => by
        simp [State.ackLevel, hb, ho, hl]
      exact Accepted.replies ⟨rfl, rfl, rfl, ht, rfl⟩ (hack _ rfl)
    · have hack : ∀ b : State, b.warning = (s.heard p).warning → ∀ u, u = b.withWarning b.warning.settled →
          b.ackLevel p (some l) =
            (u.defer p false true false .empty).hand (.level (u.warning.body (.acknowledged p l)))
              ((u.defer p false true false .empty).ownerOf p) := by
        rintro b hb u rfl
        simp only [State.ackLevel]
        rw [if_neg (by simp [hb, ho]), if_neg (by rw [hb]; exact Nat.not_lt.2 hl)]
        rfl
      have acc : Accepted (.ackLevel p tag (some (some l))) s p tag _ 3 (s.heard p) := ⟨rfl, rfl, rfl, ht, rfl⟩
      obtain ⟨t, hexec, hans, hsame, hrec⟩ := acc.records (hack ((s.heard p).occupy p 3 tag) rfl _ rfl) rfl hroom
        (b := (s.heard p).withWarning (s.heard p).warning.settled) (.of_ports rfl)
      have hw : t.warning = (s.heard p).warning.settled.withRelay := hrec.warning_eq
      refine ⟨t, hexec, hans, hsame, by rw [hw]; rfl, fun hs => ?_, by rw [hw]; exact hrec⟩
      rw [hw]
      simp [Warning.withRelay, Warning.relayRequired, Warning.settled, hs]
  · have hexec : exec .deadlineExpiry s =
        .next (((s.advanceTo e).withWarning { s.warning with deadline := .expired }).levelRecord .deadlineExpired .nobody).settle := by
      show s.deadlineExpiry.done = _
      rw [State.deadlineExpiry, he]
      rfl
    obtain ⟨hrec, hslot⟩ := State.levelRecord_event ((s.advanceTo e).withWarning { s.warning with deadline := .expired })
      .deadlineExpired hroom
    exact ⟨_, hexec, hslot, rfl, fun ho => (Warning.relayRequired_iff _).2 (.inl ⟨ho, rfl⟩), hrec⟩
  · have hexec : exec .silenceTimerExpiry s =
        .next (((s.advanceTo e).withWarning { s.warning with silent := true, silenceTimer := none }).levelRecord .linkSilent
          .nobody).settle := by
      show s.silenceExpiry.done = _
      rw [State.silenceExpiry, hlive, he]
      rfl
    obtain ⟨hrec, hslot⟩ := State.levelRecord_event
      ((s.advanceTo e).withWarning { s.warning with silent := true, silenceTimer := none }) .linkSilent hroom
    exact ⟨_, hexec, hslot, rfl, fun hl => (Warning.relayRequired_iff _).2 (.inr ⟨hl, rfl⟩), hrec⟩

end Sys2Proof.Machine
end

section
/-! SUPPORT. The end of a run where its notice and its record find room, and the cableway's claims, plans and sample points (R108 to
R113, R117, R119, R128, R135). -/

namespace Sys2Proof.Machine

/-! ### The end of a run -/

/-- A run in progress that ends, its notice and its record finding room. -/
theorem State.endRun_runEnded (s : State) (cause : EndCause) (hrun : s.cable.run.isSome = true) (hrec : s.gauging.run.isSome = true)
    (hroom : s.hasRoom = true) :
    RunEnded s (s.endRun cause) cause (s.cable.ended cause) ∧ (s.endRun cause).ports = s.ports := by
  obtain ⟨run, hrun⟩ := Option.isSome_iff_exists.1 hrun
  obtain ⟨rr, hrr⟩ := Option.isSome_iff_exists.1 hrec
  generalize hu : ({ (match endEvent cause with
      | none => s
      | some e => s.told (.cableway e cause s.cable.latestHold (some (run.vertical + 1)) s.cable.lines)) with
    cable := s.cable.ended cause
    gauging :=
      { s.gauging with
        run := none, exposure := none, kept := [], result := .computing, computing := some (s.formRecord rr cause)
        nextId := nextGaugingId s.gauging.nextId } } : State) = u
  have hend : s.endRun cause = u.hand (.gauging (s.formRecord rr cause)) .gauging := by
    subst hu
    have htold := fun e => State.notice_told (s.withCable (s.cable.ended cause))
      (.cableway e cause s.cable.latestHold (some (run.vertical + 1)) s.cable.lines) hroom
    have hnotice : ∀ e, ((s.withCable (s.cable.ended cause)).cablewayNotice e cause (some (run.vertical + 1))) =
        { s.told (.cableway e cause s.cable.latestHold (some (run.vertical + 1)) s.cable.lines) with
          cable := s.cable.ended cause } := fun e => htold e
    unfold State.endRun
    rw [hrun]
    show (match endEvent cause with
      | none => s.withCable (s.cable.ended cause)
      | some e => (s.withCable (s.cable.ended cause)).cablewayNotice e cause (some (run.vertical + 1))).gaugeEnd cause = _
    simp only [hnotice]
    cases endEvent cause with
    | none =>
      simp only [State.gaugeEnd, State.withCable, hrr]
      rfl
    | some e =>
      simp only [State.gaugeEnd, State.told, hrr]
      rfl
  have hlog : s.archive.hasRoom = true := State.hasRoom_archive hroom
  have hu' : u.archive.hasRoom = true ∧ u.ports = s.ports := by
    subst hu
    cases endEvent cause
    · exact ⟨hlog, rfl⟩
    · exact ⟨hlog, rfl⟩
  obtain ⟨hrecorded, hports⟩ := u.hand_recorded (.gauging (s.formRecord rr cause)) .gauging hu'.1
  rw [hend]
  exact ⟨⟨run, hrun, rr, hrr, by subst hu; exact hrecorded⟩, hports.trans hu'.2⟩

/-- The end of a run is told of a state whose ports are others, and whose cableway is another with the same run, latest hold and
encoder lines. -/
theorem RunEnded.of_cable {s t : State} {cause : EndCause} {c k : Cableway} {q : Ports}
    (h : RunEnded { s with cable := k, ports := q } t cause c) (hr : k.run = s.cable.run)
    (hh : k.latestHold = s.cable.latestHold) (hl : k.lines = s.cable.lines) : RunEnded s t cause c := by
  obtain ⟨run, hrun, rr, hrr, hrec⟩ := h
  refine ⟨run, hr.symm.trans hrun, rr, hrr, Recorded.of_same ?_ hrec⟩
  simp only [hh, hl]
  cases endEvent cause with
  | none => exact .of_ports rfl
  | some e => exact .of_ports rfl

theorem Recorded.withCable {s t : State} {r : Record} (h : Recorded s t r) (c : Cableway) :
    Recorded { s with cable := c } { t with cable := c } r := by
  obtain ⟨⟨h1, h2, h3, h4, h5, h6, -, h8⟩, hq⟩ := h
  exact ⟨⟨h1, h2, h3, h4, h5, h6, rfl, h8⟩, hq⟩

theorem RunEnded.withCable {s t : State} {cause : EndCause} {c : Cableway} (h : RunEnded s t cause c) (d : Cableway) :
    RunEnded s { t with cable := d } cause d := by
  obtain ⟨run, hrun, rr, hrr, hrec⟩ := h
  exact ⟨run, hrun, rr, hrr, hrec.withCable d⟩

theorem RunEnded.same {s t u : State} {cause : EndCause} {c : Cableway} (h : RunEnded s t cause c) (g : SameBlocks t u) :
    RunEnded s u cause c := by
  obtain ⟨run, hrun, rr, hrr, hrec⟩ := h
  exact ⟨run, hrun, rr, hrr, hrec.same g⟩

theorem State.endAndRetrieve_eq (s : State) (cause : EndCause) (hrun : s.cable.run.isSome = true)
    (hrec : s.gauging.run.isSome = true) :
    s.endAndRetrieve cause = { s.endRun cause with cable := (s.cable.ended cause).retrieve s.elapsed } := by
  obtain ⟨hc, -, -⟩ := s.endRun_blocks cause hrun hrec
  have helapsed : (s.endRun cause).elapsed = s.elapsed := by
    unfold State.endRun
    split
    · rfl
    · simp only [State.gaugeEnd]
      split <;> split <;> rfl
  rw [State.endAndRetrieve, State.retrieve, hc, helapsed]
  rfl

/-- A run that ends with retrieval. -/
theorem State.endAndRetrieve_runEnded (s : State) (cause : EndCause) (hrun : s.cable.run.isSome = true)
    (hrec : s.gauging.run.isSome = true) (hroom : s.hasRoom = true) :
    RunEnded s (s.endAndRetrieve cause) cause ((s.cable.ended cause).retrieve s.elapsed) ∧
      (s.endAndRetrieve cause).ports = s.ports := by
  obtain ⟨hend, hports⟩ := s.endRun_runEnded cause hrun hrec hroom
  rw [s.endAndRetrieve_eq cause hrun hrec]
  exact ⟨hend.withCable _, hports⟩

/-- A command whose owner ends the run in progress with retrieval, having changed no more of the cableway than its holder and its
plan. -/
theorem Accepted.endsRun {i : Instr} {s h : State} {p : Port} {tag : Byte} {r : Request} {code : Nat}
    (acc : Accepted i s p tag r code h) {cause : EndCause} {k : Cableway}
    (ho : (h.occupy p (BitVec.ofNat 8 code) tag).toOwner p r =
      (({ h.occupy p (BitVec.ofNat 8 code) tag with cable := k } : State).endAndRetrieve cause).reply p .ok)
    (hrun : h.cable.run.isSome = true) (hrec : h.gauging.run.isSome = true) (hroom : h.hasRoom = true)
    (hr : k.run = h.cable.run) (hh : k.latestHold = h.cable.latestHold) (hl : k.lines = h.cable.lines) :
    ∃ t, exec i s = .next t ∧ Answered t p code tag .ok .empty ∧ SamePorts h t p ∧
      RunEnded h t cause ((k.ended cause).retrieve h.elapsed) := by
  have hrun' : ({ h.occupy p (BitVec.ofNat 8 code) tag with cable := k } : State).cable.run.isSome = true := hr ▸ hrun
  obtain ⟨hend, hports⟩ := State.endAndRetrieve_runEnded _ cause hrun' hrec hroom
  obtain ⟨t, hexec, hans, hsame, hblocks⟩ := acc.answers ho hports (.of_eq rfl)
  exact ⟨t, hexec, hans, hsame,
    RunEnded.of_cable (s := h) (q := (h.occupy p (BitVec.ofNat 8 code) tag).ports) (hend.same hblocks) hr hh hl⟩

/-! ### The sample points (R117) -/

/-- Settles O47: by the two depths of the two-point method and the one of the others. -/
theorem samplePointsFollowTheDepth : Obligations.SamplePointsFollowTheDepth := by
  rintro minimum offset d t limit rfl
  refine ⟨by simp [samplePoints], fun hd => ?_, fun hd => ?_⟩
  · simp [samplePoints, hd, Nat.not_lt.2 hd]
  · simp [samplePoints, hd, Nat.not_le.2 hd]

/-! ### Claims (R108 to R111) -/

theorem newestStage_none_iff (l : List Observation) : newestStage l = none ↔ ∀ o ∈ l, o.stage = none := by
  rw [newestStage, List.getLast?_eq_none_iff, List.filterMap_eq_nil_iff]

theorem State.barred_iff (s : State) (k : HoldKind) :
    s.barred k = true ↔
      (s.warning.level = .alarm ∨ (k = .unattended ∧ s.warning.level = .warn)) ∨
        (∀ o ∈ s.lau.series, o.stage = none) ∨
        ∃ h, newestStage s.lau.series = some h ∧ stageLimit s.cable.settings k < h := by
  rw [State.barred, Bool.or_eq_true, levelBars_iff, ← newestStage_none_iff]
  cases newestStage s.lau.series <;> simp

theorem holdKind_eq {p : Port} (hp : p ≠ .T) : holdKind p = if p = .F then .attended else .unattended := by
  cases p
  · rfl
  · exact absurd rfl hp
  · rfl

/-- Settles O48: by the bar test's three parts, and the checks of R109. -/
theorem claimsPassTheBarTest : Obligations.ClaimsPassTheBarTest := by
  refine ⟨fun s k => ?_, ?_⟩
  · cases k
    · exact s.barred_iff .unattended
    · exact s.barred_iff .attended
  · rintro s p tag ht hp h rfl
    have acc : Accepted (.claimCableway p tag true) s p tag (.claimCableway true) 5 (s.heard p) :=
      ⟨rfl, rfl, rfl, ht, decide_eq_true hp⟩
    have hrefuse : ∀ res, (∀ b : State, b.cable = (s.heard p).cable → b.claimCableway p = b.reply p res) →
        ∃ t, exec (.claimCableway p tag true) s = .next t ∧ Answered t p 5 tag res .empty ∧ SameBlocks (s.heard p) t ∧
          SamePorts (s.heard p) t p := fun res hres => acc.replies (hres _ rfl)
    refine ⟨fun hh => hrefuse _ fun b hb => ?_, fun hh hne => hrefuse _ fun b hb => ?_, fun hh => ⟨fun hs => ?_, fun hs hu => ?_, ?_⟩⟩
    · simp [State.claimCableway, hb, hh]
    · simp [State.claimCableway, hb, hh, hne]
    · exact hrefuse _ fun b hb => by simp [State.claimCableway, hb, hh, hs]
    · exact hrefuse _ fun b hb => by simp [State.claimCableway, hb, hh, hs, hu]
    · rintro hs hav k rfl
      have hclaim : ∀ b : State, b.cable = (s.heard p).cable →
          b.claimCableway p =
            if b.barred (holdKind p) then b.reply p .barred
            else (b.withCable { b.cable with holder := some p, state := .claimed, plan := none }).reply p .ok := fun b hb => by
        simp [State.claimCableway, hb, hh, hs, hav]
      rw [← holdKind_eq hp]
      refine ⟨fun hbar => acc.replies ((hclaim ((s.heard p).occupy p 5 tag) rfl).trans (if_pos hbar)), fun hbar => ?_⟩
      exact acc.answers ((hclaim ((s.heard p).occupy p 5 tag) rfl).trans (if_neg (Bool.not_eq_true _ ▸ hbar))) rfl (.of_ports rfl)

/-- A request of the holder from another port. -/
theorem State.fromHolder_other (s : State) (p : Port) (f : State → State) (h : s.cable.holder ≠ some p) :
    s.fromHolder p f = s.reply p .notHolder := if_neg h

theorem State.fromHolder_holder (s : State) (p : Port) (f : State → State) (h : s.cable.holder = some p) :
    s.fromHolder p f = f s := if_pos h

/-- Settles O49: by holder and run state, a run in progress ended. -/
theorem claimsArePassedOnAndReleased : Obligations.ClaimsArePassedOnAndReleased := by
  refine ⟨?_, ?_⟩
  · rintro s tag x ht h rfl
    have acc : Accepted (.forceClaim .F tag true x) s .F tag (.forceClaim true) 12 ((s.sample x).heard .F) :=
      ⟨rfl, rfl, rfl, ht, rfl⟩
    generalize (s.sample x).heard .F = h at acc
    refine ⟨fun hh => ?_, fun hh => ?_, fun hh => ?_⟩
    · have hforce : ∀ b : State, b.cable = h.cable → b.forceClaim .F = b.reply .F .ok := fun b hb => by
        simp [State.forceClaim, hb, hh]
      exact acc.replies (hforce (h.occupy .F 12 tag) rfl)
    · have hforce : ∀ b : State, b.cable = h.cable → b.forceClaim .F = b.reply .F .wrongState := fun b hb => by
        simp [State.forceClaim, hb, hh]
      exact acc.replies (hforce (h.occupy .F 12 tag) rfl)
    · refine ⟨fun hr => ?_, fun hr hrec hroom => ?_⟩
      · have hforce : ∀ b : State, b.cable = h.cable →
            b.forceClaim .F = (b.withCable { b.cable with holder := some .F, plan := none }).reply .F .ok := fun b hb => by
          simp [State.forceClaim, hb, hh, hr]
        exact acc.answers (hforce (h.occupy .F 12 tag) rfl) rfl (.of_ports rfl)
      · have hforce : ∀ b : State, b.cable = h.cable →
            b.forceClaim .F =
              (({ b with cable := { b.cable with holder := some .F, plan := none } } : State).endAndRetrieve .takenOver).reply .F
                .ok := fun b hb => by
          simp [State.forceClaim, hb, hh, hr, State.withCable]
        exact acc.endsRun (hforce (h.occupy .F 12 tag) rfl) hr hrec hroom rfl rfl rfl
  · rintro s p tag x ht hp h rfl
    have acc : Accepted (.releaseCableway p tag true x) s p tag (.releaseCableway true) 24 ((s.sample x).heard p) :=
      ⟨rfl, rfl, rfl, ht, decide_eq_true hp⟩
    generalize (s.sample x).heard p = h at acc
    refine ⟨fun hh => acc.replies (State.fromHolder_other (h.occupy p 24 tag) p (fun s => s.dropClaim.reply p .ok) hh), fun hh => ?_⟩
    have hrelease : ∀ b : State, b.cable = h.cable → ∀ d, b.dropClaim = d → b.releaseCableway p = d.reply p .ok := by
      rintro b hb d rfl
      exact State.fromHolder_holder b p _ (by rw [hb, hh])
    refine ⟨fun hs => ?_, fun hs hr => ?_, fun hs hr => ?_, fun hs hr hrec hroom => ?_⟩
    · have hdrop : ∀ b : State, b.cable = h.cable →
          b.dropClaim = b.withCable { b.cable with holder := none, plan := none, state := .idle } := fun b hb => by
        simp [State.dropClaim, hb, hs]
      exact acc.answers (hrelease (h.occupy p 24 tag) rfl _ (hdrop (h.occupy p 24 tag) rfl)) rfl (.of_ports rfl)
    · have hdrop : ∀ b : State, b.cable = h.cable → b.dropClaim = b.withCable { b.cable with holder := none } := fun b hb => by
        simp [State.dropClaim, hb, hs, hr]
      exact acc.answers (hrelease (h.occupy p 24 tag) rfl _ (hdrop (h.occupy p 24 tag) rfl)) rfl (.of_ports rfl)
    · have hdrop : ∀ b : State, b.cable = h.cable → b.dropClaim = (b.withCable { b.cable with holder := none }).retrieve :=
        fun b hb => by simp [State.dropClaim, hb, hs, hr]
      exact acc.answers (hrelease (h.occupy p 24 tag) rfl _ (hdrop (h.occupy p 24 tag) rfl)) rfl (.of_ports rfl)
    · have hdrop : ∀ b : State, b.cable = h.cable →
          b.dropClaim = ({ b with cable := { b.cable with holder := none } } : State).endAndRetrieve .released := fun b hb => by
        simp [State.dropClaim, hb, hs, hr, State.withCable]
      exact acc.endsRun (hrelease (h.occupy p 24 tag) rfl _ (hdrop (h.occupy p 24 tag) rfl)) hr hrec hroom rfl rfl rfl

end Sys2Proof.Machine
end

section
/-! SUPPORT. The plans that LOAD_PLAN's checks let pass (R112, R113). -/

namespace Sys2Proof.Machine

/-! ### The verticals of a plan -/

/-- What a vertical's method carries of its fields (R113). -/
def fieldsKind (v : VerticalFields) : VerticalKind :=
  match v.method with
  | some .onePoint => .onePoint v.exposure
  | some .twoPoint => .twoPoint v.exposure
  | _ => .edge v.edgeDepth

/-- The vertical of a plan that a vertical's fields give. -/
def fieldsVertical (v : VerticalFields) : PlanVertical := { distance := v.distance, kind := fieldsKind v }

/-- The ranges of a vertical's fields (R113). -/
def FieldsInRange (v : VerticalFields) (span : Nat) : Prop :=
  v.distance ≤ span ∧
    ((v.method = some .edge ∧ v.edgeDepth ≤ 25000) ∨
      ((v.method = some .onePoint ∨ v.method = some .twoPoint) ∧ 20 ≤ v.exposure ∧ v.exposure ≤ 120))

theorem checkVertical_iff (v : VerticalFields) (span : Nat) (w : PlanVertical) :
    checkVertical v span = some w ↔ FieldsInRange v span ∧ w = fieldsVertical v := by
  by_cases hd : v.distance ≤ span
  · cases hm : v.method with
    | none => simp [checkVertical, FieldsInRange, hm]
    | some m =>
      cases m <;>
        simp [checkVertical, FieldsInRange, fieldsVertical, fieldsKind, hm, hd, Nat.not_lt.2 hd,
          within_iff, eq_comm (a := w), and_assoc]
  · simp [checkVertical, FieldsInRange, hd, Nat.lt_of_not_le hd]

theorem checkVerticals_iff (span : Nat) (l : List VerticalFields) (m : List PlanVertical) :
    checkVerticals span l = some m ↔ (∀ v ∈ l, FieldsInRange v span) ∧ m = l.map fieldsVertical := by
  induction l generalizing m with
  | nil => simp [checkVerticals, eq_comm]
  | cons v l ih =>
    rw [checkVerticals]
    constructor
    · intro h
      split at h
      · rename_i a n hv hl
        obtain ⟨hr, rfl⟩ := (checkVertical_iff v span a).1 hv
        obtain ⟨hrs, rfl⟩ := (ih n).1 hl
        exact ⟨List.forall_mem_cons.2 ⟨hr, hrs⟩, (Option.some.inj h).symm⟩
      · cases h
    · rintro ⟨hr, rfl⟩
      obtain ⟨hv, hl⟩ := List.forall_mem_cons.1 hr
      rw [(checkVertical_iff v span _).2 ⟨hv, rfl⟩, (ih _).2 ⟨hl, rfl⟩]
      rfl

theorem increasing_iff (l : List PlanVertical) : increasing l = true ↔ l.Pairwise (fun v w => v.distance < w.distance) := by
  induction l with
  | nil => simp [increasing]
  | cons a l ih =>
    cases l with
    | nil => simp [increasing]
    | cons b l =>
      rw [increasing, Bool.and_eq_true, decide_eq_true_eq, ih, List.pairwise_cons (a := a)]
      refine ⟨fun ⟨hab, hl⟩ => ⟨fun c hc => ?_, hl⟩, fun ⟨ha, hl⟩ => ⟨ha b List.mem_cons_self, hl⟩⟩
      rcases List.mem_cons.1 hc with rfl | hc
      · exact hab
      · exact hab.trans ((List.pairwise_cons.1 hl).1 c hc)

theorem isEdge_iff (o : Option PlanVertical) : isEdge o = true ↔ o.map (fun v => v.kind.isMeasured) = some false := by
  cases o <;> simp [isEdge]

/-- A vertical in its ranges is measured when its method is not EDGE. -/
theorem FieldsInRange.measured {v : VerticalFields} {span : Nat} (h : FieldsInRange v span) :
    (fieldsKind v).isMeasured = !decide (v.method = some .edge) := by
  obtain ⟨-, ⟨hm, -⟩ | ⟨hm | hm, -⟩⟩ := h <;> simp [fieldsKind, hm, VerticalKind.isMeasured]

theorem FieldsInRange.method_eq {v : VerticalFields} {span : Nat} (h : FieldsInRange v span) :
    some (fieldsKind v).method = v.method := by
  obtain ⟨-, ⟨hm, -⟩ | ⟨hm | hm, -⟩⟩ := h <;> simp [fieldsKind, hm, VerticalKind.method]

/-- An end of the plan in its ranges is an EDGE by its field. -/
theorem map_measured_iff {o : Option VerticalFields} {span : Nat} (h : ∀ v, o = some v → FieldsInRange v span) :
    o.map (fun v => (fieldsKind v).isMeasured) = some false ↔ o.map (·.method) = some (some .edge) := by
  cases o with
  | none => simp
  | some v => simp [(h v rfl).measured]

/-- The plans that check 3 of R113 admits. -/
theorem checkPlan_iff (f : PlanFields) (span : Nat) (plan : Plan) :
    checkPlan f span = some plan ↔
      plan = { a := f.a, b := f.b, verticals := f.verticals.map fieldsVertical } ∧ (∀ v ∈ f.verticals, FieldsInRange v span) ∧
        (1 ≤ f.a ∧ f.a ≤ 20000 ∧ f.b ≤ 100 ∧ 3 ≤ f.verticals.length ∧ f.verticals.length ≤ 40) ∧
        f.verticals.Pairwise (fun v w => v.distance < w.distance) ∧ f.verticals.head?.map (·.method) = some (some .edge) ∧
        f.verticals.getLast?.map (·.method) = some (some .edge) ∧ ∃ v ∈ f.verticals, v.method ≠ some .edge := by
  by_cases hr : ∀ v ∈ f.verticals, FieldsInRange v span
  · have hhead : isEdge (f.verticals.map fieldsVertical).head? = true ↔
        f.verticals.head?.map (·.method) = some (some .edge) := by
      rw [isEdge_iff, List.head?_map, Option.map_map]
      exact map_measured_iff fun v hv => hr v (List.mem_of_head? hv)
    have hlast : isEdge (f.verticals.map fieldsVertical).getLast? = true ↔
        f.verticals.getLast?.map (·.method) = some (some .edge) := by
      rw [isEdge_iff, List.getLast?_map, Option.map_map]
      exact map_measured_iff fun v hv => hr v (List.mem_of_getLast? hv)
    have hany : (f.verticals.map fieldsVertical).any (fun v => v.kind.isMeasured) = true ↔
        ∃ v ∈ f.verticals, v.method ≠ some .edge := by
      rw [List.any_map, List.any_eq_true]
      refine exists_congr fun v => and_congr_right fun hv => ?_
      show (fieldsKind v).isMeasured = true ↔ _
      simp [(hr v hv).measured]
    have hinc : increasing (f.verticals.map fieldsVertical) = true ↔
        f.verticals.Pairwise (fun v w => v.distance < w.distance) := by
      rw [increasing_iff, List.pairwise_map]
      rfl
    simp only [checkPlan, (checkVerticals_iff span f.verticals _).2 ⟨hr, rfl⟩, Option.ite_none_right_eq_some, Bool.and_eq_true,
      hhead, hlast, hany, hinc, within_iff, decide_eq_true_eq, List.length_map, Option.some.injEq]
    constructor
    · rintro ⟨⟨⟨⟨⟨⟨⟨h1, h2⟩, h3⟩, h4⟩, h5⟩, h6⟩, h7⟩, rfl⟩
      exact ⟨rfl, hr, ⟨h1.1, h1.2, h2, h3.1, h3.2⟩, h4, h5, h6, h7⟩
    · rintro ⟨rfl, -, ⟨h1, h1', h2, h3, h3'⟩, h4, h5, h6, h7⟩
      exact ⟨⟨⟨⟨⟨⟨⟨⟨h1, h1'⟩, h2⟩, h3, h3'⟩, h4⟩, h5⟩, h6⟩, h7⟩, rfl⟩
  · have hnone : checkVerticals span f.verticals = none := by
      rw [Option.eq_none_iff_forall_ne_some]
      exact fun m hm => hr ((checkVerticals_iff span f.verticals m).1 hm).1
    simp [checkPlan, hnone, hr]

/-- Settles O50: by the plans that the checks let pass, and by the checks of R113 in order. -/
theorem plansAreLoadedByTheirChecks : Obligations.PlansAreLoadedByTheirChecks := by
  refine ⟨fun f span plan hp => ?_, fun f span h1 h2 h3 h4 h5 hv hinc hhead hlast hmid => ?_, ?_, ?_⟩
  · obtain ⟨rfl, hr, ⟨h1, h2, h3, h4, h5⟩, hinc, hhead, hlast, v, hv, hm⟩ := (checkPlan_iff f span plan).1 hp
    refine ⟨rfl, rfl, h1, h2, h3, by simpa using h4, by simpa using h5, ?_, ?_, List.pairwise_map.2 hinc, ?_, ?_, ?_, ?_⟩
    · simp [fieldsVertical]
    · rw [List.map_map]
      exact List.map_congr_left fun v hv => (hr v hv).method_eq
    · rw [List.forall_mem_map]
      intro v hv
      obtain ⟨hd, ⟨hm, hrange⟩ | ⟨hm | hm, hrange⟩⟩ := hr v hv <;>
        simp [fieldsVertical, fieldsKind, hm, VerticalKind.isMeasured, VerticalKind.exposure, hd, hrange]
    · rw [List.head?_map, Option.map_map]
      exact (map_measured_iff fun v hv => hr v (List.mem_of_head? hv)).2 hhead
    · rw [List.getLast?_map, Option.map_map]
      exact (map_measured_iff fun v hv => hr v (List.mem_of_getLast? hv)).2 hlast
    · exact ⟨_, List.mem_map_of_mem hv, by show (fieldsKind v).isMeasured = true; simp [(hr v hv).measured, hm]⟩
  · refine ⟨_, (checkPlan_iff f span _).2 ⟨rfl, hv, ⟨h1, h2, h3, h4, h5⟩, hinc, hhead, hlast, hmid⟩, ?_⟩
    rw [List.map_map]
    rfl
  · rintro s p tag ht hp h rfl
    have acc : Accepted (.loadPlan p tag none) s p tag (.loadPlan none) 16 (s.heard p) := ⟨rfl, rfl, rfl, ht, decide_eq_true hp⟩
    generalize s.heard p = h at acc
    have hload : (h.occupy p 16 tag).loadPlan p none =
        (h.occupy p 16 tag).reply p
          (if h.cable.holder = some p then if h.cable.state ≠ .claimed then .wrongState else .badRequest else .notHolder) := by
      simp only [State.loadPlan, State.fromHolder, State.takePlan]
      split
      · split <;> simp_all
      · simp_all
    obtain ⟨t, hexec, hans, hblocks, hports⟩ := acc.replies hload
    refine ⟨t, hexec, hblocks, hports, fun hh => ?_, fun hh hs => ?_, fun hh hs => ?_⟩
    · rwa [if_neg hh] at hans
    · rwa [if_pos hh, if_pos hs] at hans
    · rwa [if_pos hh, if_neg (by simpa using hs)] at hans
  · rintro s p tag f ht hp h rfl
    have acc : Accepted (.loadPlan p tag (some f)) s p tag (.loadPlan (some f)) 16 (s.heard p) :=
      ⟨rfl, rfl, rfl, ht, decide_eq_true hp⟩
    generalize s.heard p = h at acc
    refine ⟨fun hh => acc.replies (State.fromHolder_other (h.occupy p 16 tag) p (fun s => s.takePlan p (some f)) hh), fun hh => ?_⟩
    have hload : ∀ b : State, b.cable = h.cable → b.loadPlan p (some f) = b.takePlan p (some f) := fun b hb =>
      State.fromHolder_holder b p _ (by rw [hb, hh])
    refine ⟨fun hs => ?_, fun hs => ⟨fun hm => ?_, fun hm hc => ?_, fun plan hc => ?_⟩⟩
    · have htake : ∀ b : State, b.cable = h.cable → b.takePlan p (some f) = b.reply p .wrongState := fun b hb => by
        simp [State.takePlan, hb, hs]
      exact acc.replies ((hload (h.occupy p 16 tag) rfl).trans (htake _ rfl))
    · have htake : ∀ b : State, b.cable = h.cable → b.takePlan p (some f) = b.reply p .badRequest := fun b hb => by
        rw [State.takePlan, if_neg (by simp [hb, hs])]
        exact if_pos hm
      exact acc.replies ((hload (h.occupy p 16 tag) rfl).trans (htake _ rfl))
    · have htake : ∀ b : State, b.cable = h.cable → b.takePlan p (some f) = b.reply p .range := fun b hb => by
        rw [State.takePlan, if_neg (by simp [hb, hs])]
        simp only [hm, Bool.false_eq_true, if_false, hb, hc]
      exact acc.replies ((hload (h.occupy p 16 tag) rfl).trans (htake _ rfl))
    · obtain ⟨-, hr, -⟩ := (checkPlan_iff f _ plan).1 hc
      have hm : f.verticals.any (fun v => v.method.isNone) = false := by
        rw [List.any_eq_false]
        intro v hv
        rw [← (hr v hv).method_eq]
        simp
      have htake : ∀ b : State, b.cable = h.cable →
          b.takePlan p (some f) = (b.withCable { b.cable with plan := some plan }).reply p .ok := fun b hb => by
        rw [State.takePlan, if_neg (by simp [hb, hs])]
        simp only [hm, Bool.false_eq_true, if_false, hb, hc]
      exact acc.answers ((hload (h.occupy p 16 tag) rfl).trans (htake (h.occupy p 16 tag) rfl)) rfl (.of_ports rfl)

end Sys2Proof.Machine
end

section
/-! SUPPORT. The motions of a run, equation by equation, and the requests that begin, keep and resume it (R105, R112, R114 to R122). -/

namespace Sys2Proof.Machine

/-! ### Motions (R105, R115 to R118) -/

theorem reached_carriage_iff (x : Encoders) (d : Int) : reached x (.carriage d) = true ↔ (x.carriage - d).natAbs ≤ 50 := by
  simp [reached]

theorem reached_reel_iff (x : Encoders) (d : Int) : reached x (.reel d) = true ↔ (x.reel - d).natAbs ≤ 10 := by
  simp [reached]

theorem stowed_iff (x : Encoders) : stowed x = true ↔ x.reel.natAbs ≤ 10 := by simp [stowed, reached]

section Motions
variable (s : State) (r : Run)

theorem State.enterTraversing_far {d : Int} (hd : d = ((s.cable.vertical r.vertical).distance : Nat))
    (h : 50 < (s.cable.lines.carriage - d).natAbs) :
    s.enterTraversing r =
      { s with
        cable :=
          { s.cable with
            run := some r, state := .traversing, target := some (.carriage d)
            drive := if s.cable.lines.carriage < d then .traverseOut else .traverseIn
            motionTimer := some (s.elapsed + 100 * s.cable.settings.traverseTimeout) } } := by
  subst hd
  exact if_neg (by rw [reached_carriage_iff]; omega)

theorem State.enterTraversing_near {d : Int} (hd : d = ((s.cable.vertical r.vertical).distance : Nat))
    (h : (s.cable.lines.carriage - d).natAbs ≤ 50) : s.enterTraversing r = s.enterSounding r := by
  subst hd
  exact if_pos ((reached_carriage_iff _ _).2 h)

theorem State.enterRaising_far (h : 10 < s.cable.lines.reel.natAbs) :
    s.enterRaising r =
      { s with
        cable :=
          { s.cable with
            run := some r, state := .raising, target := some (.reel 0)
            drive := if s.cable.lines.reel < 0 then .reelDown else .reelUp
            motionTimer := some (s.elapsed + 100 * s.cable.settings.reelTimeout) } } :=
  if_neg (by rw [stowed_iff]; omega)

theorem State.enterRaising_stowed (h : s.cable.lines.reel.natAbs ≤ 10) : s.enterRaising r = s.stowedArrival r :=
  if_pos ((stowed_iff _).2 h)

theorem State.enterPositioning_far {z : Int} (hz : z = r.zs.getD 0 + ((r.points[r.sample]?).getD 0 : Nat))
    (h : 10 < (s.cable.lines.reel - z).natAbs) :
    s.enterPositioning r =
      { s with
        cable :=
          { s.cable with
            run := some r, state := .positioning, target := some (.reel z)
            drive := if s.cable.lines.reel < z then .reelDown else .reelUp
            motionTimer := some (s.elapsed + 100 * s.cable.settings.reelTimeout) } } := by
  subst hz
  exact if_neg (by rw [reached_reel_iff]; omega)

theorem State.enterPositioning_near {z : Int} (hz : z = r.zs.getD 0 + ((r.points[r.sample]?).getD 0 : Nat))
    (h : (s.cable.lines.reel - z).natAbs ≤ 10) : s.enterPositioning r = s.enterCounting r := by
  subst hz
  exact if_pos ((reached_reel_iff _ _).2 h)

end Motions

/-! ### START_RUN -/

theorem Cableway.vertical_distance {c : Cableway} {plan : Plan} (h : c.plan = some plan) (k : Nat) :
    (c.vertical k).distance = (plan.verticals[k]?.map (fun v => v.distance)).getD 0 := by
  rw [Cableway.vertical, h, Option.bind_some]
  cases plan.verticals[k]? <;> rfl

/-- Settles O51: by the checks of R114, and the raising, the traverse or the sounding that the run begins with. -/
theorem aRunStarts : Obligations.ARunStarts := by
  rintro s p tag x ht hp h hh
  have hx : h.cable.lines = x := by
    rw [hh, ((s.sample x).heard_frame p).2.2.2.2.2.1]
    rfl
  have acc : Accepted (.startRun p tag true x) s p tag (.startRun true) 34 h := ⟨rfl, hh.symm, rfl, ht, decide_eq_true hp⟩
  clear hh
  refine ⟨fun ho => acc.replies (State.fromHolder_other (h.occupy p 34 tag) p (fun s => s.takeStart p) ho), fun ho hw => ?_,
    fun ho hs plan hplan k hk => ⟨fun hc => ?_, ?_⟩⟩
  all_goals
    have hstart : ∀ b : State, b.cable = h.cable → ∀ d, b.takeStart p = d → b.startRun p = d := by
      rintro b hb d rfl
      exact State.fromHolder_holder b p _ (by rw [hb, ho])
  · have htake : ∀ b : State, b.cable = h.cable → b.takeStart p = b.reply p .wrongState := fun b hb => by
      rcases hw with hw | hw
      · simp [State.takeStart, hb, hw]
      · simp [State.takeStart, hb, hw]
    exact acc.replies (hstart (h.occupy p 34 tag) rfl _ (htake _ rfl))
  all_goals
    have hnext : h.cable.nextMeasured 0 = some k := by simp [Cableway.nextMeasured, hplan, hk]
    have htake : ∀ b : State, b.cable = h.cable →
        b.takeStart p =
          if b.gauging.result = .computing then b.reply p .resultPending
          else if b.barred (holdKind p) then b.reply p .barred
          else (b.beginRun p plan k).reply p .ok := fun b hb => by
      simp [State.takeStart, hb, hs, hplan, hnext]
  · exact acc.replies (hstart (h.occupy p 34 tag) rfl _ ((htake (h.occupy p 34 tag) rfl).trans (if_pos hc)))
  · rintro kind hkind
    rw [← holdKind_eq hp] at hkind
    subst hkind
    refine ⟨fun hc hbar => ?_, fun hc hbar r hr c hcab g hg d hd => ?_⟩
    · exact acc.replies (hstart (h.occupy p 34 tag) rfl _
        ((htake (h.occupy p 34 tag) rfl).trans ((if_neg hc).trans (if_pos hbar))))
    generalize hv : ({ h.occupy p 34 tag with cable := c, gauging := g } : State) = v
    have hbegin : (h.occupy p 34 tag).beginRun p plan k =
        if stowed x then v.enterTraversing r else v.enterRaising { r with homing := true } := by
      subst hv hr hcab hg hx
      cases p
      · rfl
      · exact absurd rfl hp
      · rfl
    have hgo : (h.occupy p 34 tag).startRun p =
        (if stowed x then v.enterTraversing r else v.enterRaising { r with homing := true }).reply p .ok := by
      rw [← hbegin]
      exact hstart (h.occupy p 34 tag) rfl _ ((htake (h.occupy p 34 tag) rfl).trans ((if_neg hc).trans (if_neg (Bool.not_eq_true _ ▸ hbar))))
    have hlines : v.cable.lines = x := by
      subst hv hcab
      exact hx
    have hdist : d = ((v.cable.vertical r.vertical).distance : Nat) := by
      have hvplan : v.cable.plan = some plan := by
        subst hv hcab
        exact hplan
      have hrk : r.vertical = k := by rw [hr]
      rw [hd, hrk, Cableway.vertical_distance hvplan]
    refine ⟨fun hreel => ?_, fun hreel hfar => ?_, fun hreel hnear => ?_⟩
    · rw [if_neg (by rw [stowed_iff]; omega), State.enterRaising_far v _ (by rw [hlines]; exact hreel), hlines] at hgo
      exact acc.answers hgo (by subst hv; rfl) (.of_ports (by subst hv hcab; rfl))
    · rw [if_pos ((stowed_iff x).2 hreel), State.enterTraversing_far v r hdist (by rw [hlines]; exact hfar), hlines] at hgo
      exact acc.answers hgo (by subst hv; rfl) (.of_ports (by subst hv hcab; rfl))
    · rw [if_pos ((stowed_iff x).2 hreel), State.enterTraversing_near v r hdist (by rw [hlines]; exact hnear)] at hgo
      exact acc.answers hgo (by subst hv; rfl) (.of_ports (by subst hv hcab hr; rfl))

end Sys2Proof.Machine
end

section
/-! SUPPORT. The dead-man window, and a stowed weight met by a request (R115, R119, R120 to R122, R126, R127, R132 to R134). -/

namespace Sys2Proof.Machine

/-! ### A weight that is stowed -/

/-- What a stowed weight brings does not depend on the run state or on the ports it finds. -/
theorem StowedInRun.of_state {s t : State} {r : Run} {st : RunState} {q : Ports}
    (h : StowedInRun { s with cable := { s.cable with state := st }, ports := q } t r) : StowedInRun s t r := by
  refine ⟨fun hh => h.1 hh, fun hh rr hrr g hg => ⟨fun k hk => ((h.2 hh rr hrr g hg).1 k hk), fun hk hroom => ?_⟩⟩
  obtain ⟨run, hrun, rr', hrr', hrec⟩ := (h.2 hh rr hrr g hg).2 hk hroom
  refine ⟨run, hrun, rr', hrr', ?_⟩
  have hstate : ((({ s.cable with state := st } : Cableway).ended .complete).retrieve s.elapsed) =
      (s.cable.ended .complete).retrieve s.elapsed := by
    unfold Cableway.retrieve Cableway.retrieveCarriage Cableway.retrievalEnd
    show (if stowed s.cable.lines then _ else _) = (if stowed s.cable.lines then _ else _)
    split
    · show (if reached s.cable.lines _ then _ else _) = (if reached s.cable.lines _ then _ else _)
      split
      · show (match s.cable.holder with | some _ => _ | none => _) = (match s.cable.holder with | some _ => _ | none => _)
        split <;> rfl
      · rfl
    · rfl
  rw [← hstate]
  exact hrec

/-- The end of COMPUTING answers deferred reads alone: a slot that waits for no gauging record stays. -/
theorem Ports.answerGauging_slot (ps : Ports) (g : Gauging) (q p : Port) {o : Owed} (h : ps.slot p = some o)
    (hw : o.waitGauging = none) : (ps.answerGauging g q).slot p = some o := by
  by_cases hq : p = q
  · subst hq
    simp only [Ports.answerGauging, h, hw]
  · unfold Ports.answerGauging
    split
    · exact h
    · split
      · exact h
      · rw [Ports.slot_answer_other _ _ _ _ _ hq, h]

theorem Wake.computingEnd_slot (w : Wake) (index : Option Nat) (b : Bool) (p : Port) {o : Owed} (h : w.ports.slot p = some o)
    (hw : o.waitGauging = none) : (w.computingEnd index b).ports.slot p = some o := by
  unfold Wake.computingEnd
  split
  · exact h
  · refine Ports.answerGauging_slot _ _ _ p (Ports.answerGauging_slot _ _ _ p (Ports.answerGauging_slot _ _ _ p ?_ hw) hw) hw
    rw [Wake.notice_slot]
    exact h

/-- A gauging's record handed anywhere keeps a slot that waits for no gauging record. -/
theorem Wake.hand_gauging_slot (w : Wake) (r : Record) (t : Nat) (p : Port) {o : Owed} (h : w.ports.slot p = some o)
    (hw : o.waitGauging = none) : (w.hand r t .gauging).ports.slot p = some o := by
  cases hf : w.archive.state.isFailed with
  | true =>
    rw [Wake.hand_failed w r t _ hf]
    exact w.computingEnd_slot none true p h hw
  | false =>
    cases hroom : w.archive.hasRoom with
    | true =>
      obtain ⟨-, -, -, -, -, -, hports⟩ := w.hand_room r t .gauging hroom
      rw [hports]
      exact h
    | false =>
      rw [w.hand_full r t .gauging hf hroom]
      split
      · exact h
      · split <;> exact h

theorem State.stowedArrival_slot (s : State) (r : Run) (p : Port) {o : Owed} (h : s.ports.slot p = some o)
    (hw : o.waitGauging = none) : (s.stowedArrival r).ports.slot p = some o := by
  unfold State.stowedArrival
  split
  · rw [State.enterTraversing_ports]
    exact h
  · unfold State.completeVertical
    simp only
    split
    · rw [State.enterTraversing_ports]
      exact h
    · show (State.endRun _ .complete).ports.slot p = some o
      unfold State.endRun
      split
      · exact h
      · simp only [endEvent, State.gaugeEnd]
        split
        · exact h
        · exact Wake.hand_gauging_slot _ _ _ p h hw

/-- A command whose owner meets a weight already stowed. -/
theorem Accepted.stows {i : Instr} {s h v : State} {p : Port} {tag : Byte} {r : Request} {code : Nat} {run : Run}
    (acc : Accepted i s p tag r code h)
    (ho : (h.occupy p (BitVec.ofNat 8 code) tag).toOwner p r = (v.stowedArrival run).reply p .ok)
    (hv : v.ports = (h.occupy p (BitVec.ofNat 8 code) tag).ports) (hrun : v.cable.run.isSome = true) :
    ∃ t, exec i s = .next t ∧ Answered t p code tag .ok .empty ∧ (v.stowsQuietly run = true → SamePorts h t p) ∧
      StowedInRun v t run := by
  obtain ⟨id, hid⟩ := (taken_of_ports hv).slot
  have hexec : exec i s = .next ((v.stowedArrival run).answer p .ok .empty).settle := by
    rw [acc.exec_eq, ho]
    rfl
  refine ⟨_, hexec, ?_, fun hq => ?_, (v.stowedArrival_spec run hrun).same (answer_sameBlocks _ p .ok .empty)⟩
  · exact answered_settle _ p _ .ok .empty (v.stowedArrival_slot run p hid rfl) rfl
  · exact ((taken_of_ports ((v.stowedArrival_ports run hrun hq).trans hv)).answer (.of_eq rfl) .ok .empty).2.2

/-! ### The dead-man window (R120 to R122) -/

/-- The end of an event that leaves the ports as they are. -/
theorem event_ends {i : Instr} {s u v b : State} (hexec : exec i s = .next u.settle) (ho : u = v) (hp : v.ports = s.ports)
    (hb : SameBlocks b v) : ∃ t, exec i s = .next t ∧ (∀ q, t.ports.slot q = s.ports.slot q) ∧ SameBlocks b t := by
  subst ho
  exact ⟨_, hexec, fun q => by rw [State.settle_slot, hp], hb.trans (State.settle_sameBlocks u)⟩

/-- The dead-man window's requests by their checks (R120). -/
theorem State.holdAlive_holder (s : State) (p : Port) (h : s.cable.holder = some p) :
    s.holdAlive p =
      match s.cable.window with
      | none => s.reply p .wrongState
      | some ref =>
        if s.elapsed / 10 < ref + 10 then s.reply p .tooEarly
        else (s.withCable { s.cable with window := some (s.elapsed / 10) }).reply p .ok :=
  State.fromHolder_holder s p _ h

/-- RESUME from the holder of a paused run (R122). -/
theorem State.resumeRun_paused (s : State) (p : Port) (m : Remembered) (r : Run) (h : s.cable.holder = some p)
    (hs : s.cable.state = .paused) (hm : s.cable.remembered = some m) (hr : s.cable.run = some r) :
    s.resumeRun p =
      (({ s with cable := { s.cable with pauseTimer := none, remembered := none, window := some (s.elapsed / 10) } } :
        State).takeUp m.state r).reply p .ok := by
  rw [State.resumeRun, State.fromHolder_holder s p _ h]
  simp only [hs, hm, hr]
  rfl

/-- Settles O52: by the window's checks, the pause, and each state that RESUME takes up. -/
theorem theDeadManWindowPausesTheRun : Obligations.TheDeadManWindowPausesTheRun := by
  refine ⟨?_, fun s x hm r hr e he => ?_, ?_⟩
  · rintro s p tag ht hp h rfl
    have acc : Accepted (.holdAlive p tag true) s p tag (.holdAlive true) 14 (s.heard p) :=
      ⟨rfl, rfl, rfl, ht, decide_eq_true hp⟩
    generalize s.heard p = h at acc
    refine ⟨fun ho => acc.replies (if_neg ho), fun ho hw => ?_, fun ho r hw => ⟨fun hl => ?_, fun hl => ?_⟩⟩
    all_goals
      have halive := State.holdAlive_holder (h.occupy p 14 tag) p ho
      rw [show (h.occupy p 14 tag).cable.window = _ from hw] at halive
    · exact acc.replies halive
    · exact acc.replies (halive.trans (if_pos hl))
    · exact acc.answers (halive.trans (if_neg (Nat.not_lt.2 hl))) rfl (.of_ports rfl)
  · have hmax : max s.elapsed (10 * (r + 10 * s.cable.settings.deadMan)) = e := he.symm
    have hpause : (s.sample x).windowExpiry =
        { s with
          elapsed := e
          cable :=
            { s.cable with
              lines := x, state := .paused, remembered := some { state := s.cable.state, target := s.cable.target }
              drive := .off, target := none, motionTimer := none, exposureTimer := none, window := none
              pauseTimer := some (e + 100 * s.cable.settings.pauseLimit) }
          gauging := { s.gauging with exposure := none } } := by
      rw [State.windowExpiry, show (s.sample x).cable.window = some r from hr]
      subst he
      exact if_pos hm
    exact event_ends (i := .deadManWindowExpiry x) rfl hpause rfl (.of_ports rfl)
  · rintro s p tag x ht hp h hh
    have hx : h.cable.lines = x := by
      rw [hh, ((s.sample x).heard_frame p).2.2.2.2.2.1]
      rfl
    have acc : Accepted (.resume p tag true x) s p tag (.resume true) 25 h := ⟨rfl, hh.symm, rfl, ht, decide_eq_true hp⟩
    clear hh
    refine ⟨fun ho => acc.replies (if_neg ho), fun ho hs => ?_, ?_⟩
    · have hresume : ∀ b : State, b.cable = h.cable → b.resumeRun p = b.reply p .wrongState := fun b hb => by
        rw [State.resumeRun, State.fromHolder_holder b p _ (by rw [hb, ho]), hb]
        split
        · rename_i hpaused _ _
          exact absurd hpaused hs
        · rfl
      exact acc.replies (hresume _ rfl)
    rintro ho hs ⟨st, tg⟩ hm r hr c hc v hv z hz
    generalize hu : ({ h.occupy p 25 tag with
      cable := { h.cable with pauseTimer := none, remembered := none, window := some (h.elapsed / 10) } } : State) = u
    have hgo : (h.occupy p 25 tag).resumeRun p = (u.takeUp st r).reply p .ok := by
      subst hu
      exact State.resumeRun_paused (h.occupy p 25 tag) p ⟨st, tg⟩ r ho hs hm hr
    have hlines : u.cable.lines = x := by
      subst hu
      exact hx
    have hdist : ((v.distance : Nat) : Int) = ((u.cable.vertical r.vertical).distance : Nat) := by
      subst hu hv
      rfl
    refine ⟨?_, ?_, ?_, ?_, ?_, ?_, ?_⟩
    · rintro rfl hfar
      have hstep : u.takeUp .traversing r = _ := State.enterTraversing_far u r hdist (by rw [hlines]; exact hfar)
      rw [hstep, hlines] at hgo
      exact acc.answers hgo (by subst hu; rfl) (.of_ports (by subst hu hc; simp only [hr]; rfl))
    · rintro rfl hnear
      have hstep : u.takeUp .traversing r = _ := State.enterTraversing_near u r hdist (by rw [hlines]; exact hnear)
      rw [hstep] at hgo
      exact acc.answers hgo (by subst hu; rfl) (.of_ports (by subst hu hc; rfl))
    · rintro rfl
      exact acc.answers hgo (by subst hu; rfl) (.of_ports (by subst hu hc; rfl))
    · rintro rfl hfar
      have hstep : u.takeUp .positioning r = _ := State.enterPositioning_far u r hz (by rw [hlines]; exact hfar)
      rw [hstep, hlines] at hgo
      exact acc.answers hgo (by subst hu; rfl) (.of_ports (by subst hu hc; simp only [hr]; rfl))
    · rintro hcount
      have hstep : u.takeUp st r = u.enterCounting r := by
        rcases hcount with rfl | ⟨rfl, hnear⟩
        · rfl
        · exact State.enterPositioning_near u r hz (by rw [hlines]; exact hnear)
      rw [hstep] at hgo
      exact acc.answers hgo (by subst hu; rfl) (.of_ports (by subst hu hc hv; simp only [hr]; rfl))
    · rintro rfl hfar
      have hstep : u.takeUp .raising r = _ := State.enterRaising_far u r (by rw [hlines]; exact hfar)
      rw [hstep, hlines] at hgo
      exact acc.answers hgo (by subst hu; rfl) (.of_ports (by subst hu hc; simp only [hr]; rfl))
    · rintro rfl hnear w rfl
      have hstep : u.takeUp .raising r = _ := State.enterRaising_stowed u r (by rw [hlines]; exact hnear)
      rw [hstep] at hgo
      have hrun : u.cable.run.isSome = true := by
        subst hu
        simp [hr]
      obtain ⟨t, hexec, hans, hports, hstow⟩ := acc.stows hgo (by subst hu; rfl) hrun
      refine ⟨t, hexec, hans, fun hq => hports ?_, StowedInRun.of_state (st := .paused) (q := u.ports) ?_⟩
      · subst hu hc
        exact hq
      · subst hu hc
        rw [← hs]
        exact hstow

end Sys2Proof.Machine
end

section
/-! SUPPORT. Retrieval, the steps of a run by their events, and the counting of pulses (R105, R106, R115 to R119, R126, R127, R132 to
R134). -/

namespace Sys2Proof.Machine

/-! ### Retrieval (R126, R127) -/

/-- The carriage's leg of a retrieval, the weight stowed. -/
theorem Cableway.retrieve_stowed (c : Cableway) (now : Nat) (h : c.lines.reel.natAbs ≤ 10) :
    c.retrieve now = c.retrieveCarriage now := if_pos ((stowed_iff _).2 h)

theorem Cableway.retrievalEnd_eq (c : Cableway) :
    c.retrievalEnd =
      if c.holder.isSome then { c with state := .claimed, target := none, drive := .off, motionTimer := none }
      else { c with state := .idle, target := none, drive := .off, motionTimer := none, plan := none } := by
  unfold Cableway.retrievalEnd
  split
  · rename_i p hp
    exact (if_pos (by rw [hp]; rfl)).symm
  · rename_i hp
    exact (if_neg (by simp [hp])).symm

/-- A STUCK cableway, its notice finding room. -/
theorem State.stuck_told (s : State) (cause : EndCause) (hroom : s.hasRoom = true) :
    s.stuck cause =
      { s.told (.cableway .stuck cause s.cable.latestHold none s.cable.lines) with
        cable :=
          { s.cable with
            state := .stuck, holder := none, plan := none, available := false, drive := .off, target := none
            motionTimer := none } } := by
  unfold State.stuck State.cablewayNotice
  rw [State.notice_told]
  · rfl
  · exact hroom

/-- Settles O54: by the two legs of a retrieval, the faults within one, and CLEAR_FAULT. -/
theorem retrievalBringsTheWeightHome : Obligations.RetrievalBringsTheWeightHome := by
  refine ⟨fun c now => ⟨fun h => ?_, fun h hfar => ?_, fun h hnear => ?_⟩, ?_, ?_⟩
  · exact if_neg (by rw [stowed_iff]; omega)
  · rw [c.retrieve_stowed now h]
    exact if_neg (by rw [reached_carriage_iff]; omega)
  · rw [c.retrieve_stowed now h, Cableway.retrieveCarriage, if_pos ((reached_carriage_iff _ _).2 (by omega)), c.retrievalEnd_eq]
  · rintro s x hs u rfl
    refine ⟨fun ht hreel => ?_, fun ht hnear => ?_, fun hroom => ⟨?_, fun e he => ?_⟩⟩
    · have harrive : (s.sample x).reelArrival =
          (s.sample x).withCable ((s.sample x).cable.retrieve s.elapsed) := by
        rw [Cableway.retrieve_stowed _ _ hreel]
        simp only [State.reelArrival, State.sample_cable, hs, ht]
        exact if_pos ((reached_reel_iff _ _).2 (by simpa using hreel))
      exact event_ends (i := .reelArrival x) rfl harrive rfl (.of_ports rfl)
    · have harrive : (s.sample x).traverseArrival = (s.sample x).withCable (s.sample x).cable.retrievalEnd := by
        simp only [State.traverseArrival, State.sample_cable, hs, ht]
        exact if_pos ((reached_carriage_iff _ _).2 (by simpa using hnear))
      refine event_ends (i := .traverseArrival x) rfl harrive rfl (.of_ports ?_)
      simp only [State.sample_cable, Cableway.retrievalEnd]
      cases s.cable.holder <;> rfl
    · have hover : (s.sample x).overloaded = (s.sample x).stuck .overload := by
        simp [State.overloaded, hs, RunState.measuring]
      exact event_ends (i := .overload x) rfl (hover.trans (State.stuck_told _ _ hroom)) rfl (.of_ports rfl)
    · have hmotion : (s.sample x).motionExpiry = ((s.sample x).advanceTo e).stuck .motionTimeout := by
        simp [State.motionExpiry, hs, he, RunState.measuring]
      exact event_ends (i := .motionTimerExpiry x) rfl (hmotion.trans (State.stuck_told _ _ hroom)) rfl (.of_ports rfl)
  · rintro s tag ht h rfl
    have acc : Accepted (.clearFault .F tag true) s .F tag (.clearFault true) 6 (s.heard .F) := ⟨rfl, rfl, rfl, ht, rfl⟩
    generalize s.heard .F = h at acc
    refine ⟨fun hs => ?_, fun hs => acc.replies (if_neg hs)⟩
    have hspan : decide (0 < h.cable.settings.span) = decide (h.cable.settings.span ≠ 0) := by
      simp [Nat.pos_iff_ne_zero]
    rw [← hspan]
    exact acc.answers (if_pos hs) rfl (.of_ports rfl)

/-! ### The steps of a run (R115 to R119) -/

/-- An event that meets a weight already stowed. -/
theorem event_stows {i : Instr} {s u v : State} {r : Run} (hexec : exec i s = .next u.settle) (ho : u = v.stowedArrival r)
    (hp : v.ports = s.ports) (hrun : v.cable.run.isSome = true) :
    ∃ t, exec i s = .next t ∧ (v.stowsQuietly r = true → ∀ q, t.ports.slot q = s.ports.slot q) ∧ StowedInRun v t r := by
  subst ho
  refine ⟨_, hexec, fun hq q => ?_, (v.stowedArrival_spec r hrun).same (State.settle_sameBlocks _)⟩
  rw [State.settle_slot, v.stowedArrival_ports r hrun hq, hp]

/-- Settles O55: event by event, by the states that their arrivals and contacts enter. -/
theorem theStepsOfARun : Obligations.TheStepsOfARun := by
  rintro s x r hr u rfl v rfl
  have hrun : (s.sample x).cable.run = some r := hr
  refine ⟨fun hs d ht hd => ?_, fun hs => ⟨fun hz => ⟨?_, fun hfar => ?_, ?_⟩, fun hz => ?_, ?_, fun hdeep => ?_⟩,
    fun hs d ht hd => ?_, fun hs ht hnear => ?_⟩
  · have hstep : (s.sample x).traverseArrival = (s.sample x).enterSounding r := by
      simp only [State.traverseArrival, State.sample_cable, hs, ht, hr]
      exact if_pos ((reached_carriage_iff _ _).2 hd)
    exact event_ends (i := .traverseArrival x) rfl hstep rfl (.of_ports rfl)
  · have hstep : (s.sample x).surfaceContact = (s.sample x).withRun { r with zs := some x.reel } := by
      simp [State.surfaceContact, hs, hr, hz]
    exact event_ends (i := .surfaceContact x) rfl hstep rfl (.of_ports rfl)
  · have hstep : (s.sample x).bottomContact = (s.sample x).enterRaising { r with sounded := .dry } := by
      simp only [State.bottomContact, State.sample_cable, hs, hr, hz]
    exact event_ends (i := .bottomContact x) rfl (hstep.trans (State.enterRaising_far _ _ hfar)) rfl (.of_ports rfl)
  · rintro hnear dry rfl
    have hstep : (s.sample x).bottomContact = (s.sample x).enterRaising { r with sounded := .dry } := by
      simp only [State.bottomContact, State.sample_cable, hs, hr, hz]
    exact event_stows (i := .bottomContact x) rfl (hstep.trans (State.enterRaising_stowed _ _ hnear)) rfl (by rw [hrun]; rfl)
  · have hstep : (s.sample x).surfaceContact = s.sample x := by
      simp [State.surfaceContact, hs, hr, Option.isSome_iff_ne_none.1 hz]
    exact event_ends (i := .surfaceContact x) rfl hstep rfl (.of_ports rfl)
  · rintro zs hzs d hd m hm z hz found hfound
    have hstep : (s.sample x).bottomContact = (s.sample x).enterPositioning found := by
      subst hfound hm hd
      simp only [State.bottomContact, State.sample_cable, hs, hr, hzs]
      rfl
    have hz' : z = found.zs.getD 0 + ((found.points[found.sample]?).getD 0 : Nat) := by
      subst hfound
      rw [hz, hzs]
      rfl
    refine ⟨fun hfar => ?_, fun hnear => ?_⟩
    · exact event_ends (i := .bottomContact x) rfl (hstep.trans (State.enterPositioning_far _ _ hz' hfar)) rfl (.of_ports rfl)
    · refine event_ends (i := .bottomContact x) rfl (hstep.trans (State.enterPositioning_near _ _ hz' hnear)) rfl (.of_ports ?_)
      subst hfound
      rfl
  · have hstep : (s.sample x).reelLimit = (s.sample x).enterRaising { r with sounded := .skipped } := by
      simp only [State.reelLimit, State.sample_cable, hs, hr]
      exact if_pos hdeep
    have hfar : 10 < (s.sample x).cable.lines.reel.natAbs := by
      show 10 < x.reel.natAbs
      omega
    have hup : ¬ (s.sample x).cable.lines.reel < 0 := by
      show ¬ x.reel < 0
      omega
    have hraise := State.enterRaising_far (s.sample x) { r with sounded := .skipped } hfar
    rw [if_neg hup] at hraise
    exact event_ends (i := .reelDepthReaches25000 x) rfl (hstep.trans hraise) rfl (.of_ports rfl)
  · have hstep : (s.sample x).reelArrival = (s.sample x).enterCounting r := by
      simp only [State.reelArrival, State.sample_cable, hs, ht, hr]
      exact if_pos ((reached_reel_iff _ _).2 hd)
    refine event_ends (i := .reelArrival x) rfl hstep rfl (.of_ports ?_)
    simp only [State.enterCounting, State.sample_cable, hr]
    rfl
  · have hstep : (s.sample x).reelArrival = (s.sample x).stowedArrival r := by
      simp only [State.reelArrival, State.sample_cable, hs, ht, hr]
      exact if_pos ((reached_reel_iff _ _).2 (by simpa using hnear))
    obtain ⟨t, hexec, hports, hstow⟩ :=
      event_stows (s := s) (v := s.sample x) (i := .reelArrival x) rfl hstep rfl (by rw [hrun]; rfl)
    obtain ⟨hhome, hnext⟩ := hstow
    refine ⟨⟨t, hexec, hports, hhome, hnext⟩, fun hh hfar => ⟨t, hexec, hports ?_, ((hhome hh _ rfl).1 hfar)⟩,
      fun hh rr hrr g hg => ⟨fun k hk w hw hfar => ⟨t, hexec, hports ?_, ?_⟩, fun hk hroom => ⟨t, hexec, hports ?_, ?_⟩⟩⟩
    · simp [State.stowsQuietly, hh]
    · have hmore : (s.sample x).cable.nextMeasured (r.vertical + 1) = some k := hk
      simp only [State.stowsQuietly, hmore, Option.isSome_some, Bool.or_true, Bool.true_or]
    · subst hw
      have hsent := ((hnext hh rr hrr g hg).1 k hk _ rfl).1 hfar
      simp only [Run.fresh, hh] at hsent ⊢
      exact hsent
    · simp only [State.stowsQuietly, Bool.or_eq_true]
      exact .inr hroom
    · exact (hnext hh rr hrr g hg).2 hk hroom

/-! ### Counting (R118, R132 to R134) -/

theorem formResult_common (rr : RunRecord) (kept : List PulseCount) (run : Run) (v : PlanVertical)
    (hv : rr.plan.verticals[run.vertical]? = some v) :
    (formResult rr kept run).index = run.vertical + 1 ∧ (formResult rr kept run).distance = v.distance ∧
      (formResult rr kept run).exposure = v.kind.exposure ∧
      (formResult rr kept run).flags.methodChanged = run.methodChanged ∧
      (formResult rr kept run).flags.depthLimited = run.depthLimited := by
  unfold formResult
  rw [hv]
  cases run.sounded <;> exact ⟨rfl, rfl, rfl, rfl, rfl⟩

/-- EXPOSURE_TIMER_EXPIRY in COUNTING: the count is kept, and the run goes on to its next sample point or raises the weight. -/
theorem State.exposureExpiry_counting {s u : State} {x : Encoders} {c : PulseCount} {e : Nat} {r : Run}
    (hs : s.cable.state = .counting) (hc : s.gauging.exposure = some c) (he : s.cable.exposureTimer = some e)
    (hr : s.cable.run = some r)
    (hu : u = { s with
      elapsed := max s.elapsed e, gauging := { s.gauging with kept := s.gauging.kept ++ [c], exposure := none }
      cable := { s.cable with lines := x, exposureTimer := none } }) :
    (s.sample x).exposureExpiry =
      if r.sample + 1 < r.points.length then u.enterPositioning { r with sample := r.sample + 1 } else u.enterRaising r := by
  subst hu
  simp only [State.exposureExpiry, State.sample_cable, State.sample_gauging, State.sample_elapsed, hs, hc, he, hr,
    Option.toList_some]
  rfl

/-- Settles O56: by the table of R133, the result of R134, the count of R132, and the four ways on from an exposure. -/
theorem pulsesAreCounted : Obligations.PulsesAreCounted := by
  refine ⟨fun a b t n => ⟨rfl, fun h => ?_⟩, ?_, fun s => ⟨fun hs => ?_, fun hs c hc => ⟨fun hn => ?_, fun hn => ?_, ?_⟩⟩⟩
  · rw [pointVelocity, rawVelocity, if_neg (Nat.pos_iff_ne_zero.1 h)]
  · rintro rr kept run v hv r rfl
    obtain ⟨h1, h2, h3, h4, h5⟩ := formResult_common rr kept run v hv
    refine ⟨h1, h2, h3, h4, h5, fun hd => ?_, fun hd => ?_, fun d hd => ?_⟩
    · simp [formResult, hv, hd, VerticalFlags.none]
    · simp [formResult, hv, hd]
    · have hresult : (formResult rr kept run).velocity = some (meanVelocity rr.plan.a rr.plan.b v.kind.exposure kept) := by
        simp [formResult, hv, hd]
      refine ⟨?_, ?_, ?_, ?_, ?_, ?_, ?_⟩
      iterate 6 simp [formResult, hv, hd, VerticalFlags.none]
      rintro w rfl
      exact ⟨fun c hk => by rw [hresult, hk]; rfl, fun c c' hk => by rw [hresult, hk]; rfl⟩
  · exact event_ends (i := .meterPulse) rfl (if_neg hs) rfl (.of_ports rfl)
  · have hpulse : s.meterPulse = { s with gauging := { s.gauging with exposure := some { c with n := c.n + 1 } } } := by
      rw [State.meterPulse, if_pos hs, hc, Option.map_some, PulseCount.pulse, if_pos hn]
    exact event_ends (i := .meterPulse) rfl hpulse rfl (.of_ports rfl)
  · have hpulse : s.meterPulse = { s with gauging := { s.gauging with exposure := some { c with saturated := true } } } := by
      rw [State.meterPulse, if_pos hs, hc, Option.map_some, PulseCount.pulse, if_neg (by rw [hn]; exact Nat.lt_irrefl _)]
    exact event_ends (i := .meterPulse) rfl hpulse rfl (.of_ports rfl)
  · rintro x e he r hr now rfl g rfl
    generalize hu : ({ s with
      elapsed := max s.elapsed e, gauging := { s.gauging with kept := s.gauging.kept ++ [c], exposure := none }
      cable := { s.cable with lines := x, exposureTimer := none } } : State) = u
    have hstep := State.exposureExpiry_counting (x := x) hs hc he hr hu.symm
    have hlines : u.cable.lines = x := by rw [← hu]
    have hports : u.ports = s.ports := by rw [← hu]
    refine ⟨fun z hz hmore hfar => ?_, fun z hz hmore hnear => ?_, fun hlast hnear => ?_, fun hlast hfar => ?_⟩
    · have hnext := State.enterPositioning_far u { r with sample := r.sample + 1 } hz (by rw [hlines]; exact hfar)
      rw [if_pos hmore, hnext, hlines] at hstep
      exact event_ends (i := .exposureTimerExpiry x) rfl hstep hports (.of_ports (by subst hu; rfl))
    · have hnext := State.enterPositioning_near u { r with sample := r.sample + 1 } hz (by rw [hlines]; exact hnear)
      rw [if_pos hmore, hnext] at hstep
      exact event_ends (i := .exposureTimerExpiry x) rfl hstep hports (.of_ports (by subst hu; rfl))
    · rw [if_neg (Nat.not_lt.2 hlast), State.enterRaising_stowed u r (by rw [hlines]; exact hnear)] at hstep
      have hrun : u.cable.run.isSome = true := by
        rw [← hu]
        simp [hr]
      rintro _ rfl
      exact event_stows (i := .exposureTimerExpiry x) rfl hstep hports hrun
    · rw [if_neg (Nat.not_lt.2 hlast), State.enterRaising_far u r (by rw [hlines]; exact hfar), hlines] at hstep
      refine event_ends (i := .exposureTimerExpiry x) rfl hstep hports (.of_ports ?_)
      subst hu
      rw [← hr]

end Sys2Proof.Machine
end

section
/-! SUPPORT. The write queue and the notice queue as what they hold in order: what the handing of notices and records adds at their
ends, whatever room there is (R160, R188 to R190), and what the end of a run adds (R119, R128, R135). -/

namespace Sys2Proof.Machine

/-! ### The two queues -/

/-- The records of the write queue with their header times, oldest first. -/
def State.queued (s : State) : List (Record × Nat) := s.archive.queue.map (fun q => (q.record, q.time))

/-- The notices of the queue with their times, oldest first. -/
def State.noted (s : State) : List (Nat × NoticeBody) := s.notices.held.map (fun n => (n.time, n.body))

@[simp] theorem State.queued_length (s : State) : s.queued.length = s.archive.queue.length := by simp [State.queued]

@[simp] theorem State.noted_length (s : State) : s.noted.length = s.notices.held.length := by simp [State.noted]

/-- Whether no LEVEL notice is held. -/
def State.Unleveled (s : State) : Prop := ∀ x ∈ s.noted, noticeKind x.2 ≠ 1

theorem State.unleveled_iff (s : State) : s.Unleveled ↔ s.notices.held.any Notice.isLevel = false := by
  simp [State.Unleveled, State.noted, Notice.isLevel]

/-- From one state to another nothing has left the queues: records have joined the write queue of an archive that is not FAILED, and
at most a number of notices the notice queue, where it has room for them. -/
structure Grows (s t : State) (k : Nat) : Prop where
  failed : s.archive.state.isFailed = false → t.archive.state.isFailed = false
  queued : s.archive.state.isFailed = false → s.queued <+: t.queued
  noted : s.notices.held.length + k ≤ noticeCapacity → s.noted <+: t.noted
  length : s.notices.held.length + k ≤ noticeCapacity → t.notices.held.length ≤ s.notices.held.length + k

theorem Grows.of_eq {s t : State} (ha : t.archive = s.archive) (hn : t.notices = s.notices) : Grows s t 0 := by
  refine ⟨fun h => by rw [ha]; exact h, fun _ => ?_, fun _ => ?_, fun _ => by rw [hn]; exact Nat.le_refl _⟩
  · rw [State.queued, State.queued, ha]
  · rw [State.noted, State.noted, hn]

theorem Grows.trans {s t u : State} {k j : Nat} (h : Grows s t k) (g : Grows t u j) : Grows s u (k + j) := by
  refine ⟨fun hf => g.failed (h.failed hf), fun hf => (h.queued hf).trans (g.queued (h.failed hf)), fun hk => ?_, fun hk => ?_⟩
  all_goals
    have hl := h.length (by omega)
  · exact (h.noted (by omega)).trans (g.noted (by omega))
  · have := g.length (by omega)
    omega

theorem Grows.weaken {s t : State} {k j : Nat} (h : Grows s t k) (hk : k ≤ j) : Grows s t j :=
  ⟨h.failed, h.queued, fun hj => h.noted (by omega), fun hj => (h.length (by omega)).trans (by omega)⟩

/-- The growth is told from any state with the same two queues. -/
theorem Grows.from_eq {s t u : State} {k : Nat} (h : Grows u t k) (ha : u.archive = s.archive) (hn : u.notices = s.notices) :
    Grows s t k := ((Grows.of_eq ha hn).trans h).weaken (by omega)

/-- Of a FAILED archive only the notices tell. -/
theorem Grows.of_failed {s t u : State} {k : Nat} (h : Grows s u k) (hf : s.archive.state.isFailed = true)
    (hn : t.notices = u.notices) : Grows s t k := by
  refine ⟨fun h => by simp [hf] at h, fun h => by simp [hf] at h, fun hk => ?_, fun hk => by rw [hn]; exact h.length hk⟩
  have := h.noted hk
  rwa [State.noted, State.noted, ← hn] at this

/-! ### A notice handed -/

/-- A notice that finds room, and no held LEVEL notice that it would replace, is the newest. -/
theorem State.notice_noted (s : State) (b : NoticeBody) (hroom : s.notices.held.length < noticeCapacity)
    (hl : noticeKind b ≠ 1 ∨ s.Unleveled) : (s.notice b).noted = s.noted ++ [(s.clock.time, b)] := by
  have hno : (decide (noticeKind b = 1) && s.notices.held.any Notice.isLevel) = false := by
    rcases hl with hl | hl
    · simp [hl]
    · rw [(State.unleveled_iff s).1 hl, Bool.and_false]
  have hq : (s.notices.hand s.clock.time b).1 =
      { s.notices with held := s.notices.held ++ [{ time := s.clock.time, body := b, inTransmission := false }] } := by
    simp only [NoticeQueue.hand, Notice.isLevel] at hno ⊢
    simp [hno, hroom]
  show (s.notices.hand s.clock.time b).1.held.map _ = _
  rw [hq, List.map_append]
  rfl

theorem State.notice_grows (s : State) (b : NoticeBody) (hb : noticeKind b ≠ 1) : Grows s (s.notice b) 1 := by
  refine ⟨fun h => h, fun _ => List.prefix_refl _, fun hk => ?_, fun hk => ?_⟩
  all_goals
    have hnoted := s.notice_noted b (by omega) (.inl hb)
  · rw [hnoted]
    exact List.prefix_append _ _
  · have := congrArg List.length hnoted
    simp only [State.noted_length, List.length_append, List.length_cons, List.length_nil] at this
    omega

/-! ### A record handed -/

/-- A record handed to an archive with room is the newest of the write queue. -/
theorem State.hand_queued (s : State) (r : Record) (o : Owner) (h : s.archive.hasRoom = true) :
    (s.hand r o).queued = s.queued ++ [(r, s.clock.time)] ∧ (s.hand r o).notices = s.notices ∧
      (s.archive.queue.length + 2 ≤ queueCapacity → (s.hand r o).archive.hasRoom = true) := by
  obtain ⟨-, hst, -, hwait, -, hn, -⟩ := s.wake.hand_room r s.clock.time o h
  have hq : (s.hand r o).queued = s.queued ++ [(r, s.clock.time)] := (s.wake.hand_queued r s.clock.time o h).1
  refine ⟨hq, hn, fun hl => ?_⟩
  have hlen := congrArg List.length hq
  simp only [State.queued_length, List.length_append, List.length_cons, List.length_nil] at hlen
  have hf : s.archive.state.isFailed = false := by
    simp only [Archive.hasRoom, Bool.and_eq_true, Bool.not_eq_true'] at h
    exact h.1.1
  have hw : (s.hand r o).archive.waiting = [] := hwait
  have hs : (s.hand r o).archive.state = s.archive.state := hst
  rw [Archive.hasRoom, hs, hf, hw, decide_eq_true (by omega)]
  rfl

/-- A record handed to an archive that is not FAILED takes nothing from the write queue, and gives no notice. -/
theorem State.hand_live (s : State) (r : Record) (o : Owner) (hf : s.archive.state.isFailed = false) :
    (s.hand r o).archive.state.isFailed = false ∧ s.queued <+: (s.hand r o).queued ∧ (s.hand r o).notices = s.notices := by
  cases hroom : s.archive.hasRoom with
  | true =>
    obtain ⟨hq, hn, -⟩ := s.hand_queued r o hroom
    obtain ⟨-, hst, -⟩ := s.wake.hand_room r s.clock.time o hroom
    refine ⟨?_, ?_, hn⟩
    · rw [State.hand_archive, hst]
      exact hf
    · rw [hq]
      exact List.prefix_append _ _
  | false =>
    have hfull := s.wake.hand_full r s.clock.time o hf hroom
    simp only [State.queued, State.hand_archive, State.hand_notices, hfull]
    split
    · exact ⟨hf, List.prefix_refl _, rfl⟩
    · split <;> exact ⟨hf, List.prefix_refl _, rfl⟩

theorem State.hand_grows_nobody (s : State) (r : Record) : Grows s (s.hand r .nobody) 0 := by
  have hn : (s.hand r .nobody).notices = s.notices := (s.wake.hand_nobody r s.clock.time).2.1
  refine ⟨fun hf => (s.hand_live r _ hf).1, fun hf => (s.hand_live r _ hf).2.1, fun _ => ?_, fun _ => by rw [hn]; exact Nat.le_refl _⟩
  rw [State.noted, State.noted, hn]

/-- The end of COMPUTING gives at most its GAUGING notice. -/
theorem Wake.computingEnd_noted (w : Wake) (index : Option Nat) (b : Bool) :
    w.computingEnd index b = w ∨
      ∃ body, noticeKind body ≠ 1 ∧ (w.computingEnd index b).notices = (w.notices.hand w.time body).1 := by
  unfold Wake.computingEnd
  split
  · exact .inl rfl
  · exact .inr ⟨_, by simp [noticeKind], rfl⟩

theorem State.hand_grows_gauging (s : State) (r : Record) : Grows s (s.hand r .gauging) 1 := by
  cases hf : s.archive.state.isFailed with
  | false =>
    obtain ⟨hstate, hq, hn⟩ := s.hand_live r .gauging hf
    refine ⟨fun _ => hstate, fun _ => hq, fun _ => ?_, fun _ => by rw [hn]; omega⟩
    rw [State.noted, State.noted, hn]
  | true =>
    have hnotices : (s.hand r .gauging).notices = (s.wake.computingEnd none true).notices :=
      congrArg Wake.notices (s.wake.hand_failed r s.clock.time .gauging hf)
    rcases s.wake.computingEnd_noted none true with heq | ⟨body, hb, hn⟩
    · rw [heq] at hnotices
      exact ((Grows.of_eq (s := s) (t := s) rfl rfl).of_failed hf hnotices).weaken (Nat.zero_le 1)
    · exact (s.notice_grows body hb).of_failed hf (hnotices.trans hn)

end Sys2Proof.Machine
end

section
/-! SUPPORT. The end of a run whatever room its notice and its record find, and a flood abort within an append (R91, R119, R123, R128,
R135). -/

namespace Sys2Proof.Machine

/-! ### The end of a run -/

/-- From one state to another only the cableway, the gauging unit, the archive, the notice queue and the ports can have changed. -/
structure RunFrame (s t : State) : Prop where
  elapsed : t.elapsed = s.elapsed
  startingUp : t.startingUp = s.startingUp
  clock : t.clock = s.clock
  lau : t.lau = s.lau
  rating : t.rating = s.rating
  warning : t.warning = s.warning
  store : t.store = s.store
  pending : t.pending = s.pending

theorem RunFrame.refl (s : State) : RunFrame s s := ⟨rfl, rfl, rfl, rfl, rfl, rfl, rfl, rfl⟩

/-- The state in which the end of a run is handed to the gauging unit: the cableway ended, its notice given. -/
def State.endTold (s : State) (cause : EndCause) (run : Run) : State :=
  match endEvent cause with
  | none => s.withCable (s.cable.ended cause)
  | some e => (s.withCable (s.cable.ended cause)).cablewayNotice e cause (some (run.vertical + 1))

theorem State.endRun_idle (s : State) (cause : EndCause) (h : s.cable.run = none) : s.endRun cause = s := by
  rw [State.endRun, h]

theorem State.endRun_eq (s : State) (cause : EndCause) {run : Run} (h : s.cable.run = some run) :
    s.endRun cause = (s.endTold cause run).gaugeEnd cause := by
  rw [State.endRun, h]
  rfl

theorem State.endTold_frame (s : State) (cause : EndCause) (run : Run) :
    RunFrame s (s.endTold cause run) ∧ (s.endTold cause run).cable = s.cable.ended cause ∧
      (s.endTold cause run).gauging = s.gauging ∧ (s.endTold cause run).archive = s.archive := by
  unfold State.endTold
  cases endEvent cause <;> exact ⟨⟨rfl, rfl, rfl, rfl, rfl, rfl, rfl, rfl⟩, rfl, rfl, rfl⟩

/-- What the gauging unit makes of a run's end. -/
def Gauging.ended (g : Gauging) (record : GaugingRecord) : Gauging :=
  { g with
    run := none, exposure := none, kept := [], result := .computing, computing := some record, nextId := nextGaugingId g.nextId }

theorem State.gaugeEnd_eq (s : State) (cause : EndCause) {rr : RunRecord} (h : s.gauging.run = some rr) :
    s.gaugeEnd cause =
      ({ s with gauging := s.gauging.ended (s.formRecord rr cause) } : State).hand (.gauging (s.formRecord rr cause)) .gauging := by
  rw [State.gaugeEnd, h]
  rfl

theorem State.gaugeEnd_frame (s : State) (cause : EndCause) :
    RunFrame s (s.gaugeEnd cause) ∧ (s.gaugeEnd cause).cable = s.cable := by
  unfold State.gaugeEnd
  split <;> exact ⟨⟨rfl, rfl, rfl, rfl, rfl, rfl, rfl, rfl⟩, rfl⟩

theorem RunFrame.trans {s t u : State} (h : RunFrame s t) (k : RunFrame t u) : RunFrame s u :=
  ⟨k.elapsed.trans h.elapsed, k.startingUp.trans h.startingUp, k.clock.trans h.clock, k.lau.trans h.lau, k.rating.trans h.rating,
    k.warning.trans h.warning, k.store.trans h.store, k.pending.trans h.pending⟩

theorem State.endRun_frame (s : State) (cause : EndCause) : RunFrame s (s.endRun cause) := by
  cases h : s.cable.run with
  | none =>
    rw [s.endRun_idle cause h]
    exact .refl s
  | some run =>
    rw [s.endRun_eq cause h]
    exact (s.endTold_frame cause run).1.trans (State.gaugeEnd_frame _ cause).1

theorem State.endRun_cable (s : State) (cause : EndCause) {run : Run} (h : s.cable.run = some run) :
    (s.endRun cause).cable = s.cable.ended cause := by
  rw [s.endRun_eq cause h, (State.gaugeEnd_frame _ cause).2, (s.endTold_frame cause run).2.1]

theorem State.endAndRetrieve_frame (s : State) (cause : EndCause) : RunFrame s (s.endAndRetrieve cause) := by
  have h := s.endRun_frame cause
  exact ⟨h.elapsed, h.startingUp, h.clock, h.lau, h.rating, h.warning, h.store, h.pending⟩

theorem State.endAndRetrieve_cable (s : State) (cause : EndCause) {run : Run} (h : s.cable.run = some run) :
    (s.endAndRetrieve cause).cable = (s.cable.ended cause).retrieve s.elapsed := by
  show (s.endRun cause).cable.retrieve (s.endRun cause).elapsed = _
  rw [s.endRun_cable cause h, (s.endRun_frame cause).elapsed]

theorem Cableway.retrieve_run (c : Cableway) (now : Nat) : (c.retrieve now).run = c.run := by
  unfold Cableway.retrieve Cableway.retrieveCarriage Cableway.retrievalEnd
  split
  · split
    · split <;> rfl
    · rfl
  · rfl

theorem State.endTold_grows (s : State) (cause : EndCause) (run : Run) : Grows s (s.endTold cause run) 1 := by
  unfold State.endTold
  cases endEvent cause with
  | none => exact (Grows.of_eq (s := s) (t := s.withCable (s.cable.ended cause)) rfl rfl).weaken (Nat.zero_le 1)
  | some e =>
    exact (State.notice_grows (s.withCable (s.cable.ended cause))
      (.cableway e cause s.cable.latestHold (some (run.vertical + 1)) s.cable.lines) (by simp [noticeKind])).from_eq rfl rfl

theorem State.gaugeEnd_grows (s : State) (cause : EndCause) : Grows s (s.gaugeEnd cause) 1 := by
  cases h : s.gauging.run with
  | none =>
    rw [State.gaugeEnd, h]
    exact (Grows.of_eq rfl rfl).weaken (Nat.zero_le 1)
  | some rr =>
    rw [s.gaugeEnd_eq cause h]
    exact (State.hand_grows_gauging ({ s with gauging := s.gauging.ended (s.formRecord rr cause) } : State) _).from_eq rfl rfl

/-- The end of a run gives at most its own notice and that of a record dropped. -/
theorem State.endRun_grows (s : State) (cause : EndCause) : Grows s (s.endRun cause) 2 := by
  cases h : s.cable.run with
  | none =>
    rw [s.endRun_idle cause h]
    exact (Grows.of_eq rfl rfl).weaken (Nat.zero_le 2)
  | some run =>
    rw [s.endRun_eq cause h]
    exact (s.endTold_grows cause run).trans (State.gaugeEnd_grows _ cause)

theorem Grows.withCable {s t : State} {k : Nat} (h : Grows s t k) (c : Cableway) : Grows s (t.withCable c) k :=
  ⟨h.failed, h.queued, h.noted, h.length⟩

/-! ### A flood abort -/

/-- A run has ended with cause FLOOD_LIMIT: the cableway retrieves, its notice comes first where there is room, and with room for the
record the gauging unit holds it (R119, R123, R128, R135). -/
structure Flooded (s t : State) (run : Run) (rr : RunRecord) : Prop where
  cable : t.cable = (s.cable.ended .floodLimit).retrieve s.elapsed
  grows : Grows s t 3
  noted : s.notices.held.length + 3 ≤ noticeCapacity →
    s.noted ++ [(s.clock.time, .cableway .runEnded .floodLimit s.cable.latestHold (some (run.vertical + 1)) s.cable.lines)] <+:
      t.noted
  gauging : s.archive.hasRoom = true → t.gauging = s.gauging.ended (s.formRecord rr .floodLimit)
  queued : s.archive.hasRoom = true →
    s.queued ++ [(.gauging (s.formRecord rr .floodLimit), s.clock.time)] <+: t.queued

theorem State.endAndRetrieve_flooded (s : State) {run : Run} {rr : RunRecord} (hrun : s.cable.run = some run)
    (hrr : s.gauging.run = some rr) : Flooded s (s.endAndRetrieve .floodLimit) run rr := by
  have hgrows : Grows s (s.endAndRetrieve .floodLimit) 3 :=
    ((s.endRun_grows .floodLimit).withCable _).weaken (Nat.le_succ 2)
  have hend := s.endRun_eq .floodLimit hrun
  generalize hu : s.endTold .floodLimit run = u at hend
  obtain ⟨hframe, -, hg, ha⟩ := s.endTold_frame .floodLimit run
  rw [hu] at hframe hg ha
  have hform : u.formRecord rr .floodLimit = s.formRecord rr .floodLimit := by
    subst hu
    rfl
  rw [u.gaugeEnd_eq .floodLimit (hg.symm ▸ hrr), hform, hg] at hend
  refine ⟨s.endAndRetrieve_cable _ hrun, hgrows, fun hk => ?_, fun hroom => ?_, fun hroom => ?_⟩
  · have htold : u.noted = s.noted ++
        [(s.clock.time, .cableway .runEnded .floodLimit s.cable.latestHold (some (run.vertical + 1)) s.cable.lines)] := by
      subst hu
      exact State.notice_noted (s.withCable (s.cable.ended .floodLimit)) _ (by show s.notices.held.length < _; omega)
        (.inl (by simp [noticeKind]))
    have hlen := congrArg List.length htold
    simp only [State.noted_length, List.length_append, List.length_cons, List.length_nil] at hlen
    rw [← htold]
    show u.noted <+: (s.endRun .floodLimit).noted
    rw [hend]
    exact (State.hand_grows_gauging ({ u with gauging := s.gauging.ended (s.formRecord rr .floodLimit) } : State) _).noted
      (by show u.notices.held.length + 1 ≤ _; omega)
  · show (s.endRun .floodLimit).gauging = _
    rw [hend]
    have hroom' : u.archive.hasRoom = true := by rw [ha]; exact hroom
    exact (Wake.hand_room _ _ _ _ hroom').2.2.2.2.1
  · show _ <+: (s.endRun .floodLimit).queued
    rw [hend]
    have hroom' : u.archive.hasRoom = true := by rw [ha]; exact hroom
    have hq := (State.hand_queued ({ u with gauging := s.gauging.ended (s.formRecord rr .floodLimit) } : State)
      (.gauging (s.formRecord rr .floodLimit)) .gauging hroom').1
    rw [hq]
    have hqueued : ({ u with gauging := s.gauging.ended (s.formRecord rr .floodLimit) } : State).queued = s.queued := by
      show u.archive.queue.map _ = _
      rw [ha]
      rfl
    rw [hqueued]
    show _ <+: s.queued ++ [(_, u.clock.time)]
    rw [hframe.clock]

/-! ### A flood abort within an append (R123) -/

/-- Whether a run in progress is ended by an observation, with the level that stands. -/
def State.floods (s : State) (stage : Option Int) : Prop :=
  ∃ r, s.cable.run = some r ∧
    (levelBars r.kind s.warning.level = true ∨ ∃ h, stage = some h ∧ stageLimit s.cable.settings r.kind < h)

theorem State.floodOnAppend_floods (s : State) (o : Observation) (h : s.floods o.stage) :
    s.floodOnAppend o = s.endAndRetrieve .floodLimit := by
  obtain ⟨r, hr, hb⟩ := h
  have habort : s.floodAbort = s.endAndRetrieve .floodLimit := if_pos (by rw [hr]; rfl)
  rw [State.floodOnAppend, hr, ← habort]
  refine if_pos ?_
  rcases hb with hb | ⟨v, hv, hb⟩
  · rw [hb, Bool.or_true]
  · simp only [hv, decide_eq_true hb, Bool.true_or]

theorem State.floodOnAppend_passes (s : State) (o : Observation) (h : ¬ s.floods o.stage) : s.floodOnAppend o = s := by
  cases hr : s.cable.run with
  | none => exact s.floodOnAppend_idle o hr
  | some r =>
    refine s.floodOnAppend_run o r hr ?_ fun v hv => ?_
    · rw [← Bool.not_eq_true]
      exact fun hb => h ⟨r, hr, .inl hb⟩
    · exact not_lt.1 fun hb => h ⟨r, hr, .inr ⟨v, hv, hb⟩⟩

/-- A level that bars the run ends it before the append would. -/
theorem State.floodOnAppend_floodOnLevel (s : State) (o : Observation) : s.floodOnLevel.floodOnAppend o = s.floodOnAppend o := by
  by_cases hb : ∃ r, s.cable.run = some r ∧ levelBars r.kind s.warning.level = true
  · obtain ⟨r, hr, hb⟩ := hb
    have hlevel : s.floodOnLevel = s.endAndRetrieve .floodLimit := by
      rw [State.floodOnLevel, hr]
      exact (if_pos hb).trans (if_pos (by rw [hr]; rfl))
    rw [hlevel, s.floodOnAppend_floods o ⟨r, hr, .inl hb⟩]
    refine State.floodOnAppend_idle _ o ?_
    rw [s.endAndRetrieve_cable _ hr, Cableway.retrieve_run]
    rfl
  · have hlevel : s.floodOnLevel = s := s.floodOnLevel_goes_on fun r hr => by
      rw [← Bool.not_eq_true]
      exact fun h => hb ⟨r, hr, h⟩
    rw [hlevel]

theorem State.floodOnLevel_frame (s : State) : RunFrame s s.floodOnLevel := by
  unfold State.floodOnLevel State.floodAbort
  split
  · exact .refl s
  · split
    · split
      · exact s.endAndRetrieve_frame _
      · exact .refl s
    · exact .refl s

theorem State.floodOnAppend_frame (s : State) (o : Observation) : RunFrame s (s.floodOnAppend o) := by
  by_cases h : s.floods o.stage
  · rw [s.floodOnAppend_floods o h]
    exact s.endAndRetrieve_frame _
  · rw [s.floodOnAppend_passes o h]
    exact .refl s

theorem State.floodOnAppend_grows (s : State) (o : Observation) : Grows s (s.floodOnAppend o) 2 := by
  by_cases h : s.floods o.stage
  · rw [s.floodOnAppend_floods o h]
    exact (s.endRun_grows .floodLimit).withCable _
  · rw [s.floodOnAppend_passes o h]
    exact (Grows.of_eq rfl rfl).weaken (Nat.zero_le 2)

/-- A start owed on a condition. -/
def State.oweIf (s : State) (b : Bool) : State := if b then s.oweStart else s

/-- A start owed is nothing to the end of a run. -/
theorem State.endAndRetrieve_oweStart (s : State) (cause : EndCause) :
    s.oweStart.endAndRetrieve cause = (s.endAndRetrieve cause).oweStart := by
  cases hr : s.cable.run with
  | none =>
    rw [State.endAndRetrieve, State.endAndRetrieve, s.endRun_idle cause hr, s.oweStart.endRun_idle cause hr]
    rfl
  | some run =>
    have htold : s.oweStart.endTold cause run = (s.endTold cause run).oweStart := by
      unfold State.endTold
      cases endEvent cause <;> rfl
    have hgauge : ∀ u : State, u.oweStart.gaugeEnd cause = (u.gaugeEnd cause).oweStart := fun u => by
      cases hg : u.gauging.run with
      | none =>
        rw [State.gaugeEnd, State.gaugeEnd, hg]
        simp only [State.oweStart, State.withLau, hg]
      | some rr =>
        rw [u.gaugeEnd_eq cause hg, u.oweStart.gaugeEnd_eq cause hg]
        rfl
    rw [State.endAndRetrieve, State.endAndRetrieve, s.endRun_eq cause hr, s.oweStart.endRun_eq cause hr, htold, hgauge]
    rfl

theorem State.floodOnAppend_oweIf (s : State) (o : Observation) (b : Bool) :
    (s.oweIf b).floodOnAppend o = (s.floodOnAppend o).oweIf b := by
  cases b with
  | false => rfl
  | true =>
    show s.oweStart.floodOnAppend o = (s.floodOnAppend o).oweStart
    by_cases h : s.floods o.stage
    · rw [s.floodOnAppend_floods o h, s.oweStart.floodOnAppend_floods o h, s.endAndRetrieve_oweStart]
    · rw [s.floodOnAppend_passes o h, s.oweStart.floodOnAppend_passes o h]

end Sys2Proof.Machine
end

section
/-! SUPPORT. An observation published: its append as the queues, the warning unit, the schedule and the cableway take it (R12, R14 to
R18, R23, R34, R83 to R91, R123, R128). -/

namespace Sys2Proof.Machine

/-! ### Publishing in steps -/

/-- The observation is numbered, its SENSOR notices handed, and appended (R12, R14, R17). -/
def State.appended (s : State) (f : Found) : State :=
  let o := s.observation f
  let u := (s.withLau { s.lau with nextObs := nextObsNumber s.lau.nextObs, acq := none }).sensorNotices o.number f.events
  { u with lau := { u.lau with series := appendObservation u.lau.series o }, clock := { u.clock with floor := o.time } }

/-- After it, its record is handed and the records of the warning unit are evaluated (R18, R83). -/
def State.joined (s : State) (f : Found) : State :=
  let v := (s.appended f).hand (.obs (s.observation f)) .nobody
  { v with warning := { v.warning with live := Eight.zip (evaluateRecord (s.observation f)) v.warning.settings v.warning.live } }

/-- The LEVEL notice of a level newly formed. -/
def State.levelBody (s : State) (f : Found) : NoticeBody :=
  .level (s.joined f).warning.formed s.warning.level (levelHigher (s.joined f).warning.formed s.warning.level)

/-- The state with the warning unit at the level newly formed, its notice handed (R87 to R89). -/
def State.noticed (s : State) (f : Found) : State :=
  ({ s.joined f with
    warning := (s.joined f).warning.changed (s.joined f).warning.formed s.clock.time s.elapsed } : State).notice (s.levelBody f)

/-- A level newly formed is taken, with its notice and its record (R85, R87 to R90). -/
def State.leveled (s : State) (f : Found) : State :=
  if (s.joined f).warning.formed = s.warning.level then s.joined f
  else (s.noticed f).levelRecord (.changed s.warning.level (.observation (s.observation f).number)) .nobody

/-- A PENDING hold is entered (R34). -/
def State.enterPending (s : State) : State := if s.lau.hold.state = .pending then s.enterHeld .request .nobody else s

theorem State.appended_eq (s : State) (f : Found) :
    s.appended f =
      { s with
        clock := { s.clock with floor := s.clock.time }
        lau :=
          { s.lau with
            series := appendObservation s.lau.series (s.observation f), nextObs := nextObsNumber s.lau.nextObs, acq := none }
        notices := (s.appended f).notices, ports := (s.appended f).ports } := by
  have hu := State.sensorNotices_frame (s.withLau { s.lau with nextObs := nextObsNumber s.lau.nextObs, acq := none })
    (s.observation f).number f.events
  unfold State.appended
  simp only
  generalize (s.withLau { s.lau with nextObs := nextObsNumber s.lau.nextObs, acq := none }).sensorNotices
    (s.observation f).number f.events = u at hu
  generalize u.notices = n, u.ports = q at hu
  subst hu
  rfl

theorem State.joined_eq (s : State) (f : Found) :
    s.joined f =
      { s with
        clock := { s.clock with floor := s.clock.time }
        lau :=
          { s.lau with
            series := appendObservation s.lau.series (s.observation f), nextObs := nextObsNumber s.lau.nextObs, acq := none }
        warning :=
          { s.warning with live := Eight.zip (evaluateRecord (s.observation f)) s.warning.settings s.warning.live }
        archive := (s.joined f).archive, notices := (s.joined f).notices, ports := (s.joined f).ports } := by
  have hu := s.appended_eq f
  unfold State.joined
  simp only
  generalize s.appended f = u at hu
  generalize u.notices = n, u.ports = q at hu
  rw [State.hand_nobody]
  subst hu
  rfl

theorem State.leveled_frame (s : State) (f : Found) :
    s.leveled f =
      { s.joined f with
        warning := (s.joined f).warning.changed (s.joined f).warning.formed s.clock.time s.elapsed
        archive := (s.leveled f).archive, notices := (s.leveled f).notices, ports := (s.leveled f).ports } := by
  have hw : (s.joined f).warning.level = s.warning.level := by rw [s.joined_eq f]
  unfold State.leveled
  split
  · rename_i h
    rw [Warning.changed, if_pos (by rw [h, hw])]
  · rw [State.levelRecord, State.hand_nobody]
    rfl

/-- Publishing is the append, then a run it ends, a start that a change of the interval owes, and the hold that was PENDING. -/
theorem State.publish_eq (s : State) (f : Found) :
    s.publish f =
      (((s.leveled f).floodOnAppend (s.observation f)).oweIf
        (decide ((s.leveled f).interval ≠ s.interval) && (s.leveled f).overdue)).enterPending := by
  generalize hw : (s.joined f).changeLevel (s.joined f).warning.formed (.observation (s.observation f).number) .nobody = w
  have hlevel : RunFrame (s.leveled f) w ∧ w.floodOnAppend (s.observation f) = (s.leveled f).floodOnAppend (s.observation f) := by
    subst hw
    have hl : (s.joined f).warning.level = s.warning.level := by rw [s.joined_eq f]
    have ht : (s.joined f).clock.time = s.clock.time := by rw [s.joined_eq f]
    have he : (s.joined f).elapsed = s.elapsed := by rw [s.joined_eq f]
    by_cases h : (s.joined f).warning.formed = s.warning.level
    · have hsame : s.leveled f = s.joined f := if_pos h
      rw [h, ← hl, State.changeLevel_same, hsame]
      exact ⟨.refl _, rfl⟩
    · have hnew : s.leveled f = _ := if_neg h
      have hchange := State.changeLevel_ne (s.joined f) (s.joined f).warning.formed (.observation (s.observation f).number) .nobody
        (by rw [hl]; exact h)
      have hw : (s.joined f).warning.changed (s.joined f).warning.formed (s.joined f).clock.time (s.joined f).elapsed =
          (s.joined f).warning.changed (s.joined f).warning.formed s.clock.time s.elapsed := by rw [ht, he]
      rw [hw, hl] at hchange
      rw [hchange, hnew]
      exact ⟨State.floodOnLevel_frame _, State.floodOnAppend_floodOnLevel _ _⟩
  obtain ⟨hframe, hflood⟩ := hlevel
  have hinterval : w.interval = (s.leveled f).interval := by
    rw [State.interval, State.interval, hframe.lau, hframe.warning]
  have hoverdue : w.overdue = (s.leveled f).overdue := by
    rw [State.overdue, State.overdue, State.duePoint, State.duePoint, hinterval, hframe.lau, hframe.elapsed]
  have hsensor := State.sensorNotices_frame (s.withLau { s.lau with nextObs := nextObsNumber s.lau.nextObs, acq := none })
    (s.observation f).number f.events
  have hformer : ((s.withLau { s.lau with nextObs := nextObsNumber s.lau.nextObs, acq := none }).sensorNotices
      (s.observation f).number f.events).interval = s.interval := by
    rw [hsensor]
    rfl
  rw [← hflood, ← State.floodOnAppend_oweIf, ← hinterval, ← hoverdue, ← hformer]
  subst hw
  rfl

/-! ### What the append has added to the queues -/

/-- The SENSOR notices in their order. -/
theorem State.sensorNotices_noted (s : State) (n : Nat) (l : List (SensorEvent × Channel × Option Nat))
    (h : s.notices.held.length + l.length ≤ noticeCapacity) :
    (s.sensorNotices n l).noted = s.noted ++ l.map (fun e => (s.clock.time, .sensor e.1 e.2.1 e.2.2 n)) := by
  induction l generalizing s with
  | nil => simp [State.sensorNotices]
  | cons e l ih =>
    obtain ⟨e, c, d⟩ := e
    rw [List.length_cons] at h
    have hfirst := s.notice_noted (.sensor e c d n) (by omega) (.inl (by simp [noticeKind]))
    have hlen := congrArg List.length hfirst
    simp only [State.noted_length, List.length_append, List.length_cons, List.length_nil] at hlen
    rw [State.sensorNotices, ih _ (by omega), hfirst, List.append_assoc]
    rfl

section
variable (s : State) (f : Found)

/-- The notices of the observation's SENSOR events. -/
def State.sensorBodies : List (Nat × NoticeBody) := f.events.map (fun e => (s.clock.time, .sensor e.1 e.2.1 e.2.2 s.lau.nextObs))

theorem State.hand_nobody_noted (u : State) (r : Record) : (u.hand r .nobody).noted = u.noted := by
  rw [State.noted, State.noted, show (u.hand r .nobody).notices = u.notices from (u.wake.hand_nobody r u.clock.time).2.1]

theorem State.joined_noted (h : s.notices.held.length + f.events.length ≤ noticeCapacity) :
    (s.joined f).noted = s.noted ++ s.sensorBodies f :=
  ((s.appended f).hand_nobody_noted _).trans
    (State.sensorNotices_noted (s.withLau { s.lau with nextObs := nextObsNumber s.lau.nextObs, acq := none })
      (s.observation f).number f.events h)

theorem State.joined_queued (h : s.archive.hasRoom = true) :
    (s.joined f).queued = s.queued ++ [(.obs (s.observation f), s.clock.time)] ∧
      (s.archive.queue.length + 2 ≤ queueCapacity → (s.joined f).archive.hasRoom = true) := by
  have ha : (s.appended f).archive = s.archive := by rw [s.appended_eq f]
  have hc : (s.appended f).clock.time = s.clock.time := by rw [s.appended_eq f]
  obtain ⟨hq, -, hroom⟩ := (s.appended f).hand_queued (.obs (s.observation f)) .nobody (ha.symm ▸ h)
  rw [hc, show (s.appended f).queued = s.queued by rw [State.queued, ha]; rfl] at hq
  rw [ha] at hroom
  exact ⟨hq, hroom⟩

theorem State.joined_warning :
    (s.joined f).warning = { s.warning with live := Eight.zip (evaluateRecord (s.observation f)) s.warning.settings s.warning.live } := by
  rw [s.joined_eq f]

theorem State.leveled_same (h : (s.joined f).warning.formed = s.warning.level) : s.leveled f = s.joined f := if_pos h

theorem State.leveled_changed (h : (s.joined f).warning.formed ≠ s.warning.level) :
    s.leveled f = (s.noticed f).levelRecord (.changed s.warning.level (.observation (s.observation f).number)) .nobody := if_neg h

theorem State.noticed_archive : (s.noticed f).archive = (s.joined f).archive := by
  unfold State.noticed
  rw [State.notice_archive]

theorem State.noticed_clock : (s.noticed f).clock = (s.joined f).clock := by
  unfold State.noticed
  rw [State.notice_clock]

theorem State.noticed_queued : (s.noticed f).queued = (s.joined f).queued := by
  rw [State.queued, State.queued, s.noticed_archive]

/-- The notices of the append, where they find room. -/
theorem State.leveled_noted (h : s.notices.held.length + f.events.length + 1 ≤ noticeCapacity) (hl : s.Unleveled) :
    (s.leveled f).noted =
      s.noted ++ s.sensorBodies f ++
        (if (s.joined f).warning.formed = s.warning.level then [] else [(s.clock.time, s.levelBody f)]) := by
  have hj := s.joined_noted f (by omega)
  have hc : (s.joined f).clock.time = s.clock.time := by rw [s.joined_eq f]
  split
  · rename_i heq
    rw [s.leveled_same f heq, hj, List.append_nil]
  · rename_i hne
    have hlen := congrArg List.length hj
    simp only [State.noted_length, List.length_append, State.sensorBodies, List.length_map] at hlen
    have hun : (s.joined f).Unleveled := by
      intro x hx
      rw [hj, List.mem_append] at hx
      rcases hx with hx | hx
      · exact hl x hx
      · obtain ⟨e, -, rfl⟩ := List.mem_map.1 hx
        simp [noticeKind]
    have hlt : (s.joined f).notices.held.length < noticeCapacity := by omega
    have hn : (s.noticed f).noted = (s.joined f).noted ++ [((s.joined f).clock.time, s.levelBody f)] := by
      unfold State.noticed
      generalize (s.joined f).warning.changed (s.joined f).warning.formed s.clock.time s.elapsed = w
      exact State.notice_noted ({ s.joined f with warning := w } : State) (s.levelBody f) hlt (.inr hun)
    rw [s.leveled_changed f hne, State.levelRecord, State.hand_nobody_noted, hn, hj, hc]

/-- The LEVEL record follows the OBS record, where both find room. -/
theorem State.leveled_queued (h : s.archive.hasRoom = true) (hl : s.archive.queue.length + 2 ≤ queueCapacity) :
    (s.leveled f).queued =
      s.queued ++ [(.obs (s.observation f), s.clock.time)] ++
        (if (s.joined f).warning.formed = s.warning.level then []
          else
            [(.level ((s.leveled f).warning.body (.changed s.warning.level (.observation (s.observation f).number))),
              s.clock.time)]) ∧
      (s.archive.queue.length + 3 ≤ queueCapacity → (s.leveled f).archive.hasRoom = true) := by
  obtain ⟨hj, hroom⟩ := s.joined_queued f h
  have hc : (s.joined f).clock.time = s.clock.time := by rw [s.joined_eq f]
  split
  · rename_i heq
    rw [s.leveled_same f heq, hj, List.append_nil]
    exact ⟨rfl, fun _ => hroom hl⟩
  · rename_i hne
    have hlen := congrArg List.length hj
    simp only [State.queued_length, List.length_append, List.length_cons, List.length_nil] at hlen
    generalize he : LevelEvent.changed s.warning.level (.observation (s.observation f).number) = e
    have hnew : s.leveled f = (s.noticed f).levelRecord e .nobody := by rw [s.leveled_changed f hne, he]
    have huw : (s.leveled f).warning = (s.noticed f).warning := by
      rw [hnew, State.levelRecord_warning]
    obtain ⟨hq, -, hmore⟩ := (s.noticed f).hand_queued (.level ((s.noticed f).warning.body e)) .nobody
      (by rw [s.noticed_archive]; exact hroom hl)
    rw [s.noticed_archive] at hmore
    rw [s.noticed_queued, s.noticed_clock, hc, hj] at hq
    rw [huw, hnew]
    exact ⟨hq, fun hk => hmore (by omega)⟩

/-- A level newly formed takes nothing from the write queue. -/
theorem State.leveled_live (h : (s.joined f).archive.state.isFailed = false) :
    (s.leveled f).archive.state.isFailed = false ∧ (s.joined f).queued <+: (s.leveled f).queued := by
  by_cases heq : (s.joined f).warning.formed = s.warning.level
  · rw [s.leveled_same f heq]
    exact ⟨h, List.prefix_refl _⟩
  · rw [s.leveled_changed f heq]
    rw [← s.noticed_archive] at h
    rw [← s.noticed_queued]
    obtain ⟨h1, h2, -⟩ := (s.noticed f).hand_live (.level ((s.noticed f).warning.body
      (.changed s.warning.level (.observation (s.observation f).number)))) .nobody h
    exact ⟨h1, h2⟩

end

end Sys2Proof.Machine
end

section
/-! SUPPORT. What a published observation has done, in the words of the statements: the observation formed, the effects of its append,
and the run that it ends (R12, R14 to R18, R23, R34, R83 to R91, R99, R123, R128). -/

namespace Sys2Proof.Machine

/-! ### What publishing leaves -/

/-- What remains of publishing once a run has been ended or not: a start owed on a condition, and the hold that was PENDING. -/
structure Closed (s t : State) (b : Bool) : Prop where
  elapsed : t.elapsed = s.elapsed
  startingUp : t.startingUp = s.startingUp
  clock : t.clock = s.clock
  rating : t.rating = s.rating
  store : t.store = s.store
  pending : t.pending = s.pending
  warning : t.warning = s.warning
  cable : t.cable = s.cable
  gauging : t.gauging = s.gauging
  lau : t.lau = { s.lau with startOwed := b || s.lau.startOwed, hold := t.lau.hold }
  hold : t.lau.hold =
    if s.lau.hold.state = .pending then
      { s.lau.hold with state := .held, timer := some (s.elapsed + 100 * s.lau.hold.limit), manual := none, count := 0 }
    else s.lau.hold
  grows : Grows s t 1

theorem State.enterPending_closed (s : State) : Closed s s.enterPending false := by
  unfold State.enterPending
  split
  · rename_i h
    refine ⟨rfl, rfl, rfl, rfl, rfl, rfl, rfl, rfl, ?_, rfl, (if_pos h).symm, ?_⟩
    · exact (Wake.hand_nobody _ _ _).1
    · exact ((State.notice_grows _ _ (by simp [noticeKind])).trans (State.hand_grows_nobody _ _)).from_eq rfl rfl
  · rename_i h
    exact ⟨rfl, rfl, rfl, rfl, rfl, rfl, rfl, rfl, rfl, rfl, (if_neg h).symm, (Grows.of_eq rfl rfl).weaken (Nat.zero_le 1)⟩

theorem State.oweIf_closed (s : State) (b : Bool) : Closed s (s.oweIf b).enterPending b := by
  cases b with
  | false => exact s.enterPending_closed
  | true =>
    obtain ⟨h1, h2, h3, h4, h5, h6, h7, h8, h9, h10, h11, h12⟩ := s.oweStart.enterPending_closed
    exact ⟨h1, h2, h3, h4, h5, h6, h7, h8, h9, h10, h11, h12.from_eq rfl rfl⟩

/-- The state that publishing leaves, told by the state in which the level is taken. -/
structure Published (s t : State) (f : Found) : Prop where
  elapsed : t.elapsed = s.elapsed
  startingUp : t.startingUp = s.startingUp
  clock : t.clock = { s.clock with floor := s.clock.time }
  rating : t.rating = s.rating
  store : t.store = s.store
  pending : t.pending = s.pending
  warning : t.warning = (s.joined f).warning.changed (s.joined f).warning.formed s.clock.time s.elapsed
  lau : t.lau =
    { s.lau with
      series := appendObservation s.lau.series (s.observation f), nextObs := nextObsNumber s.lau.nextObs, acq := none
      startOwed := t.lau.startOwed, hold := t.lau.hold }
  hold : t.lau.hold =
    if s.lau.hold.state = .pending then
      { s.lau.hold with state := .held, timer := some (s.elapsed + 100 * s.lau.hold.limit), manual := none, count := 0 }
    else s.lau.hold
  owes : t.interval ≠ s.interval → (∃ n, t.lau.lastStart = some n ∧ n + 100 * t.interval ≤ s.elapsed) → t.lau.startOwed = true
  cable : t.cable = ((s.leveled f).floodOnAppend (s.observation f)).cable
  gauging : t.gauging = ((s.leveled f).floodOnAppend (s.observation f)).gauging
  grows : Grows ((s.leveled f).floodOnAppend (s.observation f)) t 1

theorem State.publish_published (s : State) (f : Found) : Published s (s.publish f) f := by
  have hl := s.leveled_frame f
  rw [s.joined_eq f, ← s.joined_warning f] at hl
  rw [s.publish_eq f]
  have hframe := (s.leveled f).floodOnAppend_frame (s.observation f)
  have hclosed := ((s.leveled f).floodOnAppend (s.observation f)).oweIf_closed
    (decide ((s.leveled f).interval ≠ s.interval) && (s.leveled f).overdue)
  generalize hb : (decide ((s.leveled f).interval ≠ s.interval) && (s.leveled f).overdue) = b at hclosed ⊢
  generalize (((s.leveled f).floodOnAppend (s.observation f)).oweIf b).enterPending = t at hclosed ⊢
  have hwarning : t.warning = (s.leveled f).warning := hclosed.warning.trans hframe.warning
  have hlau : t.lau = { (s.leveled f).lau with startOwed := b || (s.leveled f).lau.startOwed, hold := t.lau.hold } := by
    rw [← hframe.lau]
    exact hclosed.lau
  have hsettings : t.lau.settings = (s.leveled f).lau.settings := by rw [hlau]
  have hinterval : t.interval = (s.leveled f).interval := by rw [State.interval, State.interval, hwarning, hsettings]
  refine
    { elapsed := (hclosed.elapsed.trans hframe.elapsed).trans (by rw [hl])
      startingUp := (hclosed.startingUp.trans hframe.startingUp).trans (by rw [hl])
      clock := (hclosed.clock.trans hframe.clock).trans (by rw [hl])
      rating := (hclosed.rating.trans hframe.rating).trans (by rw [hl])
      store := (hclosed.store.trans hframe.store).trans (by rw [hl])
      pending := (hclosed.pending.trans hframe.pending).trans (by rw [hl])
      warning := hwarning.trans (by rw [hl])
      lau := by rw [hlau, hl]
      hold := ?_
      owes := ?_
      cable := hclosed.cable
      gauging := hclosed.gauging
      grows := hclosed.grows }
  · rw [hclosed.hold, hframe.lau, hframe.elapsed, hl]
  · rintro hne ⟨n, hn, hdue⟩
    rw [hinterval] at hne hdue
    have hstart : (s.leveled f).lau.lastStart = some n := by
      rw [hlau] at hn
      exact hn
    have helapsed : (s.leveled f).elapsed = s.elapsed := by rw [hl]
    have hover : (s.leveled f).overdue = true := by
      simp only [State.overdue, State.duePoint, hstart, Option.map_some, after, helapsed, decide_eq_true_eq]
      exact hdue
    rw [hlau, ← hb, hover, decide_eq_true hne]
    rfl

/-! ### In the words of the statements -/

section
variable {s t : State} {f : Found}

/-- The state in which the level has been taken, but for the queues. -/
theorem State.leveled_eq (s : State) (f : Found) :
    s.leveled f =
      { s with
        clock := { s.clock with floor := s.clock.time }
        lau :=
          { s.lau with
            series := appendObservation s.lau.series (s.observation f), nextObs := nextObsNumber s.lau.nextObs, acq := none }
        warning := (s.joined f).warning.changed (s.joined f).warning.formed s.clock.time s.elapsed
        archive := (s.leveled f).archive, notices := (s.leveled f).notices, ports := (s.leveled f).ports } := by
  have hl := s.leveled_frame f
  rw [s.joined_eq f, ← s.joined_warning f] at hl
  exact hl

theorem Published.level (h : Published s t f) : t.warning.level = (s.joined f).warning.formed := by
  rw [h.warning, Warning.changed_level]

/-- Of the warning unit an append changes the records' state, the level and the acknowledgement owed with the relay. -/
theorem Published.warning_frame (h : Published s t f) :
    t.warning =
      { s.warning with
        live := Eight.zip (evaluateRecord (s.observation f)) s.warning.settings s.warning.live
        level := t.warning.level, owed := t.warning.owed, firstTime := t.warning.firstTime, deadline := t.warning.deadline
        relay := t.warning.relay } := by
  have hframe := (s.joined f).warning.changed_frame (s.joined f).warning.formed s.clock.time s.elapsed
  rw [← h.warning, ← h.level] at hframe
  rw [s.joined_warning f] at hframe
  exact hframe

theorem Published.live (h : Published s t f) :
    t.warning.live = Eight.zip (evaluateRecord (s.observation f)) s.warning.settings s.warning.live := by
  rw [h.warning_frame]

theorem Published.last (h : Published s t f) {o : Observation} (ho : t.lau.series.getLast? = some o) : o = s.observation f := by
  rw [h.lau] at ho
  exact (Option.some.inj ((appendObservation_getLast? _ _).symm.trans ho)).symm

/-- The state before a level is taken has the observation's record as its newest, and what follows takes nothing away. -/
theorem Published.obs_queued (h : Published s t f) (hroom : s.archive.hasRoom = true) :
    s.queued ++ [(.obs (s.observation f), s.clock.time)] <+: t.queued := by
  have hjf : (s.joined f).archive.state.isFailed = false := by
    have hf : s.archive.state.isFailed = false := by
      simp only [Archive.hasRoom, Bool.and_eq_true, Bool.not_eq_true'] at hroom
      exact hroom.1.1
    have ha : (s.appended f).archive = s.archive := by rw [s.appended_eq f]
    exact ((s.appended f).hand_live (.obs (s.observation f)) .nobody (ha ▸ hf)).1
  obtain ⟨hlive, hprefix⟩ := s.leveled_live f hjf
  have hflood := (s.leveled f).floodOnAppend_grows (s.observation f)
  rw [← (s.joined_queued f hroom).1]
  exact (hprefix.trans (hflood.queued hlive)).trans (h.grows.queued (hflood.failed hlive))

/-- The notices of the append are the newest but for those of a run's end and of a hold entered. -/
theorem Published.leveled_noted (h : Published s t f) (hroom : s.notices.held.length + f.events.length ≤ 12) (hl : s.Unleveled) :
    s.noted ++ s.sensorBodies f ++
        (if t.warning.level = s.warning.level then [] else [(s.clock.time, s.levelBody f)]) <+: t.noted := by
  have hnoted := s.leveled_noted f (by simp only [noticeCapacity]; omega) hl
  have hlen := congrArg List.length hnoted
  simp only [State.noted_length, List.length_append, State.sensorBodies, List.length_map] at hlen
  have hflood := (s.leveled f).floodOnAppend_grows (s.observation f)
  have hle : (if (s.joined f).warning.formed = s.warning.level then ([] : List (Nat × NoticeBody))
      else [(s.clock.time, s.levelBody f)]).length ≤ 1 := by split <;> simp
  have hfit : (s.leveled f).notices.held.length + 3 ≤ noticeCapacity := by
    simp only [noticeCapacity]
    omega
  have hlong := hflood.length (by omega)
  rw [h.level, ← hnoted]
  exact (hflood.noted (by omega)).trans (h.grows.noted (by omega))

theorem levelHigher_eq (a b : Level) : levelHigher a b = if levelRank b < levelRank a then a else b := by
  by_cases h : levelRank b < levelRank a
  · rw [levelHigher, if_neg (by omega), if_pos h]
  · rw [levelHigher, if_pos (by omega), if_neg h]

/-- The acknowledgement after a change of level (R87, R88). -/
theorem Published.acknowledgement (h : Published s t f) : AcknowledgementFollows s t := by
  have hj := s.joined_warning f
  have hlevel : (s.joined f).warning.level = s.warning.level := by rw [hj]
  refine ⟨fun hup => ?_, fun hdown => ?_⟩
  · rw [h.level] at hup
    have hc := Warning.changed_up (w := (s.joined f).warning) s.clock.time s.elapsed (hlevel.symm ▸ hup)
    rw [← h.warning] at hc
    rw [hj] at hc
    exact hc
  · rw [h.level] at hdown
    have hc := Warning.changed_down (w := (s.joined f).warning) s.clock.time s.elapsed (hlevel.symm ▸ hdown)
    rw [← h.warning, ← h.level] at hc
    rw [hj] at hc
    exact hc

/-- The LEVEL record follows the OBS record, where both find room. -/
theorem Published.level_queued (h : Published s t f) (hroom : s.archive.hasRoom = true) (hl : s.archive.queue.length + 2 ≤ 32)
    (hne : t.warning.level ≠ s.warning.level) :
    s.queued ++ [(.obs (s.observation f), s.clock.time),
      (.level (t.warning.body (.changed s.warning.level (.observation (s.observation f).number))), s.clock.time)] <+: t.queued := by
  obtain ⟨hq, -⟩ := s.leveled_queued f hroom hl
  have hw : (s.leveled f).warning = t.warning := by
    rw [h.warning, s.leveled_eq f]
  rw [h.level] at hne
  rw [if_neg hne, hw, List.append_assoc] at hq
  have hjf : (s.joined f).archive.state.isFailed = false := by
    have hf : s.archive.state.isFailed = false := by
      simp only [Archive.hasRoom, Bool.and_eq_true, Bool.not_eq_true'] at hroom
      exact hroom.1.1
    have ha : (s.appended f).archive = s.archive := by rw [s.appended_eq f]
    exact ((s.appended f).hand_live (.obs (s.observation f)) .nobody (ha ▸ hf)).1
  obtain ⟨hlive, -⟩ := s.leveled_live f hjf
  have hflood := (s.leveled f).floodOnAppend_grows (s.observation f)
  have hgrow := (hflood.queued hlive).trans (h.grows.queued (hflood.failed hlive))
  rw [hq] at hgrow
  exact hgrow

/-- What the append has done beyond its record (R23, R87 to R91, R99, R123). -/
theorem Published.appendEffects (h : Published s t f) : AppendEffects s t f (s.observation f) := by
  refine ⟨fun heq => ?_, fun hne => ⟨?_, h.acknowledgement, fun hroom hl => h.level_queued hroom hl hne, fun hroom hl => ?_⟩,
    h.owes, fun hgo => ?_⟩
  · have hw : t.warning = (s.joined f).warning := by
      rw [h.warning, Warning.changed, if_pos]
      rw [← h.level, heq, s.joined_warning f]
    rw [hw, s.joined_warning f]
  · have hrelay : t.warning.relay = t.warning.relayRequired := by
      rw [h.warning]
      refine Warning.changed_relay_eq _ _ ?_
      rw [← h.level, s.joined_warning f]
      exact hne
    have hframe := h.warning_frame
    rw [← h.live] at hframe
    rw [← hrelay]
    exact hframe
  · have hnoted := h.leveled_noted hroom ((State.unleveled_iff s).2 hl)
    rw [if_neg hne] at hnoted
    have hbody : s.levelBody f =
        .level t.warning.level s.warning.level
          (if levelRank s.warning.level < levelRank t.warning.level then t.warning.level else s.warning.level) := by
      rw [h.level, ← levelHigher_eq]
      rfl
    rw [hbody] at hnoted
    exact hnoted
  · have hcable : (s.leveled f).cable = s.cable := by rw [s.leveled_eq f]
    have hgauging : (s.leveled f).gauging = s.gauging := by rw [s.leveled_eq f]
    have hwarning : (s.leveled f).warning = t.warning := by rw [h.warning, s.leveled_eq f]
    have hpass : ¬ (s.leveled f).floods (s.observation f).stage := by
      rintro ⟨r, hr, hb⟩
      rw [hcable] at hr hb
      rw [hwarning] at hb
      obtain ⟨hlevel, hstage⟩ := hgo r hr
      rcases hb with hb | ⟨v, hv, hb⟩
      · rw [hlevel] at hb
        cases hb
      · exact absurd (hstage v hv) (not_le.2 hb)
    rw [h.cable, h.gauging, State.floodOnAppend_passes _ _ hpass]
    exact ⟨hcable, hgauging⟩

theorem State.observation_rated (s : State) (f : Found) :
    (∀ h, f.stage = some h →
      ({ discharge := (s.observation f).discharge, flags := (s.observation f).flags, ratingId := (s.observation f).ratingId
         shift := (s.observation f).shift } : Rated) = s.rating.rate h s.clock.time) ∧
      (f.stage = none →
        (s.observation f).discharge = none ∧ (s.observation f).flags = DischargeFlags.none ∧
          (s.observation f).ratingId = none ∧ (s.observation f).shift = none) := by
  refine ⟨fun h hf => ?_, fun hf => ?_⟩
  · simp only [State.observation, hf]
  · simp only [State.observation, hf, and_self]

/-- What has been published is an observation formed (R12, R14 to R18, R83, R85). -/
theorem Published.observationFormed (h : Published s t f) : ObservationFormed s t s.lau f := by
  refine ⟨fun o ho => ?_, ?_, ?_, ?_, ?_, ?_, ?_, ?_, h.clock, h.elapsed, h.startingUp, h.rating, h.store, h.pending, ?_, ?_, ?_, ?_⟩
  · obtain rfl := h.last ho
    obtain ⟨hsome, hnone⟩ := s.observation_rated f
    refine ⟨?_, rfl, rfl, rfl, rfl, rfl, rfl, rfl, rfl, rfl, hsome, hnone, h.live, h.obs_queued, fun hroom hl => ?_, h.appendEffects⟩
    · rw [h.lau]
    · exact (List.prefix_append _ _).trans (h.leveled_noted hroom ((State.unleveled_iff s).2 hl))
  · rw [h.lau]
    simp [appendObservation]
  · rw [h.lau]
    rfl
  iterate 5 rw [h.lau]
  · rw [h.level, h.warning, Warning.changed_formed]
  iterate 3 rw [h.warning_frame]

/-! ### The run that it ends -/

/-- A run in progress that the observation published ends (R91, R119, R123, R128, R135). -/
theorem Published.floodEndsRun (h : Published s t f) {run : Run} {rr : RunRecord} (hrun : s.cable.run = some run)
    (hrr : s.gauging.run = some rr)
    (hb : levelBars run.kind t.warning.level = true ∨ ∃ v, f.stage = some v ∧ stageLimit s.cable.settings run.kind < v) :
    FloodEndsRun s t f run rr := by
  have hL := s.leveled_eq f
  have hcable : (s.leveled f).cable = s.cable := by rw [hL]
  have hgauging : (s.leveled f).gauging = s.gauging := by rw [hL]
  have hwarning : (s.leveled f).warning = t.warning := by rw [h.warning, hL]
  have hclock : (s.leveled f).clock.time = s.clock.time := by rw [hL]
  have helapsed : (s.leveled f).elapsed = s.elapsed := by rw [hL]
  have hflood : (s.leveled f).floodOnAppend (s.observation f) = (s.leveled f).endAndRetrieve .floodLimit :=
    State.floodOnAppend_floods _ _ ⟨run, by rw [hcable]; exact hrun, by rw [hcable, hwarning]; exact hb⟩
  have hgrow := (s.leveled f).floodOnAppend_grows (s.observation f)
  have hlast := h.grows
  obtain ⟨hfc, -, hfn, hfg, hfq⟩ := (s.leveled f).endAndRetrieve_flooded (hcable ▸ hrun) (hgauging ▸ hrr)
  rw [← hflood] at hfc hfn hfg hfq
  rw [hcable, helapsed] at hfc
  rw [hcable, hclock] at hfn
  refine ⟨h.cable.trans hfc, ?_⟩
  rintro g rfl o ho
  obtain rfl := h.last ho
  have hform : (s.leveled f).formRecord rr .floodLimit =
      ({ s with lau := { s.lau with series := t.lau.series } } : State).formRecord rr .floodLimit := by
    rw [hL, h.lau]
    rfl
  rw [hform, hgauging] at hfg
  rw [hform, hclock] at hfq
  refine ⟨fun hroom hl => ?_, fun hroom hl => ?_⟩
  · obtain ⟨hq, hmore⟩ := s.leveled_queued f hroom (by simp only [queueCapacity]; omega)
    have hroom' := hmore (by simp only [queueCapacity]; omega)
    refine ⟨h.gauging.trans (hfg hroom'), ?_⟩
    have hlive : (s.leveled f).archive.state.isFailed = false := by
      simp only [Archive.hasRoom, Bool.and_eq_true, Bool.not_eq_true'] at hroom'
      exact hroom'.1.1
    have hall := (hfq hroom').trans (hlast.queued (hgrow.failed hlive))
    rw [hq, hwarning, ← h.level] at hall
    exact hall
  · have hun := (State.unleveled_iff s).2 hl
    have hnoted := s.leveled_noted f (by simp only [noticeCapacity]; omega) hun
    have hlen := congrArg List.length hnoted
    simp only [State.noted_length, List.length_append, State.sensorBodies, List.length_map] at hlen
    have hle : (if (s.joined f).warning.formed = s.warning.level then ([] : List (Nat × NoticeBody))
        else [(s.clock.time, s.levelBody f)]).length ≤ 1 := by split <;> simp
    have hfit : (s.leveled f).notices.held.length + 3 ≤ noticeCapacity := by
      simp only [noticeCapacity]
      omega
    have hlong := hgrow.length (by omega)
    have hall := (hfn hfit).trans (hlast.noted (by omega))
    rw [hnoted, ← h.level, State.levelBody, ← h.level, levelHigher_eq] at hall
    exact hall

end

end Sys2Proof.Machine
end

section
/-! SUPPORT. A request that stands owed while an observation is published: its slot and its answer stay (R153, R178), and so does the
archive's first operation. Then the start of an acquisition, with its sensors or without (R4, R10, R37). -/

namespace Sys2Proof.Machine

/-! ### What publishing carries over -/

/-- A response stands ready on a port. -/
def Ports.ReadyOn (ps : Ports) (r : Response) : Port → Prop
  | .L => ps.l.answer = some r
  | .T => r ∈ ps.t.ready
  | .F => r ∈ ps.f.ready

/-- A port owes a request, its answer ready where it has one. -/
structure Ports.Has (ps : Ports) (p : Port) (o : Owed) (a : Option Response) : Prop where
  slot : ps.slot p = some o
  ready : ∀ r, a = some r → ps.ReadyOn r p

/-- A request that the end of COMPUTING does not answer: it waits for no gauging record, or has its answer. -/
def Owed.Still (o : Owed) : Prop := o.waitGauging = none ∨ o.answered = true

/-- Whatever is owed and still stands so, and the archive's first operation is the same. -/
structure Carries (s t : State) : Prop where
  firstOp : t.archive.firstOp = s.archive.firstOp
  has : ∀ p o a, o.Still → s.ports.Has p o a → t.ports.Has p o a

theorem Carries.of_eq {s t : State} (ha : t.archive.firstOp = s.archive.firstOp) (hp : t.ports = s.ports) : Carries s t :=
  ⟨ha, fun _ _ _ _ h => hp.symm ▸ h⟩

theorem Carries.trans {s t u : State} (h : Carries s t) (k : Carries t u) : Carries s u :=
  ⟨k.firstOp.trans h.firstOp, fun p o a ho hp => k.has p o a ho (h.has p o a ho hp)⟩

/-- What is carried over is told from any state with the same archive and ports. -/
theorem Carries.from_eq {s t u : State} (h : Carries u t) (ha : u.archive = s.archive) (hp : u.ports = s.ports) : Carries s t :=
  (Carries.of_eq (congrArg Archive.firstOp ha) hp).trans h

theorem Ports.Has.notice {w : Wake} {p : Port} {o : Owed} {a : Option Response} (h : w.ports.Has p o a) (t : Nat) (b : NoticeBody) :
    (w.notice t b).ports.Has p o a := by
  refine ⟨(w.notice_slot t b p).trans h.slot, fun r hr => ?_⟩
  have := h.ready r hr
  cases p with
  | L => exact (congrArg PortL.answer (w.notice_l t b)).trans this
  | T =>
    show r ∈ (w.notice t b).ports.t.ready
    rw [w.notice_t_ready]
    exact this
  | F =>
    show r ∈ (w.notice t b).ports.f.ready
    rw [w.notice_f]
    exact this

theorem Ports.readyOn_answer_other (ps : Ports) (p q : Port) (x : Result) (y : Payload) (r : Response) (hq : q ≠ p)
    (h : ps.ReadyOn r p) : (ps.answer q x y).ReadyOn r p := by
  unfold Ports.answer
  split
  · exact h
  · split
    · exact h
    · cases p <;> cases q
      case L.L | T.T | F.F => exact absurd rfl hq
      all_goals exact h

theorem Ports.Has.answerGauging {ps : Ports} {p : Port} {o : Owed} {a : Option Response} (h : ps.Has p o a) (ho : o.Still)
    (g : Gauging) (q : Port) : (ps.answerGauging g q).Has p o a := by
  unfold Ports.answerGauging
  split
  · exact h
  · rename_i o' hslot
    split
    · exact h
    · rename_i id hid
      by_cases hq : q = p
      · subst hq
        obtain rfl : o' = o := Option.some.inj (hslot.symm.trans h.slot)
        have hans : o'.answered = true := ho.resolve_left (by simp [hid])
        have hsame : ps.answer q (g.readAnswer id).1 (g.readAnswer id).2 = ps := by
          unfold Ports.answer
          rw [hslot]
          exact if_pos hans
        rw [hsame]
        exact h
      · exact ⟨(Ports.slot_answer_other _ _ _ _ _ (Ne.symm hq)).trans h.slot,
          fun r hr => ps.readyOn_answer_other p q _ _ r hq (h.ready r hr)⟩

theorem Ports.Has.computingEnd {w : Wake} {p : Port} {o : Owed} {a : Option Response} (h : w.ports.Has p o a) (ho : o.Still)
    (index : Option Nat) (b : Bool) : (w.computingEnd index b).ports.Has p o a := by
  unfold Wake.computingEnd
  split
  · exact h
  · exact (((Ports.Has.notice (w := { w with gauging := _ }) h _ _).answerGauging ho _ .L).answerGauging ho _ .T).answerGauging ho _ .F

theorem Wake.hand_firstOp (w : Wake) (r : Record) (t : Nat) (o : Owner) :
    (w.hand r t o).archive.firstOp = w.archive.firstOp := by
  have hkick : ∀ u : Wake, u.kick.archive.firstOp = u.archive.firstOp := fun u => by
    unfold Wake.kick
    split
    · rfl
    · exact (Archive.begin_frame _).2.2.2.1
  have hdropped : (w.reportDropped o).archive = w.archive := by
    cases o with
    | nobody => rfl
    | request p id => rfl
    | gauging =>
      show (w.computingEnd none true).archive = w.archive
      unfold Wake.computingEnd
      split <;> rfl
  unfold Wake.hand
  simp only
  split
  · rw [hdropped]
  · split
    · rw [hkick, Wake.reportEntered_archive]
    · split
      · unfold Archive.countObs
        split <;> rfl
      · split <;> rfl

theorem State.notice_carries (s : State) (b : NoticeBody) : Carries s (s.notice b) :=
  ⟨rfl, fun _ _ _ _ h => Ports.Has.notice (w := s.wake) h _ _⟩

theorem State.hand_nobody_carries (s : State) (r : Record) : Carries s (s.hand r .nobody) :=
  .of_eq (s.wake.hand_firstOp r s.clock.time .nobody) (s.wake.hand_nobody r s.clock.time).2.2

theorem State.hand_gauging_carries (s : State) (r : Record) : Carries s (s.hand r .gauging) := by
  refine ⟨s.wake.hand_firstOp r s.clock.time .gauging, fun p o a ho h => ?_⟩
  show (s.wake.hand r s.clock.time .gauging).ports.Has p o a
  cases hf : s.wake.archive.state.isFailed with
  | true =>
    rw [Wake.hand_failed _ r _ _ hf]
    exact Ports.Has.computingEnd (w := s.wake) h ho none true
  | false =>
    cases hroom : s.wake.archive.hasRoom with
    | true =>
      obtain ⟨-, -, -, -, -, -, hports⟩ := s.wake.hand_room r s.clock.time .gauging hroom
      rw [hports]
      exact h
    | false =>
      rw [s.wake.hand_full r s.clock.time .gauging hf hroom]
      split
      · exact h
      · split <;> exact h

theorem State.endRun_carries (s : State) (cause : EndCause) : Carries s (s.endRun cause) := by
  cases hr : s.cable.run with
  | none =>
    rw [s.endRun_idle cause hr]
    exact .of_eq rfl rfl
  | some run =>
    rw [s.endRun_eq cause hr]
    have htold : Carries s (s.endTold cause run) := by
      unfold State.endTold
      cases endEvent cause with
      | none => exact .of_eq rfl rfl
      | some e =>
        exact ((s.withCable (s.cable.ended cause)).notice_carries
          (.cableway e cause s.cable.latestHold (some (run.vertical + 1)) s.cable.lines)).from_eq rfl rfl
    refine htold.trans ?_
    generalize s.endTold cause run = u
    cases hg : u.gauging.run with
    | none =>
      rw [State.gaugeEnd, hg]
      exact .of_eq rfl rfl
    | some rr =>
      rw [u.gaugeEnd_eq cause hg]
      exact (State.hand_gauging_carries ({ u with gauging := u.gauging.ended (u.formRecord rr cause) } : State) _).from_eq rfl rfl

theorem State.floodOnAppend_carries (s : State) (o : Observation) : Carries s (s.floodOnAppend o) := by
  by_cases h : s.floods o.stage
  · rw [s.floodOnAppend_floods o h]
    exact (s.endRun_carries .floodLimit).trans (.of_eq rfl rfl)
  · rw [s.floodOnAppend_passes o h]
    exact .of_eq rfl rfl

theorem State.sensorNotices_carries (s : State) (n : Nat) (l : List (SensorEvent × Channel × Option Nat)) :
    Carries s (s.sensorNotices n l) := by
  induction l generalizing s with
  | nil => exact .of_eq rfl rfl
  | cons e l ih => exact (s.notice_carries _).trans (ih _)

theorem State.enterPending_carries (s : State) : Carries s s.enterPending := by
  unfold State.enterPending
  split
  · exact ((State.notice_carries _ _).trans (State.hand_nobody_carries _ _)).from_eq rfl rfl
  · exact .of_eq rfl rfl

theorem State.leveled_carries (s : State) (f : Found) : Carries s (s.leveled f) := by
  have hsens := (State.sensorNotices_carries (s.withLau { s.lau with nextObs := nextObsNumber s.lau.nextObs, acq := none })
    (s.observation f).number f.events).from_eq (s := s) rfl rfl
  have happended : Carries s (s.appended f) := hsens.trans (.of_eq (t := s.appended f) rfl rfl)
  have hjoined : Carries s (s.joined f) :=
    happended.trans (((s.appended f).hand_nobody_carries (.obs (s.observation f))).trans (.of_eq rfl rfl))
  unfold State.leveled
  split
  · exact hjoined
  · have hnoticed : Carries (s.joined f) (s.noticed f) := by
      unfold State.noticed
      generalize (s.joined f).warning.changed (s.joined f).warning.formed s.clock.time s.elapsed = w
      exact (({ s.joined f with warning := w } : State).notice_carries (s.levelBody f)).from_eq rfl rfl
    exact (hjoined.trans hnoticed).trans ((s.noticed f).hand_nobody_carries _)

theorem State.publish_carries (s : State) (f : Found) : Carries s (s.publish f) := by
  rw [s.publish_eq f]
  have howe : ∀ (u : State) (b : Bool), Carries u (u.oweIf b) := fun u b => by
    cases b <;> exact .of_eq rfl rfl
  exact ((s.leveled_carries f).trans ((s.leveled f).floodOnAppend_carries (s.observation f))).trans
    ((howe _ _).trans (State.enterPending_carries _))

end Sys2Proof.Machine
end

section
/-! SUPPORT. An acquisition started, with its sensors or without, and what a start asked for does (R4, R10, R15, R21, R22, R30, R37). -/

namespace Sys2Proof.Machine

/-! ### An observation formed, seen from the ends of a command -/

theorem ObservationFormed.same {s t u : State} {l : Lau} {f : Found} (h : ObservationFormed s t l f) (k : SameBlocks t u) :
    ObservationFormed s u l f := by
  obtain ⟨h1, h2, h3, h4, h5, h6, h7, h8, h9, h10, h11, -, h13⟩ := k
  simp only [ObservationFormed, AppendEffects, State.interval, AcknowledgementFollows, h1, h2, h3, h4, h5, h6, h7, h8, h9, h10, h11,
    h13] at h ⊢
  exact h

theorem ObservedWithoutSensors.same {s t u : State} (h : ObservedWithoutSensors s t) (k : SameBlocks t u) :
    ObservedWithoutSensors s u := by
  obtain ⟨hstart, hheld, hnone⟩ := h
  have hlau : u.lau = t.lau := k.2.2.2.1
  refine ⟨hlau ▸ hstart, fun hs => ?_, fun hs => ?_⟩
  · obtain ⟨h1, h2, h3⟩ := hheld hs
    exact ⟨hlau ▸ h1, hlau ▸ h2, h3.same k⟩
  · obtain ⟨h1, h2, h3⟩ := hnone hs
    exact ⟨hlau ▸ h1, hlau ▸ h2, h3.same k⟩

/-- An observation is formed from what stands in the unit beside the start, the excitation, the statuses, DISAGREE and
the hold. -/
theorem State.publish_formed (s : State) (l : Lau) (f : Found)
    (hl : l = { s.lau with
      acq := l.acq, excitation := l.excitation, lastStart := l.lastStart, startOwed := l.startOwed, status := l.status
      disagree := l.disagree, hold := l.hold }) :
    ObservationFormed s ((s.withLau l).publish f) l f := by
  have h := ((s.withLau l).publish_published f).observationFormed
  generalize (s.withLau l).publish f = t at h ⊢
  obtain ⟨hfirst, hrest⟩ := h
  have hseries : l.series = s.lau.series := by rw [hl]
  have hnext : l.nextObs = s.lau.nextObs := by rw [hl]
  have hsettings : l.settings = s.lau.settings := by rw [hl]
  have hchannels : l.channels = s.lau.channels := by rw [hl]
  simp only [State.withLau, AppendEffects, State.interval, AcknowledgementFollows, hseries, hnext, hsettings, hchannels]
    at hfirst hrest
  exact ⟨hfirst, hrest⟩

/-! ### A start -/

/-- A start that powers the sensors (R4). -/
theorem State.startAcquisition_powered (s : State) (hh : s.lau.hold.state ≠ .held)
    (hc : ∃ c : Channel, (s.lau.channels.get c).enabled = true) :
    s.startAcquisition = s.withLau (s.lau.started s.elapsed) := by
  have hlines : ((s.lau.channels.map (·.enabled)).la || (s.lau.channels.map (·.enabled)).lb ||
      (s.lau.channels.map (·.enabled)).lc) = true := by
    obtain ⟨c, hc⟩ := hc
    cases c <;> simp_all [PerChannel.map, PerChannel.get]
  simp only [State.startAcquisition, if_neg hh, hlines, if_true]
  rfl

/-- An acquisition that captured no channel finds nothing. -/
theorem Lau.judge_nothing (l : Lau) (a : Acquisition) (h : a.capture = ⟨none, none, none⟩) : l.judge a = (l, nothingFound) := by
  have hstatus : ∀ st : Option ChannelStatus, updateStatus st none a.burst = (st, none) := fun st => by
    cases st <;> rfl
  have hvotes : a.votes = [] := by simp [Acquisition.votes, h, PerChannel.toList, voteOf]
  simp [Lau.judge, hvotes, h, PerChannel.zip, PerChannel.map, PerChannel.toList, hstatus, sourceOf, nothingFound]

theorem Hold.found_eq (l : Lau) : l.hold.found = l.heldFound := by
  unfold Hold.found Lau.heldFound
  cases l.hold.manual <;> rfl

/-- The level acquisition unit with a burst over: the lines off, the acquisition in COMPLETING (R5). -/
def Lau.burstOver (l : Lau) (a : Acquisition) : Lau :=
  { l with excitation := PerChannel.all false, acq := some { a with phase := .completing } }

/-- A burst over in a later second than the newest observation's forms its observation. -/
theorem State.burstComplete_later (s : State) (a : Acquisition) (h : s.laterSecond = true) :
    s.burstComplete a = (s.withLau ((s.lau.burstOver a).judge a).1).publish ((s.lau.burstOver a).judge a).2 := if_pos h

theorem State.burstComplete_waits (s : State) (a : Acquisition) (h : s.laterSecond = false) :
    s.burstComplete a = s.withLau (s.lau.burstOver a) := if_neg (show ¬ s.laterSecond = true by simp [h])

/-- A start that powers no sensor forms its observation at once (R4, R10, R37). -/
theorem State.startAcquisition_observed (s : State) (hl : s.laterSecond = true) (hw : s.lau.startsWithoutSensors = true) :
    ObservedWithoutSensors s s.startAcquisition := by
  by_cases hheld : s.lau.hold.state = .held
  · have hstart : s.startAcquisition =
        (s.withLau { s.lau with lastStart := some s.elapsed, startOwed := false }).publish s.lau.heldFound := by
      rw [← Hold.found_eq]
      exact if_pos hheld
    have hp := (s.withLau { s.lau with lastStart := some s.elapsed, startOwed := false }).publish_published s.lau.heldFound
    have hf := s.publish_formed { s.lau with lastStart := some s.elapsed, startOwed := false } s.lau.heldFound rfl
    rw [← hstart] at hp hf
    refine ⟨by rw [hp.lau]; rfl, fun _ => ⟨?_, by rw [hp.lau]; rfl, hf⟩, fun h => absurd (hheld.symm.trans h) (by decide)⟩
    rw [hp.hold, if_neg (by simp [State.withLau, hheld])]
    rfl
  · simp only [Lau.startsWithoutSensors, hheld, decide_false, Bool.false_or, Bool.and_eq_true, decide_eq_true_eq,
      Bool.not_eq_true'] at hw
    obtain ⟨⟨⟨hnone, hla⟩, hlb⟩, hlc⟩ := hw
    generalize ha : ({ phase := if s.lau.settings.warmUp = 0 then .burst else .warming, capture := captureOf s.lau.channels
                       warmUp := s.lau.settings.warmUp, burst := s.lau.settings.burst, start := s.elapsed, taken := 0 } :
      Acquisition) = a
    have hcap : a.capture = ⟨none, none, none⟩ := by
      rw [← ha]
      simp [captureOf, PerChannel.map, hla, hlb, hlc]
    generalize hl' : ({ s.lau with lastStart := some s.elapsed, startOwed := false } : Lau).burstOver a = l
    have hstart : s.startAcquisition = (s.withLau l).publish nothingFound := by
      have hburst : s.startAcquisition =
          (s.withLau { s.lau with lastStart := some s.elapsed, startOwed := false }).burstComplete a := by
        rw [← ha]
        simp only [State.startAcquisition, if_neg hheld, PerChannel.map, hla, hlb, hlc, Bool.or_self, Bool.false_eq_true, if_false]
      have hlater := (s.withLau { s.lau with lastStart := some s.elapsed, startOwed := false }).burstComplete_later a hl
      have hover : (s.withLau { s.lau with lastStart := some s.elapsed, startOwed := false }).lau.burstOver a = l := hl'
      rw [hover, l.judge_nothing a hcap] at hlater
      exact hburst.trans hlater
    have hp := (s.withLau l).publish_published nothingFound
    have hf := s.publish_formed l nothingFound (by rw [← hl']; rfl)
    rw [← hstart] at hp hf
    refine ⟨by rw [hp.lau, ← hl']; rfl, fun h => absurd h hheld, fun _ => ⟨?_, by rw [hp.lau, ← hl']; rfl, ?_⟩⟩
    · rw [hp.hold, if_neg]
      · rw [← hl']
        rfl
      · rw [← hl']
        exact fun h => absurd (hnone.symm.trans h) (by decide)
    · subst hl'
      exact hf

/-! ### What a start leaves owed -/

theorem State.withLau_publish_carries (s : State) (l : Lau) (f : Found) : Carries s ((s.withLau l).publish f) :=
  ((s.withLau l).publish_carries f).from_eq rfl rfl

theorem State.form_carries (s : State) (a : Acquisition) : Carries s (s.form a) := s.withLau_publish_carries _ _

theorem State.burstComplete_carries (s : State) (a : Acquisition) : Carries s (s.burstComplete a) := by
  unfold State.burstComplete
  simp only
  split
  · exact (State.form_carries _ a).from_eq rfl rfl
  · exact .of_eq rfl rfl

theorem State.startAcquisition_carries (s : State) : Carries s s.startAcquisition := by
  unfold State.startAcquisition
  simp only
  split
  · exact s.withLau_publish_carries _ _
  · split
    · exact .of_eq rfl rfl
    · exact (State.burstComplete_carries _ _).from_eq rfl rfl

theorem State.requestStart_carries (s : State) : Carries s s.requestStart := by
  unfold State.requestStart
  split
  · exact .of_eq rfl rfl
  · exact s.startAcquisition_carries

/-! ### The second of the newest observation -/

theorem State.sameSecond_false_iff (s : State) :
    s.sameSecond = false ↔ ∀ o, s.lau.series.getLast? = some o → o.time ≠ s.clock.time := by
  unfold State.sameSecond
  cases s.lau.series.getLast? with
  | none => simp
  | some o => simp

theorem State.sameSecond_of_later {s : State} (h : s.laterSecond = true) : s.sameSecond = false :=
  s.sameSecond_false_iff.2 fun o ho => Nat.ne_of_lt (s.laterSecond_iff.1 h o ho)

theorem State.requestStart_owes (s : State) (h : s.lau.acq.isSome = true ∨ s.sameSecond = true) : s.requestStart = s.oweStart :=
  if_pos (by simpa using h)

theorem State.requestStart_starts (s : State) (ha : s.lau.acq = none) (h : s.sameSecond = false) :
    s.requestStart = s.startAcquisition := if_neg (by simp [ha, h])

end Sys2Proof.Machine
end

section
/-! SUPPORT. Acquisitions started, their readings taken and their observations formed, at the events and requests that do so (R4, R5, R15,
R20 to R25, R34, R37, R38, R172, R196). -/

namespace Sys2Proof.Machine

/-! ### The release of what waits for a station second (R15, R22, R30) -/

theorem State.release_rests (s : State) (h : s.lau.acq = none) (ho : s.lau.startOwed = false ∨ s.sameSecond = true) : s.release = s := by
  unfold State.release
  simp only [h]
  rcases ho with ho | ho <;> simp [ho]

theorem State.release_flies (s : State) {a : Acquisition} (h : s.lau.acq = some a)
    (ho : a.phase ≠ .completing ∨ s.laterSecond = false) : s.release = s := by
  unfold State.release
  simp only [h]
  rcases ho with ho | ho <;> simp [ho]

theorem State.release_forms (s : State) {a : Acquisition} (h : s.lau.acq = some a) (ho : a.phase = .completing)
    (hl : s.laterSecond = true) : s.release = s.form a := by
  unfold State.release
  simp only [h, ho, hl, Bool.and_true, decide_true, if_true]

theorem State.release_starts (s : State) (h : s.lau.acq = none) (ho : s.lau.startOwed = true) (hs : s.sameSecond = false) :
    s.release = s.startAcquisition := by
  unfold State.release
  simp only [h, ho, hs, Bool.not_false, Bool.and_true, if_true]

theorem State.release_carries (s : State) : Carries s s.release := by
  unfold State.release
  split
  · split
    · exact s.form_carries _
    · exact .of_eq rfl rfl
  · split
    · exact s.startAcquisition_carries
    · exact .of_eq rfl rfl

/-! ### The station second (R25) -/

theorem exec_stationSecond (s : State) (x : Encoders) (h : s.clock.time < 4294967295) {u : State}
    (hu : u = { s.sample x with
      elapsed := max s.elapsed (s.clock.phase + 100).toNat
      clock := { s.clock with time := s.clock.time + 1, phase := s.clock.phase + 100 } }) :
    exec (.stationSecond x) s = .next u.release.settle := by
  subst hu
  have hstep : (s.sample x).stationSecond = _ := if_pos h
  show Host.Outcome.next (s.sample x).stationSecond.settle = _
  rw [hstep]
  rfl

/-- Settles O42: by what the new second releases. -/
theorem aStationSecondBegins : Obligations.AStationSecondBegins := by
  intro s x u hu
  have hlau : u.lau = s.lau := by rw [hu]; rfl
  have hports : u.ports = s.ports := by rw [hu]; rfl
  have hlater : (∀ o, s.lau.series.getLast? = some o → o.time ≤ s.clock.time) → u.laterSecond = true := fun ho => by
    rw [State.laterSecond_iff, hlau, hu]
    exact fun o h => Nat.lt_succ_of_le (ho o h)
  refine ⟨fun ht => ?_, fun ht => ?_⟩
  · have hexec := exec_stationSecond s x ht hu
    refine ⟨fun ha ho => ?_, fun a ha hp => ?_, fun ha ho hle hh hc => ?_, fun ha ho hle hw => ?_⟩
    · exact event_ends hexec (u.release_rests (hlau ▸ ha) (.inl (hlau ▸ ho))) hports (.of_eq rfl)
    · exact event_ends hexec (u.release_flies (hlau ▸ ha) (.inl hp)) hports (.of_eq rfl)
    · have hrel := u.release_starts (hlau ▸ ha) (hlau ▸ ho) (State.sameSecond_of_later (hlater hle))
      rw [u.startAcquisition_powered (hlau ▸ hh) (hlau ▸ hc), hlau] at hrel
      exact event_ends hexec hrel hports (.of_eq rfl)
    · have hrel := u.release_starts (hlau ▸ ha) (hlau ▸ ho) (State.sameSecond_of_later (hlater hle))
      rw [hrel] at hexec
      exact ⟨_, hexec, (u.startAcquisition_observed (hlater hle) (hlau ▸ hw)).same (State.settle_sameBlocks _)⟩
  · have hstep : (s.sample x).stationSecond = s.sample x := if_neg (show ¬ s.clock.time < 4294967295 by omega)
    exact event_ends (i := .stationSecond x) rfl hstep rfl (.of_eq rfl)

/-! ### Readings (R5) -/

/-- The event of an acquisition's next readings takes them. -/
theorem exec_readings (s : State) (x : Encoders) (r : Readings) {a : Acquisition} (ha : s.lau.acq = some a) {i : Instr}
    (hi : i = if a.phase = .warming then .warmUpExpiry r x else .burstReading r x) (hp : a.phase ≠ .completing) :
    exec i s = .next ((s.sample x).takeReadings a r).settle := by
  have hacq : (s.sample x).lau.acq = some a := ha
  by_cases hw : a.phase = .warming
  · rw [hi, if_pos hw]
    have hstep : (s.sample x).warmUpExpiry r = (s.sample x).takeReadings a r := by
      simp only [State.warmUpExpiry, hacq, hw, if_true]
    rw [← hstep]
    rfl
  · rw [hi, if_neg hw]
    have hb : a.phase = .burst := by
      revert hw hp
      cases a.phase <;> simp
    have hstep : (s.sample x).burstReading r = (s.sample x).takeReadings a r := by
      simp only [State.burstReading, hacq, hb, if_true]
    rw [← hstep]
    rfl

/-- Settles O40: by the readings taken and the burst over. -/
theorem readingsAreTaken : Obligations.ReadingsAreTaken := by
  intro s x r a ha b hb e he i hi hp
  have hread : a.read r = b := by
    obtain ⟨la, lb, lc⟩ := r
    rw [hb]
    cases la <;> cases lb <;> cases lc <;> rfl
  have htaken : b.taken = a.taken + 1 := by rw [hb]
  have hburst : b.burst = a.burst := by rw [hb]
  have hexec := exec_readings s x r ha hi hp
  refine ⟨fun hmore => ?_, fun hover hs => ?_⟩
  · have hstep : (s.sample x).takeReadings a r =
        ((s.sample x).advanceTo a.nextReading).withLau { s.lau with acq := some b } := by
      simp only [State.takeReadings, hread, hburst, htaken]
      rw [if_neg (by omega)]
      rfl
    refine event_ends hexec hstep rfl ?_
    rw [he]
    exact .of_eq rfl
  · have hstep : (s.sample x).takeReadings a r =
        ((s.sample x).advanceTo a.nextReading).withLau (s.lau.burstOver b) := by
      simp only [State.takeReadings, hread, hburst, htaken]
      rw [if_pos hover]
      exact State.burstComplete_waits _ b hs
    refine event_ends hexec hstep rfl ?_
    rw [he]
    exact .of_eq rfl

/-! ### Observations formed (R15, R34) -/

/-- What an observation formed from an acquisition leaves beside it: the excitation, and the hold, entered where it was PENDING. -/
theorem State.publish_leaves (u : State) (l : Lau) (f : Found) (hh : l.hold = u.lau.hold) :
    ((u.withLau l).publish f).lau.excitation = l.excitation ∧
      (u.lau.hold.state ≠ .pending → ((u.withLau l).publish f).lau.hold = u.lau.hold) ∧
      (u.lau.hold.state = .pending → ((u.withLau l).publish f).lau.hold =
        { u.lau.hold with state := .held, timer := some (u.elapsed + 100 * u.lau.hold.limit), manual := none, count := 0 }) := by
  have hp := (u.withLau l).publish_published f
  generalize (u.withLau l).publish f = t at hp ⊢
  have hhold := hp.hold
  rw [show (u.withLau l).lau.hold = u.lau.hold from hh, show (u.withLau l).elapsed = u.elapsed from rfl] at hhold
  refine ⟨by rw [hp.lau]; rfl, fun h => ?_, fun h => ?_⟩
  · rw [hhold, if_neg h]
  · rw [hhold, if_pos h]

/-- The last reading of a burst, in a later second than the newest observation's, publishes what the acquisition found. -/
theorem exec_burst_forms (s : State) (x : Encoders) (r : Readings) {a : Acquisition} (ha : s.lau.acq = some a)
    (hp : a.phase = .burst) (hover : a.burst ≤ a.taken + 1) (hl : s.laterSecond = true) {u : State}
    (hu : u = { s.sample x with elapsed := max s.elapsed (a.start + 100 * a.warmUp + 25 * a.taken) }) :
    exec (.burstReading r x) s =
      .next ((u.withLau ((s.lau.burstOver (a.read r)).judge (a.read r)).1).publish (s.lau.judge (a.read r)).2).settle := by
  rw [exec_readings s x r (i := .burstReading r x) ha (by rw [hp]; rfl) (by rw [hp]; decide)]
  have hstep : (s.sample x).takeReadings a r = u.burstComplete (a.read r) := by
    rw [hu]
    exact if_pos hover
  have hlater : u.laterSecond = true := by
    rw [hu]
    exact hl
  have hlau : u.lau = s.lau := by
    rw [hu]
    rfl
  rw [hstep, State.burstComplete_later u _ hlater, hlau]
  rfl

/-- The station second that a waiting acquisition waited for publishes what it found. -/
theorem exec_second_forms (s : State) (x : Encoders) {a : Acquisition} (ha : s.lau.acq = some a) (hp : a.phase = .completing)
    (ht : s.clock.time < 4294967295) (hle : ∀ o, s.lau.series.getLast? = some o → o.time ≤ s.clock.time) {u : State}
    (hu : u = { s.sample x with
      elapsed := max s.elapsed (s.clock.phase + 100).toNat
      clock := { s.clock with time := s.clock.time + 1, phase := s.clock.phase + 100 } }) :
    exec (.stationSecond x) s = .next ((u.withLau (s.lau.judge a).1).publish (s.lau.judge a).2).settle := by
  have hlau : u.lau = s.lau := by
    rw [hu]
    rfl
  have hacq : u.lau.acq = some a := by rw [hlau, ha]
  have hlater : u.laterSecond = true := by
    rw [State.laterSecond_iff, hlau, hu]
    exact fun o h => Nat.lt_succ_of_le (hle o h)
  rw [exec_stationSecond s x ht hu, u.release_forms hacq hp hlater, State.form, hlau]

/-- Settles O41: by the last reading of a burst, and by the second that a waiting acquisition waited for. -/
theorem observationsAreFormed : Obligations.ObservationsAreFormed := by
  refine ⟨fun s x r a ha hp hover hl e he j hj => ?_, fun s x a ha hp ht hle j hj e he => ?_⟩
  · generalize hu : ({ s.sample x with elapsed := e } : State) = u
    have hexec := exec_burst_forms s x r ha hp hover hl (u := u) (by rw [← hu, he])
    have hformed := u.publish_formed ((s.lau.burstOver (a.read r)).judge (a.read r)).1 (s.lau.judge (a.read r)).2
      (by rw [← hu]; rfl)
    obtain ⟨hex, hkept, hentered⟩ := u.publish_leaves ((s.lau.burstOver (a.read r)).judge (a.read r)).1
      (s.lau.judge (a.read r)).2 (by rw [← hu]; rfl)
    have hlau : u.lau = s.lau := by rw [← hu]; rfl
    have hue : u.elapsed = e := by rw [← hu]
    rw [hlau] at hkept hentered
    rw [hue] at hentered
    generalize (u.withLau ((s.lau.burstOver (a.read r)).judge (a.read r)).1).publish (s.lau.judge (a.read r)).2 = w
      at hexec hformed hex hkept hentered
    subst hj
    exact ⟨_, hexec, hex, hkept, hentered, hformed.same (State.settle_sameBlocks _)⟩
  · generalize hu : ({ s.sample x with
      elapsed := e, clock := { s.clock with time := s.clock.time + 1, phase := s.clock.phase + 100 } } : State) = u
    have hexec := exec_second_forms s x ha hp ht hle (u := u) (by rw [← hu, he])
    have hformed := u.publish_formed (s.lau.judge a).1 (s.lau.judge a).2 (by rw [← hu]; rfl)
    obtain ⟨hex, hkept, hentered⟩ := u.publish_leaves (s.lau.judge a).1 (s.lau.judge a).2 (by rw [← hu]; rfl)
    have hlau : u.lau = s.lau := by rw [← hu]; rfl
    have hue : u.elapsed = e := by rw [← hu]
    rw [hlau] at hkept hentered
    rw [hue] at hentered
    generalize (u.withLau (s.lau.judge a).1).publish (s.lau.judge a).2 = w at hexec hformed hex hkept hentered
    subst hj
    exact ⟨_, hexec, hex, hkept, hentered, hformed.same (State.settle_sameBlocks _)⟩

end Sys2Proof.Machine
end

section
/-! SUPPORT. Requests whose answer follows a start, a record or both: ACQUIRE_NOW, MANUAL_READING, SET_TIME and the service hold (R4, R15,
R20 to R25, R28 to R30, R32 to R38), and the end of the start-up sequence (R172, R196). -/

namespace Sys2Proof.Machine

/-! ### Answers after what carries the request over -/

section Carried

variable {h u v t : State} {p : Port} {code : Nat} {tag : Byte} {w st : Bool} {a : Payload}

theorem Ports.answer_readyOn (ps : Ports) (p : Port) (r : Result) (a : Payload) (o : Owed) (hs : ps.slot p = some o)
    (hn : o.answered = false) :
    (ps.answer p r a).ReadyOn { code := o.code, tag := o.tag, result := r, payload := a, answers := true } p := by
  cases p with
  | L => exact Ports.answer_l ps r a o hs hn
  | T =>
    show _ ∈ (ps.answer .T r a).t.ready
    rw [Ports.answer_t ps r a o hs hn]
    simp
  | F =>
    show _ ∈ (ps.answer .F r a).f.ready
    rw [Ports.answer_f ps r a o hs hn]
    simp

theorem Ports.Has.answers {o : Owed} {r : Response} (k : v.ports.Has p o (some r)) : Answers v.settle r p := by
  have hready := k.ready r rfl
  cases p with
  | L => exact hready
  | T => exact answers_settle v .T hready
  | F => exact answers_settle v .F hready

/-- A request taken is answered after an observation has been published. -/
theorem Taken.answer_carried (k : Taken h u p code tag) (c : Carries u v) (r : Result) (a : Payload) :
    Answered (v.answer p r a).settle p code tag r a := by
  obtain ⟨id, hid⟩ := k.slot
  have hcarried := c.has p _ none (.inl rfl) ⟨hid, fun r hr => by simp at hr⟩
  exact answered_settle v p _ r a hcarried.slot rfl

/-- A command answered after what its owner's effect carries over. -/
theorem Accepted.answers_carried {i : Instr} {s : State} {q : Request} (acc : Accepted i s p tag q code h) {r : Result}
    (ho : (h.occupy p (BitVec.ofNat 8 code) tag).toOwner p q = v.answer p r a)
    (hu : u.ports = (h.occupy p (BitVec.ofNat 8 code) tag).ports) (c : Carries u v) :
    ∃ t, exec i s = .next t ∧ Answered t p code tag r a ∧ SameBlocks v t :=
  ⟨_, by rw [acc.exec_eq, ho], (taken_of_ports hu).answer_carried c r a, answer_sameBlocks v p r a⟩

/-- A request deferred stands owed after an observation has been published. -/
theorem Deferred.owes_carried {r : Bool} (k : Deferred h u p code tag w r st a) (c : Carries u v) :
    Owes v.settle p code tag w r a := by
  obtain ⟨id, hid⟩ := k.slot
  have hcarried := c.has p _ none (.inl rfl) ⟨hid, fun r hr => by simp at hr⟩
  exact owes_settle hcarried.slot rfl rfl

/-- A request whose record has entered the queue keeps its answer while an observation is published. -/
theorem Deferred.answered_carried (k : Deferred h u p code tag false true st a) (e : v.ports = u.ports.entered (u.ownerOf p))
    (c : Carries v t) : Answered t.settle p code tag .ok a := by
  obtain ⟨id, hid⟩ := k.slot
  generalize ho : ({ Owed.new id (BitVec.ofNat 8 code) tag with
    waitWrite := false, waitRecord := false, strict := st, payload := a } : Owed) = o
  have hent : v.ports = (u.ports.setSlot p (some o)).answer p .ok a := by
    subst ho
    rw [e]
    simp [State.ownerOf, Ports.owedId, hid, Ports.entered, Ports.report, Owed.new, Ports.resolve, Owed.complete, Owed.result,
      Owed.resultPayload]
  have hans : o.answered = false := by rw [← ho]; rfl
  have hset : (u.ports.setSlot p (some o)).slot p = some o := by simp
  have hcode : BitVec.ofNat 8 code = o.code := by rw [← ho]; rfl
  have htag : tag = o.tag := by rw [← ho]; rfl
  have hhas : v.ports.Has p { o with answered := true }
      (some { code := BitVec.ofNat 8 code, tag := tag, result := .ok, payload := a, answers := true }) := by
    refine ⟨by rw [hent]; exact Ports.slot_answer_same _ p .ok a o hset hans, fun r hr => ?_⟩
    obtain rfl := Option.some.inj hr
    rw [hent, hcode, htag]
    exact Ports.answer_readyOn _ p .ok a o hset hans
  have hcarried := c.has p _ _ (.inr rfl) hhas
  exact ⟨hcarried.answers, _, (State.settle_slot t p).trans hcarried.slot, rfl⟩

end Carried

/-! ### MANUAL_READING (R38) -/

theorem stageOk_iff (v : Int) : stageOk v = true ↔ -2000 ≤ v ∧ v ≤ 20000 := by simp [stageOk, stageMin, stageMax]

/-- The level acquisition unit with a manual reading taken (R38). -/
def Lau.manualTaken (l : Lau) (v : Int) : Lau :=
  { l with hold := { l.hold with manual := some v, count := min 65535 (l.hold.count + 1) } }

/-- What a manual reading finds. -/
def manualFound (v : Int) : Found := { stage := some v, source := some .manual, range := false, manual := true, events := [] }

/-- An accepted reading asks for a start. -/
theorem State.manualReading_accepted (s : State) (p : Port) {v : Int} (hs : s.lau.hold.state = .held) (hlo : -2000 ≤ v)
    (hhi : v ≤ 20000) : s.manualReading p v = (s.withLau (s.lau.manualTaken v)).requestStart.reply p .ok := by
  have hcount : heldCount s.lau.hold.count = min 65535 (s.lau.hold.count + 1) := by
    simp only [heldCount, max16]
    split <;> omega
  simp [State.manualReading, hs, (stageOk_iff v).2 ⟨hlo, hhi⟩, hcount, Lau.manualTaken]

/-- The start of a held acquisition publishes the reading. -/
theorem State.startAcquisition_manual (s : State) (v : Int) (hs : s.lau.hold.state = .held) :
    (s.withLau (s.lau.manualTaken v)).startAcquisition =
      (s.withLau { s.lau.manualTaken v with lastStart := some s.elapsed, startOwed := false }).publish (manualFound v) :=
  if_pos (show s.lau.hold.state = .held from hs)

/-- Settles O38: by the checks, and then by the start that the reading asks for. -/
theorem aManualReadingGivesItsObservation : Obligations.AManualReadingGivesItsObservation := by
  intro s tag x v ht h hh
  have acc : Accepted (.manualReading .F tag (some v) x) s .F tag (.manualReading (some v)) 17 h :=
    ⟨rfl, hh.symm, rfl, ht, rfl⟩
  clear hh
  refine ⟨fun hs => acc.replies (if_pos hs), fun hs hv => ?_, fun hs hlo hhi l hl _ => ⟨fun hsame => ?_, fun hsame ha => ?_⟩⟩
  · have hop : ∀ b : State, b.lau = h.lau → b.manualReading .F v = b.reply .F .range := fun b hb => by
      have hbad : stageOk v = false := by
        rw [← Bool.not_eq_true, stageOk_iff]
        omega
      simp [State.manualReading, hb, hs, hbad]
    exact acc.replies (hop (h.occupy .F 17 tag) rfl)
  all_goals
    have ho := (h.occupy .F 17 tag).manualReading_accepted .F hs hlo hhi
    have htaken : (h.occupy .F 17 tag).lau.manualTaken v = l := by
      rw [hl]
      rfl
    generalize hb : h.occupy .F 17 tag = b at ho htaken
  · rw [(b.withLau _).requestStart_owes (.inr (by rw [← hb]; exact hsame)), htaken] at ho
    subst hb
    exact acc.answers ho rfl (.of_ports rfl)
  · rw [(b.withLau _).requestStart_starts (by rw [← hb]; exact ha) (by rw [← hb]; exact hsame)] at ho
    have hheld : b.lau.hold.state = .held := by
      rw [← hb]
      exact hs
    have hstart := b.startAcquisition_manual v hheld
    have hcarries := (b.withLau (b.lau.manualTaken v)).startAcquisition_carries
    rw [htaken] at hstart hcarries ho
    have hp := (b.withLau { l with lastStart := some b.elapsed, startOwed := false }).publish_published (manualFound v)
    have hf := b.publish_formed { l with lastStart := some b.elapsed, startOwed := false } (manualFound v)
      (by rw [← htaken]; rfl)
    have hhold : (b.withLau { l with lastStart := some b.elapsed, startOwed := false }).lau.hold.state ≠ .pending := fun e => by
      rw [← htaken] at e
      exact absurd (hheld.symm.trans e) (by decide)
    rw [← hstart] at hp hf
    generalize (b.withLau l).startAcquisition = w at hcarries hp hf ho
    subst hb
    obtain ⟨t, hexec, hans, hblocks⟩ := acc.answers_carried ho (u := (h.occupy .F 17 tag).withLau l) rfl hcarries
    refine ⟨t, hexec, hans, ?_, ?_, hf.same hblocks⟩
    · rw [hblocks.2.2.2.1, hp.hold, if_neg hhold]
      rfl
    · rw [hblocks.2.2.2.1, hp.lau]
      rfl

/-! ### SET_TIME (R29, R30) -/

theorem Recorded.withLau {s t : State} {r : Record} (h : Recorded s t r) (l : Lau) :
    Recorded { s with lau := l } { t with lau := l } r := by
  obtain ⟨⟨h1, h2, h3, -, h5, h6, h7, h8, h9, h10, h11, h12, h13⟩, hq⟩ := h
  exact ⟨⟨h1, h2, h3, rfl, h5, h6, h7, h8, h9, h10, h11, h12, h13⟩, hq⟩

/-- Settles O36: by the record of the new time, and by what the new time then releases. -/
theorem setTimeSetsTheClock : Obligations.SetTimeSetsTheClock := by
  intro s p tag x time ht h hh
  have acc : Accepted (.setTime p tag (some time) x) s p tag (.setTime (some time)) 32 h := ⟨rfl, hh.symm, rfl, ht, rfl⟩
  clear hh
  refine ⟨fun hlow => acc.replies (if_pos hlow), fun hfloor hroom u hu b hb => ?_⟩
  generalize hd : (({ h.occupy p 32 tag with
    clock := { time := time, quality := .set, floor := h.clock.floor, phase := h.elapsed } } : State).defer p false true false
      .empty) = d
  have hdef : Deferred h d p 32 tag false true false .empty := by
    subst hd
    exact ((taken_occupy h p 32 tag).defer false true false .empty).of_ports rfl
  have hsame : SameBlocks u d := by
    subst hd hu
    exact .of_ports rfl
  have hdroom : d.archive.hasRoom = true := by
    subst hd
    exact hroom
  generalize hv : d.hand b (d.ownerOf p) = v
  have ho : (h.occupy p 32 tag).toOwner p (.setTime (some time)) = v.release := by
    rw [← hv, hb, ← hd]
    exact if_neg (show ¬ time < h.clock.floor by omega)
  obtain ⟨hrec, hports⟩ := d.hand_recorded b (d.ownerOf p) hdroom
  rw [hv] at hrec hports
  replace hrec := hrec.of_same hsame
  have hexec : exec (.setTime p tag (some time) x) s = .next v.release.settle := by
    rw [acc.exec_eq]
    exact congrArg (fun y : State => Host.Outcome.next y.settle) ho
  have hlau : v.lau = h.lau := by rw [hrec.1.2.2.2.1, hu]
  have helapsed : v.elapsed = h.elapsed := by rw [hrec.1.1, hu]
  have htime : v.clock.time = time := by rw [hrec.1.2.2.1, hu]
  have hcarried := hdef.answered_carried hports v.release_carries
  refine ⟨fun hrest => ?_, fun a ha hp hlt j hj => ?_, fun ha howed hne hh hc => ?_, fun ha howed hlt hw => ?_⟩
  · have hrel : v.release = v := by
      rcases hrest with ⟨ha, ho⟩ | ⟨a, ha, hp⟩ | ⟨ha, o, ho, hle⟩ | ⟨ha, o, ho, heq⟩
      · exact v.release_rests (hlau ▸ ha) (.inl (hlau ▸ ho))
      · exact v.release_flies (hlau ▸ ha) (.inl hp)
      · obtain ⟨a, ha⟩ := Option.isSome_iff_exists.1 ha
        refine v.release_flies (hlau ▸ ha) (.inr ?_)
        rw [← Bool.not_eq_true, State.laterSecond_iff, hlau, htime]
        exact fun hl => absurd (hl o ho) (by omega)
      · refine v.release_rests (hlau ▸ ha) (.inr ?_)
        rw [← Bool.not_eq_false, State.sameSecond_false_iff, hlau, htime]
        exact fun hl => hl o ho heq.symm
    rw [hrel] at hexec
    obtain ⟨hans, hsp⟩ := hdef.answered hports
    exact ⟨_, hexec, hans, hsp, hrec.same (State.settle_sameBlocks v)⟩
  · have hlater : v.laterSecond = true := by
      rw [State.laterSecond_iff, hlau, htime]
      exact hlt
    have hacq : v.lau.acq = some a := by rw [hlau, ha]
    have hrel : v.release = (v.withLau (v.lau.judge a).1).publish (v.lau.judge a).2 := by
      rw [v.release_forms hacq hp hlater, State.form]
    have hf := v.publish_formed (v.lau.judge a).1 (v.lau.judge a).2 rfl
    rw [← hrel, hlau, ← hj] at hf
    exact ⟨_, hexec, hcarried, v, hrec, hf.same (State.settle_sameBlocks _)⟩
  · have hsecond : v.sameSecond = false := by
      rw [State.sameSecond_false_iff, hlau, htime]
      exact hne
    have hrel := v.release_starts (hlau ▸ ha) (hlau ▸ howed) hsecond
    rw [v.startAcquisition_powered (hlau ▸ hh) (hlau ▸ hc), hlau, helapsed] at hrel
    rw [hrel] at hexec
    obtain ⟨hans, hsp⟩ := hdef.answered (v := v.withLau (h.lau.started h.elapsed)) hports
    exact ⟨_, hexec, hans, hsp, (hrec.withLau _).same (State.settle_sameBlocks _)⟩
  · have hlater : v.laterSecond = true := by
      rw [State.laterSecond_iff, hlau, htime]
      exact hlt
    have hrel := v.release_starts (hlau ▸ ha) (hlau ▸ howed) (State.sameSecond_of_later hlater)
    rw [hrel] at hexec hcarried
    exact ⟨_, hexec, hcarried, v, hrec, (v.startAcquisition_observed hlater (hlau ▸ hw)).same (State.settle_sameBlocks _)⟩

/-! ### The service hold (R32 to R36) -/

/-- A command whose owner changes the level acquisition unit and gives a notice and a record of the hold, which its answer waits
for. -/
theorem Accepted.recordsHold {i : Instr} {s h : State} {p : Port} {tag : Byte} {r : Request} {code : Nat}
    (acc : Accepted i s p tag r code h) (l : Lau) (b : HoldBody)
    (ho : (h.occupy p (BitVec.ofNat 8 code) tag).toOwner p r =
      (({ (h.occupy p (BitVec.ofNat 8 code) tag).defer p false true false .empty with lau := l } : State).notice (.hold b)).hand
        (.hold b) (((h.occupy p (BitVec.ofNat 8 code) tag).defer p false true false .empty).ownerOf p))
    (hroom : h.hasRoom = true) :
    ∃ t, exec i s = .next t ∧ Answered t p code tag .ok .empty ∧ SamePorts h t p ∧
      Recorded { h.told (.hold b) with lau := l } t (.hold b) := by
  generalize hu : (h.occupy p (BitVec.ofNat 8 code) tag).defer p false true false .empty = u at ho
  have hdef : Deferred h u p code tag false true false .empty := by
    subst hu
    exact (taken_of_ports rfl).defer false true false .empty
  have huroom : ({ u with lau := l } : State).hasRoom = true := by
    subst hu
    exact hroom
  have harch := State.hasRoom_archive huroom
  rw [State.notice_told _ _ huroom] at ho
  have hsame : SameBlocks { h.told (.hold b) with lau := l } (({ u with lau := l } : State).told (.hold b)) := by
    subst hu
    exact .of_ports rfl
  obtain ⟨hans, hsp, hrec⟩ := (hdef.of_ports (v := ({ u with lau := l } : State).told (.hold b)) rfl).hand
    harch (.hold b) hsame
  refine ⟨_, ?_, hans, hsp, hrec⟩
  rw [acc.exec_eq, ho]
  rfl

/-- Settles O37: by the hold's state. -/
theorem holdsAreEnteredAndLeft : Obligations.HoldsAreEnteredAndLeft := by
  refine ⟨fun s tag ht h hh => ?_, fun s hs hroom e he b hb => ?_⟩
  · have enter : Accepted (.enterHold .F tag true) s .F tag (.enterHold true) 10 h := ⟨rfl, hh.symm, rfl, ht, rfl⟩
    have leave : Accepted (.leaveHold .F tag true) s .F tag (.leaveHold true) 15 h := ⟨rfl, hh.symm, rfl, ht, rfl⟩
    clear hh
    refine ⟨fun hs ha => ?_, fun hs ha hroom b hb => ?_, fun hs => ⟨?_, ?_⟩, fun hs => ?_, fun hs => ?_, fun hs hroom b hb => ?_⟩
    · have hop : ∀ u : State, u.lau = h.lau → u.enterHold .F =
          (u.withLau { h.lau with hold := { h.lau.hold with state := .pending } }).reply .F .ok := fun u hu => by
        simp [State.enterHold, hu, hs, ha]
      exact enter.answers (hop (h.occupy .F 10 tag) rfl) rfl (.of_ports rfl)
    · refine enter.recordsHold _ b ?_ hroom
      have hop : ∀ u : State, u.lau = h.lau → u.enterHold .F =
          (u.defer .F false true false .empty).enterHeld .request ((u.defer .F false true false .empty).ownerOf .F) :=
        fun u hu => by simp [State.enterHold, hu, hs, ha]
      rw [hb]
      exact hop (h.occupy .F 10 tag) rfl
    · have hop : ∀ u : State, u.lau = h.lau → u.enterHold .F = u.reply .F .ok := fun u hu => by
        simp [State.enterHold, hu, hs]
      obtain ⟨t, h1, h2, h3, h4⟩ := enter.replies (hop (h.occupy .F 10 tag) rfl)
      exact ⟨t, h1, h2, h4, h3⟩
    · have hop : ∀ u : State, u.lau = h.lau → u.leaveHold .F =
          (u.withLau { h.lau with hold := { h.lau.hold with state := .none } }).reply .F .ok := fun u hu => by
        simp [State.leaveHold, hu, hs]
      exact leave.answers (hop (h.occupy .F 15 tag) rfl) rfl (.of_ports rfl)
    · have hop : ∀ u : State, u.lau = h.lau → u.enterHold .F =
          (u.withLau { h.lau with hold := { h.lau.hold with timer := some (after u.elapsed h.lau.hold.limit) } }).reply .F .ok :=
        fun u hu => by simp [State.enterHold, hu, hs]
      exact enter.answers (hop (h.occupy .F 10 tag) rfl) rfl (.of_ports rfl)
    · have hop : ∀ u : State, u.lau = h.lau → u.leaveHold .F = u.reply .F .notHeld := fun u hu => by
        simp [State.leaveHold, hu, hs]
      obtain ⟨t, h1, h2, h3, h4⟩ := leave.replies (hop (h.occupy .F 15 tag) rfl)
      exact ⟨t, h1, h2, h4, h3⟩
    · refine leave.recordsHold _ b ?_ hroom
      have hop : ∀ u : State, u.lau = h.lau → u.leaveHold .F =
          (u.defer .F false true false .empty).leaveHeld .request ((u.defer .F false true false .empty).ownerOf .F) :=
        fun u hu => by simp [State.leaveHold, hu, hs]
      rw [hb]
      exact hop (h.occupy .F 15 tag) rfl
  · generalize hu : ({ s with
      elapsed := max s.elapsed e
      lau := { s.lau with hold := { s.lau.hold with state := .none, timer := none, manual := none } } } : State) = u
    have hexpiry : s.holdExpiry = (u.notice (.hold b)).hand (.hold b) .nobody := by
      rw [← hu, hb]
      simp only [State.holdExpiry, hs, he]
      rfl
    have huroom : u.hasRoom = true := by
      subst hu
      exact hroom
    have harch := State.hasRoom_archive huroom
    rw [State.notice_told _ _ huroom] at hexpiry
    obtain ⟨hrec, hports⟩ := (u.told (.hold b)).hand_recorded (.hold b) .nobody harch
    rw [← hexpiry] at hrec hports
    refine ⟨_, rfl, fun q => ?_, (hrec.same (State.settle_sameBlocks _)).of_same (.of_eq (by rw [← hu]; rfl))⟩
    rw [State.settle_slot, hports, ← hu]
    rfl

end Sys2Proof.Machine
end

section
/-! SUPPORT. The start that a change of the interval in force asks for, and the requests that change it: SET_ACQUISITION and SET_THRESHOLD
(R3, R4, R21 to R23, R79 to R81, R88, R90, R91). Then ACQUIRE_NOW, the due point and the end of the start-up sequence (R20 to R24, R172,
R196). -/

namespace Sys2Proof.Machine

/-! ### A change of the interval in force (R23) -/

theorem State.overdue_iff (s : State) :
    s.overdue = true ↔ ∃ l, s.lau.lastStart = some l ∧ l + 100 * s.interval ≤ s.elapsed := by
  unfold State.overdue State.duePoint
  cases s.lau.lastStart with
  | none => simp
  | some l => simp [after]

/-- A request deferred for its write, after which the schedule is looked at again: what its command leaves. -/
theorem Deferred.rechecks {h v s : State} {i : Instr} {p : Port} {code former : Nat} {tag : Byte} {st : Bool} {a : Payload}
    (k : Deferred h v p code tag true false st a) (hexec : exec i s = .next (v.recheck former).settle) :
    (¬ (v.interval ≠ former ∧ v.overdue = true) →
      ∃ t, exec i s = .next t ∧ Owes t p code tag true false a ∧ SamePorts h t p ∧ SameBlocks v t) ∧
    (v.interval ≠ former ∧ v.overdue = true →
      (v.lau.acq.isSome = true ∨ v.sameSecond = true →
        ∃ t, exec i s = .next t ∧ Owes t p code tag true false a ∧ SamePorts h t p ∧
          SameBlocks (v.withLau { v.lau with startOwed := true }) t) ∧
      (v.lau.acq = none → v.sameSecond = false → v.lau.hold.state ≠ .held →
        (∃ c : Channel, (v.lau.channels.get c).enabled = true) →
        ∃ t, exec i s = .next t ∧ Owes t p code tag true false a ∧ SamePorts h t p ∧
          SameBlocks (v.withLau (v.lau.started v.elapsed)) t) ∧
      (v.lau.acq = none → v.laterSecond = true → v.lau.startsWithoutSensors = true →
        ∃ t, exec i s = .next t ∧ Owes t p code tag true false a ∧ ObservedWithoutSensors v t)) := by
  have hcond : (decide (v.interval ≠ former) && v.overdue) = true ↔ v.interval ≠ former ∧ v.overdue = true := by simp
  have rest : ∀ u : State, v.recheck former = u → u.ports = v.ports →
      ∃ t, exec i s = .next t ∧ Owes t p code tag true false a ∧ SamePorts h t p ∧ SameBlocks u t := fun u hu hp => by
    obtain ⟨howes, hsame⟩ := (k.of_ports hp).owes
    exact ⟨_, by rw [hexec, hu], howes, hsame, State.settle_sameBlocks u⟩
  refine ⟨fun hno => rest v (if_neg (hcond.not.2 hno)) rfl, fun hyes => ?_⟩
  have hreq : v.recheck former = v.requestStart := if_pos (hcond.2 hyes)
  refine ⟨fun hw => ?_, fun ha hs hh hc => ?_, fun ha hl hw => ?_⟩
  · exact rest _ (hreq.trans (v.requestStart_owes hw)) rfl
  · exact rest _ (hreq.trans ((v.requestStart_starts ha hs).trans (v.startAcquisition_powered hh hc))) rfl
  · have hstart := hreq.trans (v.requestStart_starts ha (State.sameSecond_of_later hl))
    rw [hstart] at hexec
    exact ⟨_, hexec, k.owes_carried v.startAcquisition_carries,
      (v.startAcquisition_observed hl hw).same (State.settle_sameBlocks _)⟩

/-! ### SET_ACQUISITION (R3) -/

theorem Stored.same {s t u : State} {p : Port} {d : WriteData} (h : Stored s t p d) (k : SameBlocks t u) : Stored s u p d := by
  obtain ⟨hb, hq⟩ := h
  have hstore : u.store = t.store := k.2.2.2.2.2.2.2.2.2.1
  rw [← hstore] at hb
  refine ⟨hb.trans k, ?_⟩
  unfold WriteQueued at *
  rwa [hstore]

theorem Stored.withLau {s t : State} {p : Port} {d : WriteData} (h : Stored s t p d) (l : Lau) :
    Stored { s with lau := l } (t.withLau l) p d := by
  obtain ⟨⟨h1, h2, h3, -, h5, h6, h7, h8, h9, h10, h11, h12, h13⟩, hq⟩ := h
  exact ⟨⟨h1, h2, h3, rfl, h5, h6, h7, h8, h9, h10, h11, h12, h13⟩, hq⟩

theorem State.write_stored (u : State) (p : Port) (d : WriteData) : Stored u (u.write p d) p d :=
  ⟨.of_eq rfl, by simp [State.write], rfl⟩

theorem acquisitionValid_iff (f : AcqSettings) :
    acquisitionValid f = true ↔
      f.warmUp ≤ 10 ∧ 3 ≤ f.burst ∧ f.burst ≤ 15 ∧ f.burst % 2 = 1 ∧ 300 ≤ f.window ∧ f.window ≤ 3600 ∧ 5 ≤ f.tolerance ∧
        f.tolerance ≤ 500 ∧ 15 ≤ f.alarm ∧ f.alarm ≤ f.warn ∧ f.warn ≤ f.watch ∧ f.watch ≤ f.clear ∧ f.clear ≤ 3600 := by
  simp only [acquisitionValid, Bool.and_eq_true, within_iff, decide_eq_true_eq]
  omega

/-- Settles O27: by the record's write and the schedule looked at again. -/
theorem setAcquisitionReplacesTheRecord : Obligations.SetAcquisitionReplacesTheRecord := by
  intro s p tag x f ht h hh
  have acc : Accepted (.setAcquisition p tag (some f) x) s p tag (.setAcquisition (some f)) 26 h := ⟨rfl, hh.symm, rfl, ht, rfl⟩
  clear hh
  refine ⟨fun hvalid => ?_, fun hbad => acc.replies (if_neg ?_)⟩
  · generalize hd : ((h.occupy p 26 tag).withLau { h.lau with settings := f }).defer p true false false .empty = d
    have hdef : Deferred h (d.write p (.acquisition f)) p 26 tag true false false .empty := by
      subst hd
      exact ((taken_occupy h p 26 tag).defer true false false .empty).of_ports rfl
    have hsame : SameBlocks { h with lau := { h.lau with settings := f } } d := by
      subst hd
      exact .of_ports rfl
    have hstored := (d.write_stored p (.acquisition f)).of_same hsame
    have hexec : exec (.setAcquisition p tag (some f) x) s =
        .next ((d.write p (.acquisition f)).recheck (intervalAt h.lau.settings h.warning.level)).settle := by
      have ho : (h.occupy p 26 tag).toOwner p (.setAcquisition (some f)) =
          (d.write p (.acquisition f)).recheck (intervalAt h.lau.settings h.warning.level) := by
        rw [← hd]
        exact if_pos ((acquisitionValid_iff f).2 hvalid)
      rw [acc.exec_eq]
      exact congrArg (fun y : State => Host.Outcome.next y.settle) ho
    generalize d.write p (.acquisition f) = v at hdef hstored hexec
    obtain ⟨hrests, hasks⟩ := hdef.rechecks hexec
    have hblocks := hstored.1
    have helapsed : v.elapsed = h.elapsed := hblocks.1
    have hlau : v.lau = { h.lau with settings := f } := hblocks.2.2.2.1
    have hinterval : v.interval = intervalAt f h.warning.level := by
      rw [State.interval, hlau, show v.warning = h.warning from hblocks.2.2.2.2.2.1]
    have hsecond : v.sameSecond = h.sameSecond := by
      rw [State.sameSecond, State.sameSecond, hlau, show v.clock = h.clock from hblocks.2.2.1]
    have hlater : v.laterSecond = h.laterSecond := by
      rw [State.laterSecond, State.laterSecond, hlau, show v.clock = h.clock from hblocks.2.2.1]
    refine ⟨fun hsoon => ?_, fun hne l hl hdue => ?_⟩
    · obtain ⟨t, h1, h2, h3, h4⟩ := hrests fun ⟨hne, hover⟩ => by
        obtain ⟨l, hl, hle⟩ := v.overdue_iff.1 hover
        rw [hinterval] at hne hle
        rw [helapsed] at hle
        rw [hlau] at hl
        exact hsoon.elim hne fun hlt => absurd (hlt l hl) (not_lt.2 hle)
      exact ⟨t, h1, h2, h3, hstored.same h4⟩
    · obtain ⟨howes, hstarts, hobserves⟩ := hasks ⟨by rw [hinterval]; exact hne, v.overdue_iff.2 ⟨l, by rw [hlau]; exact hl,
        by rw [hinterval, helapsed]; exact hdue⟩⟩
      rw [hsecond, hlau] at howes hstarts
      rw [helapsed] at hstarts
      rw [hlater, hlau] at hobserves
      refine ⟨fun hw => ?_, fun ha hs hh hc => ?_, fun ha hl hw => ?_⟩
      · obtain ⟨t, h1, h2, h3, h4⟩ := howes hw
        exact ⟨t, h1, h2, h3, (hstored.withLau _).same h4⟩
      · obtain ⟨t, h1, h2, h3, h4⟩ := hstarts ha hs hh hc
        exact ⟨t, h1, h2, h3, (hstored.withLau _).same h4⟩
      · obtain ⟨t, h1, h2, h3⟩ := hobserves ha hl hw
        exact ⟨t, h1, h2, v, hstored, h3⟩
  · rw [acquisitionValid_iff]
    omega

end Sys2Proof.Machine
end

section
/-! SUPPORT. SET_THRESHOLD: the record replaced, the level that the records then give, and the start it asks for (R23, R79 to R81, R88,
R90, R91). -/

namespace Sys2Proof.Machine

/-! ### The threshold record (R79, R80) -/

theorem thresholdPlace_eq (n : Fin 8) : thresholdPlace (n.val + 1) = some n := by
  simp [thresholdPlace, Nat.succ_le_of_lt n.isLt]

theorem readThresholdRecord_none (f : ThresholdFields)
    (h : f.number = 0 ∨ 8 < f.number ∨ f.enabled = none ∨ f.quantity = none ∨ f.severity = none) : readThresholdRecord f = none := by
  have hplace : f.number = 0 ∨ 8 < f.number → thresholdPlace f.number = none := fun hn => by
    rw [thresholdPlace, dif_neg (by omega)]
  unfold readThresholdRecord
  split
  · rename_i n e q v hn he hq hv
    exfalso
    rcases h with h | h | h | h | h
    · exact absurd (hn.symm.trans (hplace (.inl h))) (by simp)
    · exact absurd (hn.symm.trans (hplace (.inr h))) (by simp)
    · exact absurd (he.symm.trans h) (by simp)
    · exact absurd (hq.symm.trans h) (by simp)
    · exact absurd (hv.symm.trans h) (by simp)
  · rfl

theorem thresholdValid_iff (t : ThresholdSettings) {low high : Int}
    (hlow : low = (match t.quantity with | .stage => -2000 | .rise => -30000 | .flow => 0))
    (hhigh : high = (match t.quantity with | .stage => 20000 | .rise => 30000 | .flow => 40000000)) :
    thresholdValid t = true ↔
      low ≤ t.level ∧ t.level ≤ high ∧ 0 ≤ t.margin ∧ low ≤ t.level - t.margin ∧ 1 ≤ t.persistence ∧ t.persistence ≤ 10 := by
  have hrange : quantityRange t.quantity = (low, high) := by
    subst hlow hhigh
    cases t.quantity <;> rfl
  simp only [thresholdValid, hrange, Bool.and_eq_true, within_iff, decide_eq_true_eq, ThresholdSettings.clearLevel]
  omega

/-! ### A level lowered (R88) -/

/-- The warning unit after a lower level is taken. -/
theorem Warning.changed_lower (w : Warning) (new : Level) (time now : Nat) (h : levelRank new < levelRank w.level) :
    w.changed new time now =
      if new = .clear then
        { w with
          level := .clear, owed := false, firstTime := none, deadline := .stopped, relay := (w.changed new time now).relay }
      else { w with level := new, relay := (w.changed new time now).relay } := by
  obtain ⟨hclear, hother⟩ := Warning.changed_down (w := w) time now h
  have hframe := w.changed_frame new time now
  split
  · rename_i hnew
    obtain ⟨h1, h2, h3⟩ := hclear hnew
    rw [h1, h2, h3] at hframe
    rw [← hnew]
    exact hframe
  · rename_i hnew
    obtain ⟨h1, h2, h3⟩ := hother hnew
    rw [h1, h2, h3] at hframe
    exact hframe

theorem levelHigher_lower {a b : Level} (h : levelRank a < levelRank b) : levelHigher a b = b := by
  rw [levelHigher_eq, if_neg (by omega)]

theorem StoredAndRecorded.same {s t u : State} {p : Port} {d : WriteData} {r : Record} (h : StoredAndRecorded s t p d r)
    (k : SameBlocks t u) : StoredAndRecorded s u p d r := by
  obtain ⟨hb, hw, hr⟩ := h
  have hstore : u.store = t.store := k.2.2.2.2.2.2.2.2.2.1
  have harchive : u.archive = t.archive := k.2.2.2.2.2.2.2.2.1
  have hclock : u.clock = t.clock := k.2.2.1
  rw [← hstore, ← harchive] at hb
  refine ⟨hb.trans k, ?_, ?_⟩
  · unfold WriteQueued at *
    rwa [hstore]
  · unfold RecordQueued at *
    rwa [harchive, hclock]

theorem StoredAndRecorded.withLau {s t : State} {p : Port} {d : WriteData} {r : Record} (h : StoredAndRecorded s t p d r) (l : Lau) :
    StoredAndRecorded { s with lau := l } (t.withLau l) p d r := by
  obtain ⟨⟨h1, h2, h3, -, h5, h6, h7, h8, h9, h10, h11, h12, h13⟩, hw, hq⟩ := h
  exact ⟨⟨h1, h2, h3, rfl, h5, h6, h7, h8, h9, h10, h11, h12, h13⟩, hw, hq⟩

/-! ### SET_THRESHOLD -/

section Threshold

variable {h : State} {p : Port} {tag : Byte} {n : Fin 8} {r : ThresholdSettings} {w : Warning}

/-- The request's slot deferred and its write handed, the threshold record replaced. -/
def State.thresholdWritten (s : State) (p : Port) (n : Fin 8) (r : ThresholdSettings) (changes : Bool) : State :=
  (({ s with warning := s.warning.setThreshold n r } : State).defer p true changes true .empty).write p (.threshold n r)

theorem State.setThreshold_valid (s : State) (p : Port) (f : ThresholdFields) (hread : readThresholdRecord f = some (n, r))
    (hv : thresholdValid r = true) (hw : w = s.warning.setThreshold n r) :
    s.setThreshold p f =
      ((s.thresholdWritten p n r (decide (w.formed ≠ w.level))).changeLevel w.formed (.setThreshold (n.val + 1) p)
        ((s.thresholdWritten p n r (decide (w.formed ≠ w.level))).ownerOf p)).recheck s.interval := by
  subst hw
  simp only [State.setThreshold, hread, hv, Bool.not_true, Bool.false_eq_true, if_false]
  rfl

/-- The level stays: the write alone. -/
theorem State.thresholdWritten_stored (hw : w = h.warning.setThreshold n r) (b : Bool) :
    Stored { h with warning := w } ((h.occupy p 31 tag).thresholdWritten p n r b) p (.threshold n r) := by
  subst hw
  exact (State.write_stored (({ h.occupy p 31 tag with warning := h.warning.setThreshold n r } : State).defer p true b true .empty) p
    (.threshold n r)).of_same (.of_ports rfl)

theorem State.thresholdWritten_deferred (b : Bool) :
    Deferred h ((h.occupy p 31 tag).thresholdWritten p n r b) p 31 tag true b true .empty :=
  ((taken_occupy h p 31 tag).defer true b true .empty).of_ports rfl

/-- The state that a lower level leaves before the schedule is looked at again. -/
theorem State.thresholdWritten_lowered {v : State} {cause : LevelCause} (hw : w = h.warning.setThreshold n r)
    (hlow : levelRank w.formed < levelRank h.warning.level) (hroom : h.hasRoom = true)
    (hrun : ∀ run, h.cable.run = some run → levelBars run.kind w.formed = false)
    (hv : v = ((h.occupy p 31 tag).thresholdWritten p n r true).changeLevel w.formed cause
      (((h.occupy p 31 tag).thresholdWritten p n r true).ownerOf p)) :
    Deferred h v p 31 tag true false true .empty ∧ v.warning = w.changed w.formed h.clock.time h.elapsed ∧
      StoredAndRecorded
        { h.told (.level w.formed h.warning.level h.warning.level) with
          warning := w.changed w.formed h.clock.time h.elapsed }
        v p (.threshold n r) (.level ((w.changed w.formed h.clock.time h.elapsed).body (.changed h.warning.level cause))) := by
  have hlevel : w.level = h.warning.level := by rw [hw]; rfl
  generalize hc : w.changed w.formed h.clock.time h.elapsed = c
  generalize hd : ({ h.occupy p 31 tag with warning := c } : State).defer p true true true .empty = d
  have hdroom : (d.write p (.threshold n r)).hasRoom = true := by
    subst hd
    exact hroom
  have harch := State.hasRoom_archive hdroom
  have hv' : v = ((d.write p (.threshold n r)).told (.level w.formed h.warning.level h.warning.level)).levelRecord
      (.changed h.warning.level cause) (d.ownerOf p) := by
    have hne : w.formed ≠ h.warning.level := fun e => by simp [e] at hlow
    have hchange := State.changeLevel_eq ((h.occupy p 31 tag).thresholdWritten p n r true) w.formed cause
      (((h.occupy p 31 tag).thresholdWritten p n r true).ownerOf p) hne hrun
    have hhigher : levelHigher w.formed
        ((h.occupy p 31 tag).thresholdWritten p n r true).warning.level = h.warning.level := levelHigher_lower hlow
    rw [hhigher] at hchange
    rw [hv, hchange, ← State.notice_told _ _ hdroom, ← hd, ← hc, hw]
    rfl
  obtain ⟨hrec, hports⟩ := ((d.write p (.threshold n r)).told (.level w.formed h.warning.level h.warning.level)).levelRecord_recorded
    (.changed h.warning.level cause) (d.ownerOf p) harch
  rw [← hv'] at hrec hports
  have hwarning := hrec.warning_eq
  have hdc : (d.write p (.threshold n r)).warning = c := by subst hd; rfl
  have hdef : Deferred h d p 31 tag true true true .empty := by
    subst hd
    exact ((taken_occupy h p 31 tag).defer true true true .empty).of_ports rfl
  refine ⟨hdef.entered hports, hwarning.trans hdc, ?_⟩
  have hstored := Recorded.stored (s := d.told (.level w.formed h.warning.level h.warning.level)) hrec
  have hbody : ((d.write p (.threshold n r)).told (.level w.formed h.warning.level h.warning.level)).warning = c := hdc
  rw [hbody] at hstored
  exact hstored.of_same (by subst hd; exact .of_ports rfl)

end Threshold

/-- Settles O28: by the record's checks, and then by the level that the records give. -/
theorem setThresholdReplacesTheRecord : Obligations.SetThresholdReplacesTheRecord := by
  intro s p tag x f ht h hh
  have acc : Accepted (.setThreshold p tag (some f) x) s p tag (.setThreshold (some f)) 31 h := ⟨rfl, hh.symm, rfl, ht, rfl⟩
  clear hh
  refine ⟨fun hbad => acc.replies ?_, fun n hn e he q hq v hv low hlow high hhigh => ⟨fun hbad => acc.replies ?_, ?_⟩⟩
  · show State.setThreshold _ p f = _
    simp only [State.setThreshold, readThresholdRecord_none f hbad]
    rfl
  all_goals
    have hread : readThresholdRecord f = some (n,
        { enabled := e, quantity := q, level := f.level, margin := f.margin, persistence := f.persistence, severity := v }) := by
      simp only [readThresholdRecord, hn, thresholdPlace_eq, he, hq, hv]
  · have hvalid := (thresholdValid_iff
      { enabled := e, quantity := q, level := f.level, margin := f.margin, persistence := f.persistence, severity := v } hlow hhigh)
    have hnot : thresholdValid
        { enabled := e, quantity := q, level := f.level, margin := f.margin, persistence := f.persistence, severity := v } = false := by
      rw [← Bool.not_eq_true, hvalid]
      dsimp only
      omega
    show State.setThreshold _ p f = _
    simp only [State.setThreshold, hread, hnot, Bool.not_false, if_true]
    rfl
  · intro hrange r hr w hw
    rw [← hr] at hread
    have hvalid : thresholdValid r = true := by
      rw [hr]
      exact (thresholdValid_iff _ hlow hhigh).2 hrange
    have ho := (h.occupy p 31 tag).setThreshold_valid p f hread hvalid hw
    have hlevel : w.level = h.warning.level := by rw [hw]
    rw [hlevel] at ho
    have hexec : ∀ u : State, (h.occupy p 31 tag).setThreshold p f = u →
        exec (.setThreshold p tag (some f) x) s = .next u.settle := fun u hu => by
      rw [acc.exec_eq]
      exact congrArg (fun y : State => Host.Outcome.next y.settle) hu
    refine ⟨fun hsame => ?_, fun hlower hroom hrun changed hchanged asks hasks => ?_⟩
    · rw [decide_eq_false (not_not.2 hsame), hsame] at ho
      have hstored := State.thresholdWritten_stored (h := h) (p := p) (tag := tag) hw false
      have hdef := State.thresholdWritten_deferred (h := h) (p := p) (tag := tag) (n := n) (r := r) false
      have hstay := State.changeLevel_same ((h.occupy p 31 tag).thresholdWritten p n r false) (.setThreshold (n.val + 1) p)
        (((h.occupy p 31 tag).thresholdWritten p n r false).ownerOf p)
      have hquiet : ((h.occupy p 31 tag).thresholdWritten p n r false).interval = (h.occupy p 31 tag).interval := rfl
      have hlv : ((h.occupy p 31 tag).thresholdWritten p n r false).warning.level = h.warning.level := rfl
      rw [hlv] at hstay
      rw [hstay] at ho
      generalize (h.occupy p 31 tag).thresholdWritten p n r false = u at ho hstored hdef hquiet
      obtain ⟨t, h1, h2, h3, h4⟩ := (hdef.rechecks (hexec _ ho)).1 fun hno => hno.1 hquiet
      exact ⟨t, h1, h2, h3, hstored.same h4⟩
    · have hbars : ∀ run, h.cable.run = some run → levelBars run.kind w.formed = false := fun run hr => by
        rw [← Bool.not_eq_true, levelBars_iff]
        obtain ⟨halarm, hwarn⟩ := hrun run hr
        exact fun hb => hb.elim halarm fun ⟨hk, hl⟩ => hwarn hk hl
      have hne : w.formed ≠ h.warning.level := fun e => by simp [e] at hlower
      rw [decide_eq_true hne, ← hn] at ho
      generalize hu : ((h.occupy p 31 tag).thresholdWritten p n r true).changeLevel w.formed (.setThreshold f.number p)
        (((h.occupy p 31 tag).thresholdWritten p n r true).ownerOf p) = u at ho
      obtain ⟨hdef, hwarning, hstored⟩ := State.thresholdWritten_lowered hw hlower hroom hbars hu.symm
      obtain ⟨hrests, hstarts⟩ := hdef.rechecks (hexec _ ho)
      have hblocks := hstored.1
      have helapsed : u.elapsed = h.elapsed := hblocks.1
      have hlau : u.lau = h.lau := hblocks.2.2.2.1
      have hclock : u.clock = h.clock := hblocks.2.2.1
      have hinterval : u.interval = intervalAt h.lau.settings w.formed := by
        rw [State.interval, hlau, hwarning, Warning.changed_level]
      have hformer : (h.occupy p 31 tag).interval = intervalAt h.lau.settings h.warning.level := rfl
      have hask : u.interval ≠ (h.occupy p 31 tag).interval ∧ u.overdue = true ↔ asks := by
        rw [hasks, State.overdue_iff, hinterval, hformer, hlau, helapsed]
      have hsecond : u.sameSecond = h.sameSecond := by rw [State.sameSecond, State.sameSecond, hlau, hclock]
      have hlater : u.laterSecond = h.laterSecond := by rw [State.laterSecond, State.laterSecond, hlau, hclock]
      have hdone : ∀ (l : Lau) (t : State), SameBlocks (u.withLau l) t → changed t l := fun l t hb => by
        have hw' : t.warning = w.changed w.formed h.clock.time h.elapsed := hb.2.2.2.2.2.1.trans hwarning
        have hlow' : levelRank w.formed < levelRank w.level := hlevel ▸ hlower
        rw [hchanged]
        refine ⟨?_, ?_⟩
        · rw [hw', Warning.changed_relay_eq _ _ (hlevel ▸ hne)]
        · have hall := (hstored.withLau l).same hb
          rw [hw', ← w.changed_lower w.formed h.clock.time h.elapsed hlow']
          exact hall
      rw [hask] at hrests
      refine ⟨fun hno => ?_, fun hyes hw => ?_, fun hyes ha hs hh hc => ?_, fun hyes ha hl hw => ?_⟩
      · obtain ⟨t, h1, h2, h3, h4⟩ := hrests hno
        exact ⟨t, h1, h2, h3, hdone h.lau t (hlau ▸ h4)⟩
      all_goals
        obtain ⟨howes, hpowers, hobserves⟩ := hstarts (hask.2 hyes)
        rw [hsecond, hlau] at howes hpowers
        rw [helapsed] at hpowers
        rw [hlater, hlau] at hobserves
      · obtain ⟨t, h1, h2, h3, h4⟩ := howes hw
        exact ⟨t, h1, h2, h3, hdone _ t h4⟩
      · obtain ⟨t, h1, h2, h3, h4⟩ := hpowers ha hs hh hc
        exact ⟨t, h1, h2, h3, hdone _ t h4⟩
      · obtain ⟨t, h1, h2, h3⟩ := hobserves ha hl hw
        exact ⟨t, h1, h2, u, hdone h.lau u (hlau ▸ SameBlocks.of_eq rfl), h3⟩

end Sys2Proof.Machine
end

section
/-! SUPPORT. ACQUIRE_NOW, the due point and the end of the start-up sequence (R4, R20 to R24, R172, R196). -/

namespace Sys2Proof.Machine

/-! ### The archive's first operation (R172) -/

theorem Archive.takeNext_frame (a : Archive) (n : Nat) (e : Int) : a.takeNext n e = { a with op := (a.takeNext n e).op } := by
  unfold Archive.takeNext
  split
  · rfl
  · split <;> rfl

/-- What the archive's first operation leaves of its queue and of what decides whether a record finds room. -/
theorem Archive.beginFirst_frame (a : Archive) (e : Int) :
    (a.beginFirst e).firstOp = .nothing ∧ (a.beginFirst e).state = a.state ∧ (a.beginFirst e).waiting = a.waiting ∧
      (a.beginFirst e).queue.map QueuedRecord.content = a.queue.map QueuedRecord.content := by
  unfold Archive.beginFirst
  simp only
  split
  · exact ⟨rfl, rfl, rfl, rfl⟩
  · split
    · obtain ⟨-, hstate, hwaiting, hfirst, -, -, -, -, -, -, -, hqueue⟩ :=
        Archive.begin_frame ({ a with firstOp := .nothing } : Archive)
      exact ⟨hfirst, hstate, hwaiting, hqueue⟩
    · rw [Archive.takeNext_frame]
      exact ⟨rfl, rfl, rfl, rfl⟩
    all_goals exact ⟨rfl, rfl, rfl, rfl⟩

theorem Archive.beginFirst_queue (a : Archive) (e : Int) :
    (a.beginFirst e).queue.map (fun q => (q.record, q.time)) = a.queue.map (fun q => (q.record, q.time)) := by
  have h := congrArg (List.map (fun c : Record × Nat × Owner => (c.1, c.2.1))) (a.beginFirst_frame e).2.2.2
  rw [List.map_map, List.map_map] at h
  exact h

theorem Archive.beginFirst_hasRoom (a : Archive) (e : Int) : (a.beginFirst e).hasRoom = a.hasRoom := by
  obtain ⟨-, hstate, hwaiting, -⟩ := a.beginFirst_frame e
  have hlen := congrArg List.length (a.beginFirst_queue e)
  simp only [List.length_map] at hlen
  rw [Archive.hasRoom, Archive.hasRoom, hstate, hwaiting, hlen]

/-- Of the archive an observation formed is told by the queue's records and the room alone. -/
theorem ObservedWithoutSensors.of_archive {s t : State} {a : Archive} (h : ObservedWithoutSensors { s with archive := a } t)
    (hroom : a.hasRoom = s.archive.hasRoom)
    (hq : a.queue.map (fun q => (q.record, q.time)) = s.archive.queue.map (fun q => (q.record, q.time))) :
    ObservedWithoutSensors s t := by
  have hlen := congrArg List.length hq
  simp only [List.length_map] at hlen
  simp only [ObservedWithoutSensors, ObservationFormed, AppendEffects, AcknowledgementFollows, State.interval, hroom, hq, hlen]
    at h ⊢
  exact h

/-! ### Starts asked for (R4, R21, R24) -/

/-- Settles O39: by what stands in the way of the start, and by whether it powers the sensors. -/
theorem acquisitionsStart : Obligations.AcquisitionsStart := by
  refine ⟨fun s p tag x ht h hh => ?_, fun s x l hl e he => ?_, fun s hs hlater hw => ?_, fun s hs hheld hc => ?_⟩
  · have acc : Accepted (.acquireNow p tag true x) s p tag (.acquireNow true) 4 h := ⟨rfl, hh.symm, rfl, ht, rfl⟩
    clear hh
    have hop : h.lau.acq = none → h.lau.startOwed = false →
        (h.occupy p 4 tag).acquireNow p = (h.occupy p 4 tag).requestStart.reply p .ok := fun ha ho =>
      congrArg (State.reply · p .ok) (if_neg (show ¬ (h.lau.acq.isSome || h.lau.startOwed) = true by simp [ha, ho]))
    refine ⟨fun hb => ?_, fun ha ho hs => ?_, fun ha ho hs hheld hc => ?_, fun ha ho hl hw => ?_⟩
    · have hmerged : ∀ b : State, b.lau = h.lau → b.acquireNow p = b.reply p .ok := fun b hl => by
        rw [State.acquireNow, if_pos (by rw [hl]; simpa using hb)]
      exact acc.replies (hmerged (h.occupy p 4 tag) rfl)
    · have hreq := hop ha ho
      rw [(h.occupy p 4 tag).requestStart_owes (.inr hs)] at hreq
      exact acc.answers hreq rfl (.of_ports rfl)
    · have hreq := hop ha ho
      rw [(h.occupy p 4 tag).requestStart_starts ha hs, (h.occupy p 4 tag).startAcquisition_powered hheld hc] at hreq
      exact acc.answers hreq rfl (.of_ports rfl)
    · have hreq := hop ha ho
      rw [(h.occupy p 4 tag).requestStart_starts ha (State.sameSecond_of_later hl)] at hreq
      have hobs := (h.occupy p 4 tag).startAcquisition_observed hl hw
      obtain ⟨t, hexec, hans, hblocks⟩ :=
        acc.answers_carried hreq (u := h.occupy p 4 tag) rfl (h.occupy p 4 tag).startAcquisition_carries
      exact ⟨t, hexec, hans, hobs.same hblocks⟩
  · generalize hu : ({ s.sample x with elapsed := e } : State) = u
    have hlau : u.lau = s.lau := by rw [← hu]; rfl
    have hports : u.ports = s.ports := by rw [← hu]; rfl
    have hsecond : u.sameSecond = s.sameSecond := by rw [← hu]; rfl
    have hlater : u.laterSecond = s.laterSecond := by rw [← hu]; rfl
    have hstep : (s.sample x).dueReached = u.requestStart := by
      have hdue : (s.sample x).duePoint = some (l + 100 * s.interval) := by
        rw [State.duePoint, show (s.sample x).lau.lastStart = some l from hl]
        rfl
      rw [State.dueReached, hdue, ← hu, he]
      rfl
    have hexec : exec (.duePointReached x) s = .next (s.sample x).dueReached.settle := rfl
    refine ⟨fun ha hl' hw => ?_, fun hb => ?_, fun ha hs hheld hc => ?_⟩
    · rw [hstep, u.requestStart_starts (hlau ▸ ha) (State.sameSecond_of_later (hlater.trans hl'))] at hexec
      exact ⟨_, hexec, (u.startAcquisition_observed (hlater.trans hl') (hlau ▸ hw)).same (State.settle_sameBlocks _)⟩
    · have hreq := hstep.trans (u.requestStart_owes (by rw [hlau, hsecond]; exact hb))
      exact event_ends hexec hreq hports (.of_eq (by rw [← hu]; rfl))
    · have hreq := hstep.trans ((u.requestStart_starts (hlau ▸ ha) (hsecond.trans hs)).trans
        (u.startAcquisition_powered (hlau ▸ hheld) (hlau ▸ hc)))
      exact event_ends hexec hreq hports (.of_eq (by rw [← hu]; rfl))
  all_goals
    generalize hu : ({ s with startingUp := false, archive := s.archive.beginFirst s.rating.elevation } : State) = u
    have hstep : s.startUpEnd = u.startAcquisition := by
      rw [← hu]
      exact if_pos hs
    have hexec : exec .startUpSequenceEnd s = .next s.startUpEnd.settle := rfl
    obtain ⟨hfirst, -⟩ := s.archive.beginFirst_frame s.rating.elevation
  · rw [hstep] at hexec
    refine ⟨_, hexec, ?_, ?_⟩
    · have hkept : u.startAcquisition.archive.firstOp = u.archive.firstOp := u.startAcquisition_carries.firstOp
      show u.startAcquisition.archive.firstOp = _
      rw [hkept, ← hu]
      exact hfirst
    · have hobs := u.startAcquisition_observed (by rw [← hu]; exact hlater) (by rw [← hu]; exact hw)
      generalize u.startAcquisition = w at hobs ⊢
      rw [← hu] at hobs
      exact (ObservedWithoutSensors.of_archive (s := { s with startingUp := false }) hobs
        (s.archive.beginFirst_hasRoom _) (s.archive.beginFirst_queue _)).same (State.settle_sameBlocks _)
  · have hpowered := hstep.trans (u.startAcquisition_powered (by rw [← hu]; exact hheld) (by rw [← hu]; exact hc))
    have hlau : u.lau = s.lau := by rw [← hu]
    have helapsed : u.elapsed = s.elapsed := by rw [← hu]
    rw [hlau, helapsed] at hpowered
    rw [hpowered] at hexec
    have harchive : (u.withLau (s.lau.started s.elapsed)).settle.archive = s.archive.beginFirst s.rating.elevation := by
      rw [← hu]
      rfl
    refine ⟨_, hexec, fun q => ?_, ?_, ?_, fun hf => ?_⟩
    · rw [State.settle_slot, ← hu]
      rfl
    · rw [harchive]
      exact SameBlocks.trans (.of_eq (by rw [← hu]; rfl)) (State.settle_sameBlocks _)
    · rw [harchive]
      exact hfirst
    · rw [harchive]
      have hbegun : ∀ n, s.archive.firstOp = .takeNext n → s.archive.beginFirst s.rating.elevation =
          Archive.takeNext { s.archive with firstOp := .nothing } n s.rating.elevation := fun n hn => by
        simp only [Archive.beginFirst, hf, hn, Bool.false_eq_true, if_false]
      refine ⟨fun n hn => ?_, fun n hn => ?_, fun n hn => ?_, fun n hn k hk => ?_⟩
      · simp only [Archive.beginFirst, hf, hn, Bool.false_eq_true, if_false]
      · simp only [Archive.beginFirst, hf, hn, Bool.false_eq_true, if_false]
      · simp only [Archive.beginFirst, hf, hn, Bool.false_eq_true, if_false]
      rw [hbegun n hn]
      have hk' : Archive.nextInRing { s.archive with firstOp := .nothing } n = some k := hk
      refine ⟨fun hst => ?_, fun hst => ?_⟩
      · simp only [Archive.takeNext, hk', hst]
      · simp only [Archive.takeNext, hk', hst]

end Sys2Proof.Machine
end

section
/-! SUPPORT. The record formed at a run's end: the panels of its section, the entries of its verticals and the observations of its height
(R136 to R145). -/

namespace Sys2Proof.Machine

/-! ### The panels (R137, R138) -/

def velocityAt (l : List VerticalResult) (i : Nat) : Nat := ((l[i]?).bind (·.velocity)).getD 0

def depthAt (l : List VerticalResult) (i : Nat) : Nat := ((l[i]?).bind (·.depth)).getD 0

def distanceAt (l : List VerticalResult) (i : Nat) : Nat := ((l[i]?).map (·.distance)).getD 0

/-- The distance of the entry before the `i`-th, that of the entry before the list given; the first of all stands for its own. -/
def distanceBefore (before : Option Nat) (l : List VerticalResult) (i : Nat) : Nat :=
  if i = 0 then before.getD (distanceAt l 0) else distanceAt l (i - 1)

theorem panelSum_eq (before : Option Nat) (l : List VerticalResult) :
    panelSum before l =
      ((List.range l.length).map (fun i =>
        velocityAt l i * depthAt l i * (distanceAt l (min (i + 1) (l.length - 1)) - distanceBefore before l i))).sum := by
  induction l generalizing before with
  | nil => rfl
  | cons r l ih =>
    cases l with
    | nil =>
      cases before <;> simp [panelSum, velocityAt, depthAt, distanceAt, distanceBefore]
    | cons q l =>
      rw [panelSum, ih (some r.distance), List.length_cons (a := r), List.range_succ_eq_map, List.map_cons, List.sum_cons,
        List.map_map]
      refine congrArg₂ (· + ·) ?_ (congrArg List.sum (List.map_congr_left fun i _ => ?_))
      · cases before <;> simp [velocityAt, depthAt, distanceAt, distanceBefore]
      · have hlast : min (i + 1 + 1) (l.length + 1) = min (i + 1) l.length + 1 := by omega
        have hprev : distanceBefore before (r :: q :: l) (i + 1) = distanceBefore (some r.distance) (q :: l) i := by
          cases i <;> simp [distanceAt, distanceBefore]
        simp only [Function.comp_apply, Nat.succ_eq_add_one, hprev, List.length_cons, Nat.add_sub_cancel, hlast]
        simp [velocityAt, depthAt, distanceAt]

theorem distanceBefore_none (l : List VerticalResult) (i : Nat) : distanceBefore none l i = distanceAt l (i - 1) := by
  unfold distanceBefore
  split
  · rename_i h
    rw [h]
    rfl
  · rfl

/-! ### The entries of a COMPLETE run (R145) -/

theorem take_one_filter {α : Type} (p : α → Bool) (l : List α) : (l.filter p).take 1 = (l.find? p).toList := by
  rw [List.take_one, List.head?_filter]

theorem fullResults_edge (results : List VerticalResult) (k : Nat) (v : PlanVertical) (l : List PlanVertical) {d : Nat}
    (h : v.kind = .edge d) :
    fullResults results k (v :: l) =
      { index := k + 1, distance := v.distance, method := .edge, depth := some d, velocity := some 0, exposure := 0
        counts := [], flags := VerticalFlags.none } :: fullResults results (k + 1) l := by
  simp only [fullResults, h]

theorem fullResults_measured (results : List VerticalResult) (k : Nat) (v : PlanVertical) (l : List PlanVertical)
    (h : v.kind.isMeasured = true) :
    fullResults results k (v :: l) =
      (results.find? (fun r => r.index = k + 1)).toList ++ fullResults results (k + 1) l := by
  rw [← take_one_filter]
  cases hk : v.kind with
  | edge d =>
    rw [hk] at h
    exact absurd h (by simp [VerticalKind.isMeasured])
  | onePoint t => simp only [fullResults, hk]
  | twoPoint t => simp only [fullResults, hk]

theorem VerticalKind.edge_or_measured (k : VerticalKind) : (∃ d, k = .edge d) ∨ k.isMeasured = true := by
  cases k with
  | edge d => exact .inl ⟨d, rfl⟩
  | onePoint t => exact .inr rfl
  | twoPoint t => exact .inr rfl

/-- The entries of the verticals behind the first stand behind its own. -/
theorem mem_fullResults_cons {results : List VerticalResult} {k : Nat} (v : PlanVertical) {l : List PlanVertical} {r : VerticalResult}
    (h : r ∈ fullResults results (k + 1) l) : r ∈ fullResults results k (v :: l) := by
  rcases v.kind.edge_or_measured with ⟨d, hd⟩ | hm
  · rw [fullResults_edge results k v l hd]
    exact List.mem_cons_of_mem _ h
  · rw [fullResults_measured results k v l hm]
    exact List.mem_append_right _ h

theorem edge_mem_fullResults (results : List VerticalResult) (l : List PlanVertical) (k i : Nat) {v : PlanVertical} {d : Nat}
    (hv : l[i]? = some v) (h : v.kind = .edge d) :
    { index := k + i + 1, distance := v.distance, method := .edge, depth := some d, velocity := some 0, exposure := 0
      counts := [], flags := VerticalFlags.none } ∈ fullResults results k l := by
  induction l generalizing k i with
  | nil => simp at hv
  | cons u l ih =>
    cases i with
    | zero =>
      obtain rfl : u = v := by simpa using hv
      rw [fullResults_edge results k u l h]
      exact List.mem_cons_self
    | succ i =>
      have hmem := ih (k + 1) i (by simpa using hv)
      rw [show k + 1 + i + 1 = k + (i + 1) + 1 by omega] at hmem
      exact mem_fullResults_cons u hmem

theorem measured_mem_fullResults (results : List VerticalResult) (l : List PlanVertical) (k i : Nat) {v : PlanVertical}
    {r : VerticalResult} (hv : l[i]? = some v) (h : v.kind.isMeasured = true)
    (hr : results.find? (fun r => r.index = k + i + 1) = some r) : r ∈ fullResults results k l := by
  induction l generalizing k i with
  | nil => simp at hv
  | cons u l ih =>
    cases i with
    | zero =>
      obtain rfl : u = v := by simpa using hv
      rw [fullResults_measured results k u l h]
      exact List.mem_append_left _ (by rw [hr]; simp)
    | succ i =>
      rw [show k + (i + 1) + 1 = k + 1 + i + 1 by omega] at hr
      exact mem_fullResults_cons u (ih (k + 1) i (by simpa using hv) hr)

theorem fullResults_index (results : List VerticalResult) (l : List PlanVertical) (k : Nat)
    (h : ∀ i v, l[i]? = some v → v.kind.isMeasured = true → ∃ r ∈ results, r.index = k + i + 1) :
    (fullResults results k l).map (·.index) = (List.range l.length).map (k + · + 1) := by
  induction l generalizing k with
  | nil => rfl
  | cons v l ih =>
    have hrest := ih (k + 1) fun i u hu hm => by
      obtain ⟨r, hr, hi⟩ := h (i + 1) u (by simpa using hu) hm
      exact ⟨r, hr, by omega⟩
    have hrange : (List.range (v :: l).length).map (k + · + 1) =
        (k + 1) :: (List.range l.length).map (k + 1 + · + 1) := by
      rw [List.length_cons, List.range_succ_eq_map, List.map_cons, List.map_map]
      congr 1
      exact List.map_congr_left fun i _ => by simp only [Function.comp_apply]; omega
    rw [hrange, ← hrest]
    rcases v.kind.edge_or_measured with ⟨d, hd⟩ | hm
    · rw [fullResults_edge results k v l hd]
      rfl
    · obtain ⟨r, hr, hi⟩ := h 0 v rfl hm
      obtain ⟨q, hq⟩ := Option.isSome_iff_exists.1
        (List.find?_isSome.2 ⟨r, hr, by simpa using hi⟩ : (results.find? (fun r => r.index = k + 1)).isSome = true)
      have hqi : q.index = k + 1 := by simpa using List.find?_some hq
      rw [fullResults_measured results k v l hm, hq]
      simp [hqi]

/-! ### The height (R139) -/

theorem foldl_stages (l : List Observation) (n : Int) :
    l.foldl (fun n o => n + o.stage.getD 0) n = n + (l.map (fun o => o.stage.getD 0)).sum := by
  induction l generalizing n with
  | nil => simp
  | cons o l ih => rw [List.foldl_cons, ih, List.map_cons, List.sum_cons, Int.add_assoc]

theorem heightWindow_stages (series : List Observation) (start last : Nat) :
    (heightWindow series start (some last)).map (fun o => o.stage.getD 0) =
      series.filterMap (fun o => if start ≤ o.time ∧ o.time ≤ last then o.stage else none) := by
  induction series with
  | nil => rfl
  | cons o l ih =>
    simp only [heightWindow] at ih ⊢
    rw [List.filter_cons, List.filterMap_cons]
    by_cases ht : start ≤ o.time ∧ o.time ≤ last
    · cases hs : o.stage with
      | none => simpa [ht, hs] using ih
      | some v => simpa [ht, hs] using ih
    · have hno : (decide (start ≤ o.time) && decide (o.time ≤ last) && o.stage.isSome) = false := by
        rw [← Bool.decide_and, decide_eq_false ht, Bool.false_and]
      rw [hno, if_neg ht]
      exact ih

theorem meanHeight_eq (l : List Observation) (stages : List Int) (h : l.map (fun o => o.stage.getD 0) = stages) :
    meanHeight l = if stages = [] then none else some (halfAway stages.sum stages.length) := by
  subst h
  cases l with
  | nil => rfl
  | cons o l =>
    rw [meanHeight, foldl_stages, Int.zero_add, List.length_map]
    rfl

theorem clamp_eq (lo hi v : Int) (h : lo ≤ hi) : clamp lo hi v = max lo (min hi v) := by
  unfold clamp
  split
  · omega
  · split <;> omega

/-! ### The record (R136 to R145) -/

/-- The entries of a record, the section's discharge, and the height. -/
theorem State.formRecord_results (s : State) (rr : RunRecord) (cause : EndCause) :
    (cause ≠ .complete → (s.formRecord rr cause).results = rr.results ∧ (s.formRecord rr cause).qMeas = none ∧
      (s.formRecord rr cause).flags.qSaturated = false) ∧
    (cause = .complete → (s.formRecord rr cause).results = fullResults rr.results 0 rr.plan.verticals ∧
      (s.formRecord rr cause).qMeas =
        some (min qMax (rawDischarge (sectionList (fullResults rr.results 0 rr.plan.verticals)))) ∧
      (s.formRecord rr cause).flags.qSaturated =
        decide (qMax < rawDischarge (sectionList (fullResults rr.results 0 rr.plan.verticals)))) := by
  refine ⟨fun h => ?_, fun h => ?_⟩
  · simp [State.formRecord, h]
  · simp [State.formRecord, h]

theorem State.formRecord_height (s : State) (rr : RunRecord) (cause : EndCause) :
    (s.formRecord rr cause).height = meanHeight (heightWindow s.lau.series rr.startTime rr.lastCompletion) := rfl

theorem State.formRecord_rated (s : State) (rr : RunRecord) (cause : EndCause) :
    ({ discharge := (s.formRecord rr cause).qRated, flags := (s.formRecord rr cause).ratedFlags
       ratingId := (s.formRecord rr cause).ratingId, shift := (s.formRecord rr cause).shift } : Rated) =
      match (s.formRecord rr cause).height with
      | some h => s.rating.rate h (s.formRecord rr cause).midTime
      | none => { discharge := none, flags := DischargeFlags.none, ratingId := none, shift := none } := rfl

theorem State.formRecord_percent (s : State) (rr : RunRecord) (cause : EndCause) :
    (s.formRecord rr cause).percent =
        (rawPercent (s.formRecord rr cause).qMeas (s.formRecord rr cause).qRated).map (fun v => min v 1000000) ∧
      (s.formRecord rr cause).flags.pctClamped =
        ((rawPercent (s.formRecord rr cause).qMeas (s.formRecord rr cause).qRated).map (fun v => decide (1000000 < v))).getD false :=
  ⟨rfl, rfl⟩

theorem State.formRecord_candidate (s : State) (rr : RunRecord) (cause : EndCause) :
    ∀ c, c = rawCandidate (inForce s.rating.versions (s.formRecord rr cause).midTime) (s.formRecord rr cause).qMeas
        (s.formRecord rr cause).height →
      (s.formRecord rr cause).candidate = c.map (clamp (-1000) 1000) ∧
        (s.formRecord rr cause).disposition = (if (s.formRecord rr cause).candidate.isSome then .pending else .none) ∧
        (s.formRecord rr cause).flags.shiftClamped = (c.map (fun v => decide (v < -1000 ∨ 1000 < v))).getD false := by
  rintro c rfl
  refine ⟨rfl, ?_, rfl⟩
  show (if _ then _ else _) = _
  simp only [State.formRecord, Option.isSome_map]

theorem rawPercent_eq_some_iff (m r : Option Nat) (v : Int) :
    rawPercent m r = some v ↔ ∃ a b, m = some a ∧ r = some b ∧ 0 < b ∧ halfAway (((a : Int) - b) * 1000) b = v := by
  cases m with
  | none => simp [rawPercent]
  | some a =>
    cases r with
    | none => simp [rawPercent]
    | some b => simp [rawPercent]

theorem rawCandidate_eq_some_iff (x : Option RatingVersion) (m : Option Nat) (h : Option Int) (v : Int) :
    rawCandidate x m h = some v ↔
      ∃ w q a e, x = some w ∧ m = some q ∧ h = some a ∧ inverse w.points q = some e ∧ e - a = v := by
  cases x with
  | none => simp [rawCandidate]
  | some w =>
    cases m with
    | none => simp [rawCandidate]
    | some q =>
      cases h with
      | none => simp [rawCandidate]
      | some a => simp [rawCandidate]

theorem getD_map_decide {α : Type} (o : Option α) (p : α → Prop) [DecidablePred p] :
    (o.map (fun v => decide (p v))).getD false = true ↔ ∃ v, o = some v ∧ p v := by
  cases o <;> simp

end Sys2Proof.Machine
end

section
/-! SUPPORT. The ends of runs: what each cause does, and the record formed at each (R91, R119, R122, R123, R125, R126, R128, R135 to
R146). -/

namespace Sys2Proof.Machine

/-! ### A run that an observation ends -/

theorem FloodEndsRun.same {s t u : State} {f : Found} {run : Run} {rr : RunRecord} (h : FloodEndsRun s t f run rr)
    (k : SameBlocks t u) : FloodEndsRun s u f run rr := by
  obtain ⟨-, -, -, h4, -, h6, h7, h8, h9, -, -, -, h13⟩ := k
  simp only [FloodEndsRun, h4, h6, h7, h8, h9, h13] at h ⊢
  exact h

/-- An observation that is published from another state of the level acquisition unit with the same series ends the run as well. -/
theorem State.publish_floods (u : State) (l : Lau) (f : Found) {run : Run} {rr : RunRecord} (hrun : u.cable.run = some run)
    (hrr : u.gauging.run = some rr) :
    ∀ t, t = (u.withLau l).publish f →
      (levelBars run.kind t.warning.level = true ∨ ∃ v, f.stage = some v ∧ stageLimit u.cable.settings run.kind < v) →
      FloodEndsRun u t f run rr := by
  rintro t ht hb
  have hp := (u.withLau l).publish_published f
  rw [← ht] at hp
  exact hp.floodEndsRun hrun hrr hb

theorem barring_iff (kind : HoldKind) (c : CablewaySettings) (level : Level) (f : Found) :
    (level = .alarm ∨ (kind = .unattended ∧ level = .warn) ∨
        ∃ h, f.stage = some h ∧ (match kind with | .unattended => c.unattendedLimit | .attended => c.attendedLimit) < h) ↔
      levelBars kind level = true ∨ ∃ v, f.stage = some v ∧ stageLimit c kind < v := by
  rw [levelBars_iff, or_assoc]
  cases kind <;> rfl

/-! ### The causes -/

theorem State.fault_runEnded (s : State) (cause : EndCause) (hrun : s.cable.run.isSome = true) (hrec : s.gauging.run.isSome = true)
    (hroom : s.hasRoom = true) :
    RunEnded s (s.fault cause) cause { s.cable.ended cause with state := .faulted } ∧ (s.fault cause).ports = s.ports := by
  obtain ⟨hend, hports⟩ := s.endRun_runEnded cause hrun hrec hroom
  obtain ⟨run, hr⟩ := Option.isSome_iff_exists.1 hrun
  have hfault : s.fault cause = { s.endRun cause with cable := { s.cable.ended cause with state := .faulted } } := by
    rw [← s.endRun_cable cause hr]
    rfl
  rw [hfault]
  exact ⟨hend.withCable _, hports⟩

/-- An event that ends a run. -/
theorem event_runEnded {i : Instr} {s b u : State} {cause : EndCause} {c : Cableway} (hexec : exec i s = .next u.settle)
    (h : RunEnded b u cause c ∧ u.ports = s.ports) :
    ∃ t, exec i s = .next t ∧ (∀ q, t.ports.slot q = s.ports.slot q) ∧ RunEnded b t cause c :=
  ⟨_, hexec, fun q => by rw [State.settle_slot, h.2], h.1.same (State.settle_sameBlocks u)⟩

/-! ### The record formed -/

theorem heightWindow_manual (series : List Observation) (start : Nat) (last : Option Nat) :
    (heightWindow series start last).any (fun o => o.source = some .manual) = true ↔
      ∃ n, last = some n ∧ ∃ o ∈ series, start ≤ o.time ∧ o.time ≤ n ∧ o.stage.isSome = true ∧ o.source = some .manual := by
  cases last with
  | none => simp [heightWindow]
  | some n => simp [heightWindow, and_assoc]

theorem seriesShort_iff (series : List Observation) (start : Option Nat) :
    seriesShort series start = true ↔
      ∃ n, start = some n ∧ (∃ o, series.getLast? = some o ∧ o.number ≠ n) ∧ ∀ o ∈ series, o.number ≠ (n + 1) % 4294967296 := by
  cases start with
  | none => simp [seriesShort]
  | some n =>
    cases hl : series.getLast? with
    | none => simp [seriesShort, hl]
    | some o => simp [seriesShort, hl]

theorem timeChanged_iff (start finish a b : Nat) :
    timeChanged start finish a b = true ↔
      finish < start ∨ 1 < (((finish : Int) - start) - ((b : Int) - a)).natAbs := by
  simp [timeChanged]

/-- Settles O53: by the parts of the formed record, the causes of a run's end, and the observations that end one. -/
theorem runsEndWithTheirCause : Obligations.RunsEndWithTheirCause := by
  refine ⟨?_, ?_, ?_, ?_, ?_⟩
  · rintro l v d b rfl rfl rfl
    rw [panelSum_eq]
    refine congrArg List.sum (List.map_congr_left fun i _ => ?_)
    rw [distanceBefore_none]
    rfl
  · rintro s rr cause g hg
    obtain ⟨hpart, hfull⟩ := s.formRecord_results rr cause
    obtain ⟨hpercent, hpct⟩ := s.formRecord_percent rr cause
    obtain ⟨hcand, hdisp, hclamped⟩ := s.formRecord_candidate rr cause _ rfl
    have hheight := s.formRecord_height rr cause
    have hrated := s.formRecord_rated rr cause
    rw [← hg] at hpart hfull hpercent hpct hcand hdisp hclamped hheight hrated
    refine ⟨by rw [hg]; rfl, by rw [hg]; rfl, by rw [hg]; rfl, by rw [hg]; rfl, by rw [hg]; rfl, by rw [hg]; rfl, by rw [hg]; rfl,
      by rw [hg]; rfl, fun hle => by rw [hg]; exact if_pos hle, fun hlt => by rw [hg]; exact if_neg (by omega), fun hc => ?_,
      fun hc => ?_, fun hl => ?_, fun last hl stages hs => ?_, fun hh => ?_, fun v hh => ?_, fun m r hm hr hpos => ?_, fun hno => ?_,
      fun v q e hv hq he => ?_, fun hno => ?_, hdisp, ?_, fun hc => (hpart hc).2.2, ?_, ?_, ?_, ?_, ?_, by rw [hg]; rfl⟩
    · obtain ⟨hres, hq, -⟩ := hpart hc
      exact ⟨hres, hq, by rw [hg]; simp [State.formRecord, hc]⟩
    · obtain ⟨hres, hq, hsat⟩ := hfull hc
      refine ⟨fun hall => ?_, fun i v hv depth hk => ?_, fun i v hv hm r hr => ?_, fun q hqv => ?_⟩
      · rw [hres, fullResults_index _ _ 0 (by simpa using hall)]
        simp
      · have hmem := edge_mem_fullResults rr.results rr.plan.verticals 0 i hv hk
        rw [Nat.zero_add] at hmem
        rw [hres]
        exact hmem
      · rw [hres]
        exact measured_mem_fullResults rr.results rr.plan.verticals 0 i hv hm (by rw [Nat.zero_add]; exact hr)
      · rw [hres] at hqv
        refine ⟨by rw [hq, hqv]; rfl, by rw [hsat, hqv]; rfl, by rw [hg]; simp [State.formRecord, hc]⟩
    · rw [hheight, hl]
      rfl
    · rw [hheight, hl]
      exact meanHeight_eq _ _ (by rw [heightWindow_stages, hs])
    · rw [hh] at hrated
      simp only [Rated.mk.injEq] at hrated
      obtain ⟨h1, h2, h3, h4⟩ := hrated
      refine ⟨h1, h2, h3, h4, ?_⟩
      rw [hcand, hh]
      simp [rawCandidate]
    · rw [hh] at hrated
      exact hrated
    · rw [hpercent, (rawPercent_eq_some_iff _ _ _).2 ⟨m, r, hm, hr, hpos, rfl⟩, Option.map_some, min_comm]
    · rw [hpercent, Option.map_eq_none_iff, Option.eq_none_iff_forall_ne_some]
      intro v hv
      obtain ⟨m, r, hm, hr, hpos, -⟩ := (rawPercent_eq_some_iff _ _ _).1 hv
      simp [hm, hr] at hno
      omega
    · rw [hcand, hv, hq, he]
      simp only [rawCandidate, Option.map_map]
      exact congrArg (Option.map · _) (funext fun a => clamp_eq _ _ _ (by decide))
    · rw [hcand, Option.map_eq_none_iff, Option.eq_none_iff_forall_ne_some]
      intro v hv
      obtain ⟨w, q, a, e, hw, hq, -⟩ := (rawCandidate_eq_some_iff _ _ _ _).1 hv
      simp [hw, hq] at hno
    · have hskip : g.flags.skippedVerticals = (decide (cause = .complete) && g.results.any (·.flags.skipped)) := by
        rw [hg]
        rfl
      rw [hskip]
      simp
    · have hman : g.flags.manualHeight =
          (heightWindow s.lau.series rr.startTime rr.lastCompletion).any (fun o => o.source = some .manual) := by
        rw [hg]
        rfl
      rw [hman]
      exact heightWindow_manual _ _ _
    · have hshort : g.flags.seriesShort = seriesShort s.lau.series rr.startObs := by
        rw [hg]
        rfl
      rw [hshort]
      exact seriesShort_iff _ _
    · have htime : g.flags.timeChanged = timeChanged rr.startTime s.clock.time rr.startElapsed (s.elapsed / 100) := by
        rw [hg]
        rfl
      rw [htime]
      exact timeChanged_iff _ _ _ _
    · rw [hpct, getD_map_decide]
      simp only [rawPercent_eq_some_iff]
      constructor
      · rintro ⟨v, ⟨m, r, hm, hr, hpos, hv⟩, hgt⟩
        exact ⟨m, r, hm, hr, hpos, hv ▸ hgt⟩
      · rintro ⟨m, r, hm, hr, hpos, hgt⟩
        exact ⟨_, ⟨m, r, hm, hr, hpos, rfl⟩, hgt⟩
    · rw [hclamped, getD_map_decide]
      simp only [rawCandidate_eq_some_iff]
      constructor
      · rintro ⟨v, ⟨w, q, a, e, hw, hq, ha, he, hv⟩, hout⟩
        exact ⟨w, q, a, e, hw, hq, ha, he, hv ▸ hout⟩
      · rintro ⟨w, q, a, e, hw, hq, ha, he, hout⟩
        exact ⟨_, ⟨w, q, a, e, hw, hq, ha, he, rfl⟩, hout⟩
  · rintro s p tag x ht hp h hh
    have acc : Accepted (.abortRun p tag true x) s p tag (.abortRun true) 1 h := ⟨rfl, hh.symm, rfl, ht, decide_eq_true hp⟩
    clear hh
    refine ⟨fun ho => acc.replies (if_neg ho), fun ho hrun hrec hroom => ?_, fun ho hrun hst => ?_, fun ho hrun hst => ?_⟩
    · have habort : ∀ b : State, b.cable = h.cable → b.abortRun p = (b.endAndRetrieve .aborted).reply p .ok := fun b hb => by
        rw [State.abortRun, State.fromHolder_holder b p _ (by rw [hb, ho]), hb, if_pos hrun]
      exact acc.endsRun (k := h.cable) (habort (h.occupy p 1 tag) rfl) hrun hrec hroom rfl rfl rfl
    · have habort : ∀ b : State, b.cable = h.cable → b.abortRun p = b.retrieve.reply p .ok := fun b hb => by
        rw [State.abortRun, State.fromHolder_holder b p _ (by rw [hb, ho]), hb, if_neg (by rw [hrun]; simp), if_pos hst]
      exact acc.answers (habort (h.occupy p 1 tag) rfl) rfl (.of_ports rfl)
    · have habort : ∀ b : State, b.cable = h.cable → b.abortRun p = b.reply p .wrongState := fun b hb => by
        rw [State.abortRun, State.fromHolder_holder b p _ (by rw [hb, ho]), hb, if_neg (by rw [hrun]; simp), if_neg hst]
      exact acc.replies (habort (h.occupy p 1 tag) rfl)
  · rintro s x hrun hrec hroom u hu
    have hports : u.ports = s.ports := by rw [hu]; rfl
    have hexec : ∀ v : State, (s.sample x).overloaded = v → exec (.overload x) s = .next v.settle := fun v hv => by
      rw [← hv]
      rfl
    have hu' : u.cable.run.isSome = true ∧ u.gauging.run.isSome = true ∧ u.hasRoom = true ∧ u.cable.state = s.cable.state ∧
        u.cable.motionTimer = s.cable.motionTimer ∧ u.cable.pauseTimer = s.cable.pauseTimer ∧ u.elapsed = s.elapsed := by
      rw [hu]
      exact ⟨hrun, hrec, hroom, rfl, rfl, rfl, rfl⟩
    obtain ⟨hur, hug, huroom, hst, hmotion, hpause, hel⟩ := hu'
    refine ⟨fun hs => ?_, fun hs e he => ?_, fun hs e he => ?_, fun r hr => ⟨fun hl => ?_, fun o v hv hb => ?_⟩⟩
    · have hstep : u.overloaded = u.fault .overload := if_pos (by rw [hst]; simpa using hs)
      obtain ⟨hend, hp⟩ := u.fault_runEnded .overload hur hug huroom
      exact event_runEnded (hexec _ (hu ▸ hstep)) ⟨hend, hp.trans hports⟩
    · have hstep : u.motionExpiry = ({ u with elapsed := max s.elapsed e } : State).fault .motionTimeout := by
        rw [State.motionExpiry, hmotion, he, hst]
        simp only [hs, if_true, State.advanceTo, hel]
      obtain ⟨hend, hp⟩ := ({ u with elapsed := max s.elapsed e } : State).fault_runEnded .motionTimeout hur hug huroom
      refine event_runEnded (u := u.motionExpiry) (by rw [hu]; rfl) ?_
      rw [hstep]
      exact ⟨hend, hp.trans hports⟩
    · have hstep : u.pauseExpiry = ({ u with elapsed := max s.elapsed e } : State).endAndRetrieve .pauseLimit := by
        rw [State.pauseExpiry, hpause, he, hst, hs]
        simp only [State.advanceTo, hel]
      obtain ⟨hend, hp⟩ := ({ u with elapsed := max s.elapsed e } : State).endAndRetrieve_runEnded .pauseLimit hur hug huroom
      refine event_runEnded (u := u.pauseExpiry) (by rw [hu]; rfl) ?_
      rw [hstep]
      exact ⟨hend, hp.trans hports⟩
    · have hstep : s.floodOnLevel = s.endAndRetrieve .floodLimit := by
        rw [State.floodOnLevel, hr]
        simp only [(levelBars_iff _ _).2 hl, if_true]
        exact if_pos hrun
      rw [hstep]
      exact (s.endAndRetrieve_runEnded .floodLimit hrun hrec hroom).1
    · have hb' : stageLimit s.cable.settings r.kind < v := by
        cases hk : r.kind <;> (rw [hk] at hb; exact hb)
      rw [s.floodOnAppend_floods o ⟨r, hr, .inr ⟨v, hv, hb'⟩⟩]
      exact (s.endAndRetrieve_runEnded .floodLimit hrun hrec hroom).1
  · rintro s x run hrun rr hrr barring hbarring
    have hfloods : ∀ (u : State) (l : Lau) (f : Found) (w : State), u.cable.run = some run → u.gauging.run = some rr →
        u.cable.settings = s.cable.settings → w = (u.withLau l).publish f →
        ∀ t, SameBlocks w t → barring t f → FloodEndsRun u t f run rr := fun u l f w hur hug hset hw t hb hbar => by
      have hlevel : t.warning = w.warning := hb.2.2.2.2.2.1
      have hcause := (barring_iff run.kind s.cable.settings t.warning.level f).1 ((hbarring t f).1 hbar)
      rw [hlevel, ← hset] at hcause
      exact (u.publish_floods l f hur hug w hw hcause).same hb
    refine ⟨fun r a ha hp hover hl u hu j hj => ?_, fun a ha hp ht hle u hu j hj => ?_, fun tag v ht hlo hhi h hh hs hsame ha f hf => ?_⟩
    · have hexec := exec_burst_forms s x r ha hp hover hl hu
      have hformed := u.publish_formed ((s.lau.burstOver (a.read r)).judge (a.read r)).1 (s.lau.judge (a.read r)).2 (by rw [hu]; rfl)
      have hflood := hfloods u ((s.lau.burstOver (a.read r)).judge (a.read r)).1 (s.lau.judge (a.read r)).2 _ (by rw [hu]; exact hrun)
        (by rw [hu]; exact hrr) (by rw [hu]; rfl) rfl
      generalize (u.withLau ((s.lau.burstOver (a.read r)).judge (a.read r)).1).publish (s.lau.judge (a.read r)).2 = w
        at hexec hformed hflood
      subst hj
      exact ⟨_, hexec, hformed.same (State.settle_sameBlocks w), hflood _ (State.settle_sameBlocks w)⟩
    · have hexec := exec_second_forms s x ha hp ht hle hu
      have hformed := u.publish_formed (s.lau.judge a).1 (s.lau.judge a).2 (by rw [hu]; rfl)
      have hflood := hfloods u (s.lau.judge a).1 (s.lau.judge a).2 _ (by rw [hu]; exact hrun) (by rw [hu]; exact hrr)
        (by rw [hu]; rfl) rfl
      generalize (u.withLau (s.lau.judge a).1).publish (s.lau.judge a).2 = w at hexec hformed hflood
      subst hj
      exact ⟨_, hexec, hformed.same (State.settle_sameBlocks w), hflood _ (State.settle_sameBlocks w)⟩
    · have acc : Accepted (.manualReading .F tag (some v) x) s .F tag (.manualReading (some v)) 17 h :=
        ⟨rfl, hh.symm, rfl, ht, rfl⟩
      obtain ⟨-, -, -, -, -, hcable, hgauging, -⟩ := (s.sample x).heard_frame .F
      rw [← hh] at hcable hgauging
      have hrun' : h.cable.run = some run := by rw [hcable]; exact hrun
      have hrr' : h.gauging.run = some rr := by rw [hgauging]; exact hrr
      generalize hb : h.occupy .F 17 tag = b
      have hexec : exec (.manualReading .F tag (some v) x) s = .next (b.manualReading .F v).settle := by
        rw [acc.exec_eq, ← hb]
        rfl
      have hheld : b.lau.hold.state = .held := by
        rw [← hb]
        exact hs
      rw [b.manualReading_accepted .F hheld hlo hhi,
        (b.withLau _).requestStart_starts (by rw [← hb]; exact ha) (by rw [← hb]; exact hsame), b.startAcquisition_manual v hheld]
        at hexec
      have hflood := hfloods b { b.lau.manualTaken v with lastStart := some b.elapsed, startOwed := false } (manualFound v) _
        (by rw [← hb]; exact hrun') (by rw [← hb]; exact hrr')
        (by rw [← hb, State.occupy, hcable]; rfl) rfl _
        (answer_sameBlocks _ .F .ok .empty)
      generalize (b.withLau { b.lau.manualTaken v with lastStart := some b.elapsed, startOwed := false }).publish (manualFound v) = w
        at hexec hflood
      subst hf hb
      exact ⟨_, hexec, hflood⟩

end Sys2Proof.Machine
end

section
/-! SUPPORT. What an acquisition finds: the median and the stage of a channel, the channel statuses, the vote and DISAGREE, and the rate
of rise (R7 to R13). -/

namespace Sys2Proof.Machine

/-! ### The median (R7) -/

theorem insertSorted_perm (n : Nat) (l : List Nat) : (insertSorted n l).Perm (n :: l) := by
  induction l with
  | nil => exact .refl _
  | cons m l ih =>
    rw [insertSorted]
    split
    · exact .refl _
    · exact (ih.cons m).trans (.swap n m l)

theorem insertSorted_sorted (n : Nat) (l : List Nat) (h : l.Pairwise (· ≤ ·)) : (insertSorted n l).Pairwise (· ≤ ·) := by
  induction l with
  | nil => simp [insertSorted]
  | cons m l ih =>
    obtain ⟨hm, hl⟩ := List.pairwise_cons.1 h
    rw [insertSorted]
    split
    · rename_i hn
      refine List.pairwise_cons.2 ⟨fun a ha => ?_, h⟩
      rcases List.mem_cons.1 ha with rfl | ha
      · omega
      · have := hm a ha
        omega
    · rename_i hn
      refine List.pairwise_cons.2 ⟨fun a ha => ?_, ih hl⟩
      rcases List.mem_cons.1 ((insertSorted_perm n l).mem_iff.1 ha) with rfl | ha
      · omega
      · exact hm a ha

theorem sortNat_spec (l : List Nat) : (sortNat l).Perm l ∧ (sortNat l).Pairwise (· ≤ ·) := by
  induction l with
  | nil => exact ⟨.refl _, .nil⟩
  | cons n l ih =>
    exact ⟨(insertSorted_perm n _).trans (ih.1.cons n), insertSorted_sorted n _ ih.2⟩

/-! ### The stage of a channel (R7, R8) -/

theorem validReadings_eq (l : List Nat) : validReadings l = l.filter (fun n => decide (n ≠ 0 ∧ n < 65535)) := by
  refine List.filter_congr fun n _ => ?_
  rw [← Bool.decide_and]
  exact decide_eq_decide.2 (and_congr_left' Nat.pos_iff_ne_zero)

/-! ### The statuses (R9, R12) -/

/-- A channel's status and its event, from its result. -/
theorem updateStatus_eq (status : Option ChannelStatus) (captured : Option Captured) (burst : Nat) :
    updateStatus status captured burst =
      match status, captured with
      | some st, some k =>
        if k.stayed then
          (some (st.update (channelResult k burst).isSome).1, (st.update (channelResult k burst).isSome).2)
        else (some st, none)
      | st, _ => (st, none) := by
  cases status <;> cases captured <;> rfl

theorem PerChannel.get_zip {α β γ : Type} (f : α → β → γ) (x : PerChannel α) (y : PerChannel β) (c : Channel) :
    (PerChannel.zip f x y).get c = f (x.get c) (y.get c) := by cases c <;> rfl

/-- The events of the channels in their order. -/
theorem statusEvents_eq (x : PerChannel (Option ChannelStatus × Option SensorEvent)) :
    x.toList.filterMap (fun x => x.2.2.map (fun e => (e, x.1, (none : Option Nat)))) =
      [Channel.LA, Channel.LB, Channel.LC].flatMap (fun c => (x.get c).2.toList.map (fun e => (e, c, none))) := by
  obtain ⟨⟨a, ea⟩, ⟨b, eb⟩, ⟨c, ec⟩⟩ := x
  cases ea <;> cases eb <;> cases ec <;> rfl

/-! ### The vote (R10) -/

theorem mem_votes_iff (a : Acquisition) (v : Vote) :
    v ∈ a.votes ↔ ∃ d i q, a.capture.get d = some i ∧ channelResult i a.burst = some q ∧
      v = { channel := d, preference := i.settings.preference, stage := q.1, clamped := q.2 } := by
  have hvote : ∀ d, voteOf (a.capture.get d) a.burst d = some v ↔ ∃ i q, a.capture.get d = some i ∧
      channelResult i a.burst = some q ∧
      v = { channel := d, preference := i.settings.preference, stage := q.1, clamped := q.2 } := fun d => by
    simp only [voteOf, Option.bind_eq_some_iff, Option.map_eq_some_iff]
    constructor
    · rintro ⟨i, hi, q, hq, rfl⟩
      exact ⟨i, q, hi, hq, rfl⟩
    · rintro ⟨i, q, hi, hq, rfl⟩
      exact ⟨i, hi, q, hq, rfl⟩
  simp only [Acquisition.votes, List.mem_filterMap]
  constructor
  · rintro ⟨x, hx, hv⟩
    simp only [PerChannel.toList, List.mem_cons, List.not_mem_nil, or_false] at hx
    rcases hx with rfl | rfl | rfl
    · exact ⟨.LA, (hvote .LA).1 hv⟩
    · exact ⟨.LB, (hvote .LB).1 hv⟩
    · exact ⟨.LC, (hvote .LC).1 hv⟩
  · rintro ⟨d, h⟩
    exact ⟨(d, a.capture.get d), by cases d <;> simp [PerChannel.toList, PerChannel.get], (hvote d).2 h⟩

/-- The votes before a channel's own and after it are those of the channels of lower and of higher code. -/
theorem votes_split (a : Acquisition) (c : Channel) {v : Vote} (hv : voteOf (a.capture.get c) a.burst c = some v) :
    ∃ before after, a.votes = before ++ v :: after ∧ (∀ u ∈ before, channelCode u.channel < channelCode c) ∧
      ∀ u ∈ after, channelCode c < channelCode u.channel := by
  have hcode : ∀ d u, voteOf (a.capture.get d) a.burst d = some u → u.channel = d := fun d u hu => by
    simp only [voteOf, Option.bind_eq_some_iff, Option.map_eq_some_iff] at hu
    obtain ⟨i, hi, q, hq, rfl⟩ := hu
    rfl
  have hvotes : a.votes = (voteOf (a.capture.get .LA) a.burst .LA).toList ++ (voteOf (a.capture.get .LB) a.burst .LB).toList ++
      (voteOf (a.capture.get .LC) a.burst .LC).toList := by
    simp only [Acquisition.votes, PerChannel.toList, PerChannel.get, List.filterMap_cons, List.filterMap_nil]
    cases voteOf a.capture.la a.burst .LA <;> cases voteOf a.capture.lb a.burst .LB <;> cases voteOf a.capture.lc a.burst .LC <;> rfl
  have hmem : ∀ d u, u ∈ (voteOf (a.capture.get d) a.burst d).toList → u.channel = d := fun d u hu =>
    hcode d u (by simpa using hu)
  cases c with
  | LA =>
    refine ⟨[], (voteOf (a.capture.get .LB) a.burst .LB).toList ++ (voteOf (a.capture.get .LC) a.burst .LC).toList,
      by rw [hvotes, hv, List.append_assoc]; rfl, by simp, fun u hu => ?_⟩
    rcases List.mem_append.1 hu with hu | hu <;> (rw [hmem _ u hu]; decide)
  | LB =>
    refine ⟨(voteOf (a.capture.get .LA) a.burst .LA).toList, (voteOf (a.capture.get .LC) a.burst .LC).toList,
      by rw [hvotes, hv, List.append_assoc]; rfl, fun u hu => ?_, fun u hu => ?_⟩ <;> (rw [hmem _ u hu]; decide)
  | LC =>
    refine ⟨_, [], by rw [hvotes, hv]; rfl, fun u hu => ?_, by simp⟩
    rcases List.mem_append.1 hu with hu | hu <;> (rw [hmem _ u hu]; decide)

/-- The better of the vote held and another. -/
def betterVote (best : Option Vote) (v : Vote) : Option Vote :=
  match best with
  | none => some v
  | some b => if v.preference < b.preference then some v else some b

theorem sourceOf_eq (l : List Vote) : sourceOf l = l.foldl betterVote none := rfl

theorem foldl_betterVote_keeps {v : Vote} {l : List Vote} (h : ∀ u ∈ l, v.preference ≤ u.preference) :
    l.foldl betterVote (some v) = some v := by
  induction l with
  | nil => rfl
  | cons u l ih =>
    have hu := h u List.mem_cons_self
    rw [List.foldl_cons, betterVote, if_neg (by omega)]
    exact ih fun w hw => h w (List.mem_cons_of_mem _ hw)

theorem foldl_betterVote_mem (l : List Vote) (b : Option Vote) {u : Vote} (h : l.foldl betterVote b = some u) :
    b = some u ∨ u ∈ l := by
  induction l generalizing b with
  | nil => exact .inl h
  | cons w l ih =>
    rcases ih _ h with hb | hm
    · cases b with
      | none =>
        obtain rfl : w = u := Option.some.inj hb
        exact .inr List.mem_cons_self
      | some b =>
        rw [betterVote] at hb
        split at hb
        · obtain rfl : w = u := Option.some.inj hb
          exact .inr List.mem_cons_self
        · exact .inl hb
    · exact .inr (List.mem_cons_of_mem _ hm)

/-- The source is the vote below all before it and not above any after it. -/
theorem sourceOf_split {before after : List Vote} {v : Vote} (hb : ∀ u ∈ before, v.preference < u.preference)
    (ha : ∀ u ∈ after, v.preference ≤ u.preference) : sourceOf (before ++ v :: after) = some v := by
  rw [sourceOf_eq, List.foldl_append, List.foldl_cons]
  have hnext : betterVote (before.foldl betterVote none) v = some v := by
    cases hbest : before.foldl betterVote none with
    | none => rfl
    | some b =>
      rcases foldl_betterVote_mem before none hbest with h | h
      · exact absurd h (by simp)
      · exact if_pos (hb b h)
  rw [hnext]
  exact foldl_betterVote_keeps ha

/-! ### The greatest difference (R11) -/

theorem foldl_max_eq {α : Type} (f : α → Nat) (l : List α) (n g : Nat) (hn : n ≤ g) (hle : ∀ a ∈ l, f a ≤ g)
    (hex : n = g ∨ ∃ a ∈ l, f a = g) : l.foldl (fun n a => max n (f a)) n = g := by
  induction l generalizing n with
  | nil => simpa using hex
  | cons a l ih =>
    have ha := hle a List.mem_cons_self
    rw [List.foldl_cons]
    refine ih _ (by omega) (fun b hb => hle b (List.mem_cons_of_mem _ hb)) ?_
    rcases hex with h | ⟨b, hb, h⟩
    · exact .inl (by omega)
    · rcases List.mem_cons.1 hb with rfl | hb
      · exact .inl (by omega)
      · exact .inr ⟨b, hb, h⟩

theorem greatestDifference_none {source : Vote} {l : List Vote} (h : ∀ v ∈ l, v.channel = source.channel) :
    greatestDifference source l = none := by
  have hnil : l.filter (fun v => v.channel ≠ source.channel) = [] := by
    rw [List.filter_eq_nil_iff]
    intro v hv
    simp [h v hv]
  rw [greatestDifference, hnil]

theorem greatestDifference_some {source : Vote} {l : List Vote} {g : Nat}
    (hex : ∃ v ∈ l, v.channel ≠ source.channel ∧ (v.stage - source.stage).natAbs = g)
    (hle : ∀ v ∈ l, v.channel ≠ source.channel → (v.stage - source.stage).natAbs ≤ g) :
    greatestDifference source l = some g := by
  obtain ⟨v, hv, hne, hg⟩ := hex
  have hmem : v ∈ l.filter (fun v => v.channel ≠ source.channel) := List.mem_filter.2 ⟨hv, by simpa using hne⟩
  have hmax := foldl_max_eq (fun v : Vote => (v.stage - source.stage).natAbs) (l.filter (fun v => v.channel ≠ source.channel)) 0 g
    (Nat.zero_le g) (fun u hu => by
      obtain ⟨hu, hne⟩ := List.mem_filter.1 hu
      exact hle u hu (by simpa using hne)) (.inr ⟨v, hmem, hg⟩)
  unfold greatestDifference
  split
  · rename_i hnil
    rw [hnil] at hmem
    exact absurd hmem (by simp)
  · rw [hmax]

/-! ### The rate of rise (R13) -/

theorem referenceOf_none {series : List Observation} {t w : Nat}
    (h : ∀ o ∈ series, ¬ (o.stage.isSome = true ∧ (t : Int) - 2 * w ≤ o.time ∧ (o.time : Int) ≤ t - w)) :
    referenceOf series t w = none := by
  rw [referenceOf, List.getLast?_eq_none_iff, List.filter_eq_nil_iff]
  intro o ho hin
  simp only [Bool.and_eq_true, decide_eq_true_eq, and_assoc] at hin
  exact h o ho hin

theorem referenceOf_split {before after : List Observation} {o : Observation} {t w : Nat}
    (ho : o.stage.isSome = true ∧ (t : Int) - 2 * w ≤ o.time ∧ (o.time : Int) ≤ t - w)
    (h : ∀ q ∈ after, ¬ (q.stage.isSome = true ∧ (t : Int) - 2 * w ≤ q.time ∧ (q.time : Int) ≤ t - w)) :
    referenceOf (before ++ o :: after) t w = some o := by
  have hafter : after.filter
      (fun o => o.stage.isSome && decide ((t : Int) - 2 * w ≤ o.time) && decide ((o.time : Int) ≤ t - w)) = [] := by
    rw [List.filter_eq_nil_iff]
    intro q hq hin
    simp only [Bool.and_eq_true, decide_eq_true_eq, and_assoc] at hin
    exact h q hq hin
  obtain ⟨h1, h2, h3⟩ := ho
  rw [referenceOf, List.filter_append, List.filter_cons_of_pos (by simp [h1, h2, h3]), hafter, List.getLast?_append]
  rfl

/-! ### What is found (R7 to R13) -/

/-- The events of the channel statuses after an acquisition. -/
def Lau.statusEvents (l : Lau) (a : Acquisition) : List (SensorEvent × Channel × Option Nat) :=
  [Channel.LA, Channel.LB, Channel.LC].flatMap (fun c =>
    (updateStatus (l.status.get c) (a.capture.get c) a.burst).2.toList.map (fun e => (e, c, none)))

/-- What an acquisition leaves and finds, by its source and its greatest difference. -/
theorem Lau.judge_eq (l : Lau) (a : Acquisition) {source : Option Vote} {difference : Option Nat} (hs : sourceOf a.votes = source)
    (hd : source.bind (fun v => greatestDifference v a.votes) = difference) :
    (∀ c, (l.judge a).1.status.get c = (updateStatus (l.status.get c) (a.capture.get c) a.burst).1) ∧
      (l.judge a).1 = { l with status := (l.judge a).1.status, disagree := (l.judge a).1.disagree } ∧ (l.judge a).2.manual = false ∧
      (l.judge a).2.stage = source.map (·.stage) ∧ (l.judge a).2.source = source.map (fun v => .channel v.channel) ∧
      (l.judge a).2.range = (source.map (·.clamped)).getD false ∧
      (difference = none → (l.judge a).1.disagree = l.disagree ∧ (l.judge a).2.events = l.statusEvents a) ∧
      ∀ d v, difference = some d → source = some v →
        (l.judge a).1.disagree = (l.disagree.update l.settings.tolerance d).1 ∧
          (l.judge a).2.events =
            l.statusEvents a ++ (l.disagree.update l.settings.tolerance d).2.toList.map (fun e => (e, v.channel, some d)) := by
  subst hs hd
  have hevents : (PerChannel.zip (fun st k => updateStatus st k a.burst) l.status a.capture).toList.filterMap
      (fun x => x.2.2.map (fun e => (e, x.1, (none : Option Nat)))) = l.statusEvents a := by
    rw [statusEvents_eq]
    simp only [PerChannel.get_zip]
    rfl
  refine ⟨fun c => ?_, rfl, rfl, rfl, rfl, rfl, fun hn => ?_, fun d v hdv hv => ?_⟩
  · cases c <;> rfl
  · simp only [Lau.judge, hn, hevents]
    exact ⟨trivial, List.append_nil _⟩
  · simp only [Lau.judge, hdv, hevents]
    simp only [hv]
    cases (l.disagree.update l.settings.tolerance d).2 <;> simp

/-- Settles O43: by the median, the clamp of the stage, the tables of the statuses and of DISAGREE, the vote and the reference of the
rate. -/
theorem aChannelStageIsTheMedianOfItsReadings : Obligations.AChannelStageIsTheMedianOfItsReadings := by
  refine ⟨?_, ?_, ?_, ?_, ?_, ?_⟩
  · rintro l a rfl
    obtain ⟨hperm, hsorted⟩ := sortNat_spec l
    have hlen := hperm.length_eq
    refine ⟨hperm, hsorted, fun hodd m hm => ?_, fun heven m n hm hn => ?_⟩
    · simp only [median, hlen, if_pos hodd, hm, Option.getD_some]
    · simp only [median, hlen, heven, hm, hn, Option.getD_some]
      rfl
  · rintro c burst v hv
    rw [← validReadings_eq] at hv
    refine ⟨fun hfew => ?_, fun hmany h hh => ?_⟩
    · simp only [channelResult, ← hv]
      exact if_pos hfew
    · have hres : channelResult c burst = some (clamp (-2000) 20000 h, !stageOk h) := by
        simp only [channelResult, ← hv, hh]
        exact if_neg (by omega)
      refine ⟨fun hlow => ?_, fun hlo hhi => ?_, fun hhigh => ?_⟩
      · have hok : stageOk h = false := by
          rw [← Bool.not_eq_true, stageOk_iff]
          omega
        rw [hres, hok, clamp, if_pos hlow]
        rfl
      · rw [hres, (stageOk_iff h).2 ⟨hlo, hhi⟩, clamp, if_neg (by omega), if_neg (by omega)]
        rfl
      · have hok : stageOk h = false := by
          rw [← Bool.not_eq_true, stageOk_iff]
          omega
        rw [hres, hok, clamp, if_neg (by omega), if_pos hhigh]
        rfl
  · exact fun i v => ⟨rfl, rfl, rfl, rfl, rfl, rfl⟩
  · rintro ⟨isSet, disagreements, agreements⟩ tolerance difference
    refine ⟨fun hlt n hn => ⟨fun h3 hs => ?_, fun hno => ?_⟩, fun hle n hn => ⟨fun h3 hs => ?_, fun hno => ?_⟩⟩
    · obtain rfl : isSet = false := hs
      simp [Disagree.update, hlt, upTo3, ← hn, h3]
    · simp only [Disagree.update, if_pos hlt, upTo3, ← hn]
      refine if_neg ?_
      rcases hno with h | h
      · simp [h]
      · simp [show isSet = true from h]
    · obtain rfl : isSet = true := hs
      simp [Disagree.update, not_lt.2 hle, upTo3, ← hn, h3]
    · simp only [Disagree.update, if_neg (not_lt.2 hle), upTo3, ← hn]
      refine if_neg ?_
      rcases hno with h | h
      · simp [h]
      · simp [show isSet = false from h]
  · rintro l a j rfl valid hvalid after hafter told rfl
    have hstatus : ∀ c, after c = updateStatus (l.status.get c) (a.capture.get c) a.burst := fun c => by
      rw [hafter c, updateStatus_eq, hvalid c]
      cases l.status.get c with
      | none => rfl
      | some st =>
        cases a.capture.get c with
        | none => rfl
        | some k => rfl
    have htold : [Channel.LA, Channel.LB, Channel.LC].flatMap (fun c => ((after c).2.toList.map (fun e => (e, c, none)))) =
        l.statusEvents a := by
      simp only [hstatus]
      rfl
    rw [htold]
    have hvotes : ∀ d q, valid d = some q ↔ ∃ i, a.capture.get d = some i ∧ channelResult i a.burst = some q := fun d q => by
      rw [hvalid d, Option.bind_eq_some_iff]
    obtain ⟨hst, hframe, hmanual, -⟩ := l.judge_eq a rfl rfl
    refine ⟨fun c => by rw [hst c, hstatus c], hframe, hmanual, fun hnone => ?_, fun c k r hk hr hbest => ?_⟩
    · have hnil : a.votes = [] := List.eq_nil_iff_forall_not_mem.2 fun v hv => by
        obtain ⟨d, i, q, hi, hq, -⟩ := (mem_votes_iff a v).1 hv
        have := (hvotes d q).2 ⟨i, hi, hq⟩
        rw [hnone d] at this
        cases this
      obtain ⟨-, -, -, h1, h2, h3, h4, -⟩ := l.judge_eq a (source := none) (difference := none) (by rw [hnil]; rfl) rfl
      exact ⟨h1, h2, h3, h4 rfl⟩
    · generalize hv : ({ channel := c, preference := k.settings.preference, stage := r.1, clamped := r.2 } : Vote) = v
      have hres : channelResult k a.burst = some r := by
        obtain ⟨i, hi, hq⟩ := (hvotes c r).1 hr
        obtain rfl : k = i := Option.some.inj (hk.symm.trans hi)
        exact hq
      have hown : voteOf (a.capture.get c) a.burst c = some v := by
        rw [hk, ← hv]
        simp [voteOf, hres]
      obtain ⟨before, rest, hsplit, hbefore, hrest⟩ := votes_split a c hown
      have hpref : ∀ u ∈ a.votes, v.preference < u.preference ∨
          (v.preference = u.preference ∧ channelCode c ≤ channelCode u.channel) := fun u hu => by
        obtain ⟨d, i, q, hi, hq, rfl⟩ := (mem_votes_iff a u).1 hu
        have := hbest d i q hi ((hvotes d q).2 ⟨i, hi, hq⟩)
        rw [← hv]
        exact this
      have hsource : sourceOf a.votes = some v := by
        rw [hsplit]
        refine sourceOf_split (fun u hu => ?_) fun u hu => ?_
        · have := hpref u (by rw [hsplit]; exact List.mem_append_left _ hu)
          have := hbefore u hu
          omega
        · have := hpref u (by rw [hsplit]; exact List.mem_append_right _ (List.mem_cons_of_mem _ hu))
          omega
      have hchannel : v.channel = c := by rw [← hv]
      have hstage : v.stage = r.1 := by rw [← hv]
      obtain ⟨-, -, -, h1, h2, h3, -⟩ := l.judge_eq a hsource rfl
      refine ⟨by rw [h1, ← hv]; rfl, by rw [h2, ← hv]; rfl, by rw [h3, ← hv]; rfl, fun hothers => ?_, fun g hex hle u hu => ?_⟩
      · have hd : (some v).bind (fun v => greatestDifference v a.votes) = none :=
          greatestDifference_none fun u hu => by
            obtain ⟨d, i, q, hi, hq, rfl⟩ := (mem_votes_iff a u).1 hu
            by_contra hne
            have := (hvotes d q).2 ⟨i, hi, hq⟩
            rw [hothers d fun e => hne (e.trans hchannel.symm)] at this
            cases this
        obtain ⟨-, -, -, -, -, -, h4, -⟩ := l.judge_eq a hsource hd
        exact h4 rfl
      · have hd : (some v).bind (fun v => greatestDifference v a.votes) = some g := by
          refine greatestDifference_some ?_ fun u hu hne => ?_
          · obtain ⟨d, q, hdc, hq, hg⟩ := hex
            obtain ⟨i, hi, hqi⟩ := (hvotes d q).1 hq
            exact ⟨_, (mem_votes_iff a _).2 ⟨d, i, q, hi, hqi, rfl⟩, by rw [hchannel]; exact hdc, by rw [hstage]; exact hg⟩
          · obtain ⟨d, i, q, hi, hq, rfl⟩ := (mem_votes_iff a u).1 hu
            rw [hchannel] at hne
            rw [hstage]
            exact hle d q hne ((hvotes d q).2 ⟨i, hi, hq⟩)
        obtain ⟨-, -, -, -, -, -, -, h5⟩ := l.judge_eq a hsource hd
        have h6 := h5 g v rfl rfl
        rw [hchannel] at h6
        rw [hu]
        exact h6
  · rintro series h t w inWindow hin
    refine ⟨fun hnone => ?_, fun before o after hsplit ho hafter ref href => ?_⟩
    · have hr := referenceOf_none (series := series) (t := t) (w := w) fun o ho => by
        rw [← hin o]
        exact hnone o ho
      simp only [rateOfRise, hr]
    · have hr := referenceOf_split (before := before) ((hin o).1 ho) fun q hq => by
        rw [← hin q]
        exact hafter q hq
      rw [← hsplit] at hr
      simp only [rateOfRise, hr, href, Option.map_some]
      exact congrArg some (clamp_eq _ _ _ (by decide))

end Sys2Proof.Machine
end

section
/-! SUPPORT. What reading the archive meets: the records up to the newest that passes its check, with their indexes, and the examination
of READ_ARCHIVE (R168, R169). -/

namespace Sys2Proof.Machine

/-! ### The records met (R168, R169) -/

theorem upToNewest_nil {l : List StoredRecord} (h : ∀ r ∈ l, r.intact = false) : upToNewest l = [] := by
  induction l with
  | nil => rfl
  | cons a l ih =>
    rw [upToNewest, ih fun r hr => h r (List.mem_cons_of_mem _ hr), h a List.mem_cons_self]
    rfl

/-- What is kept is the list's only part that ends with a passing record with none behind it. -/
theorem upToNewest_unique {standing beyond : List StoredRecord} (hb : ∀ r ∈ beyond, r.intact = false)
    (hs : ∀ r, standing.getLast? = some r → r.intact = true) : upToNewest (standing ++ beyond) = standing := by
  induction standing with
  | nil => exact upToNewest_nil hb
  | cons a l ih =>
    cases l with
    | nil =>
      have ha := hs a rfl
      rw [List.cons_append, upToNewest, List.nil_append, upToNewest_nil hb, ha]
      rfl
    | cons b l =>
      have hrest := ih fun r hr => hs r (by rw [List.getLast?_cons_cons]; exact hr)
      rw [List.cons_append, upToNewest, hrest]

/-- The walk's first record, and what it takes on to the next. -/
theorem walk_cons (s w : Nat) (before : Option Nat) (a : StoredRecord) (l : List StoredRecord) :
    ∃ h n, walk s w before (a :: l) = h :: walk s w n l ∧ (a.intact = false → h = { a with index := h.index }) ∧
      (a.intact = false → ∀ b, before = some b → h.index = b + 1) ∧ (before.isSome = true ∨ a.intact = true → n = some h.index) := by
  by_cases ha : a.intact = true
  · exact ⟨a, some a.index, by simp only [walk, ha, if_true], fun hd => by simp [ha] at hd, fun hd => by simp [ha] at hd,
      fun _ => rfl⟩
  · cases before with
    | none =>
      refine ⟨{ a with index := unplacedIndex s w (firstIntact l) }, none, ?_, fun _ => rfl, fun _ b hb => by simp at hb,
        by simp [ha]⟩
      simp only [walk, ha]
      rfl
    | some b =>
      refine ⟨{ a with index := b + 1 }, some (b + 1), ?_, fun _ => rfl, fun _ c hc => ?_, fun _ => rfl⟩
      · simp only [walk, ha]
        rfl
      · obtain rfl : b = c := by simpa using hc
        rfl

/-- A damaged record stands with an index, one more than that of the record before it once a passing record has been met. -/
theorem walk_damaged (s w : Nat) (before : Option Nat) (l : List StoredRecord) (i : Nat) (r : StoredRecord) (h : l[i]? = some r)
    (hr : r.intact = false) :
    ∃ k, (walk s w before l)[i]? = some { r with index := k } ∧ (i = 0 → ∀ b, before = some b → k = b + 1) ∧
      (0 < i → (before.isSome = true ∨ ∃ q ∈ l.take i, q.intact = true) →
        ∃ q, (walk s w before l)[i - 1]? = some q ∧ k = q.index + 1) := by
  induction l generalizing before i with
  | nil => simp at h
  | cons a l ih =>
    obtain ⟨x, n, hwalk, hdamaged, hindex, hnext⟩ := walk_cons s w before a l
    rw [hwalk]
    cases i with
    | zero =>
      obtain rfl : a = r := by simpa using h
      exact ⟨x.index, congrArg some (hdamaged hr), fun _ => hindex hr, fun h0 => absurd h0 (Nat.lt_irrefl 0)⟩
    | succ i =>
      obtain ⟨k, hk, hfirst, hlater⟩ := ih n i (by simpa using h)
      refine ⟨k, by simpa using hk, fun h0 => absurd h0 (Nat.succ_ne_zero i), fun _ hmet => ?_⟩
      have hon : (∃ q ∈ l.take i, q.intact = true) ∨ n = some x.index := by
        rcases hmet with hb | ⟨q, hq, hqi⟩
        · exact .inr (hnext (.inl hb))
        · rw [List.take_succ_cons] at hq
          rcases List.mem_cons.1 hq with rfl | hq
          · exact .inr (hnext (.inr hqi))
          · exact .inl ⟨q, hq, hqi⟩
      cases i with
      | zero =>
        refine ⟨x, rfl, ?_⟩
        rcases hon with ⟨q, hq, -⟩ | hn
        · simp at hq
        · exact hfirst rfl _ hn
      | succ i =>
        obtain ⟨q, hq, hkq⟩ := hlater (Nat.succ_pos i) (by
          rcases hon with h | h
          · exact .inr h
          · exact .inl (by rw [h]; rfl))
        exact ⟨q, by simpa using hq, hkq⟩

theorem Archive.items_spec (a : Archive) (start width : Nat) : ItemsOf a (a.items start width) := by
  refine ⟨heldPages a.pages, heldPages_perm a.pages, heldPages_sorted a.pages, ?_⟩
  rintro readable rfl standing beyond hsplit hbeyond hlast
  have hread : (heldPages a.pages).flatMap (fun e => e.2.records.take ((e.2.records.takeWhile (·.intact)).length + 1)) =
      (heldPages a.pages).flatMap (fun e => Machine.readable e.2.records) := by
    simp only [readable_eq]
  have hstanding : a.standing = standing := by
    rw [Archive.standing, ← hread, hsplit]
    exact upToNewest_unique hbeyond hlast
  rw [Archive.items, hstanding]
  refine ⟨walk_length _ _ _ _, fun i r hr => ⟨walk_intact start width none standing i r hr, fun hd => ?_⟩⟩
  obtain ⟨k, hk, -, hlater⟩ := walk_damaged start width none standing i r hr hd
  refine ⟨k, hk, fun hmet => ?_⟩
  cases i with
  | zero =>
    obtain ⟨q, hq, -⟩ := hmet
    simp at hq
  | succ i => exact hlater (Nat.succ_pos i) (.inr hmet)

/-! ### The examination of READ_ARCHIVE (R168) -/

/-- The records of those met that are returned. -/
def returnedOf (f : KindFilter) (l : List StoredRecord) : List StoredRecord := l.filter (fun r => r.intact && kindMatches f r.record)

/-- The bytes of whole records. -/
def wholeBytes (l : List StoredRecord) : Nat := (l.map (fun r => r.record.length)).sum

/-- Whether two records examined in succession are not consecutive. -/
def Jumps (l : List StoredRecord) : Prop := ∃ before r r' after, l = before ++ r :: r' :: after ∧ r.index + 1 ≠ r'.index

/-- What the examination has reached once some records have been met. -/
structure Reached (start : Nat) (f : KindFilter) (gone : Bool) (met : List StoredRecord) (x : Examined) : Prop where
  records : x.answer.records = returnedOf f met
  fits : wholeBytes (returnedOf f met) ≤ archiveRoom
  room : x.room = archiveRoom - wholeBytes (returnedOf f met)
  examined : x.examined = (met.filter (·.intact)).length
  last : x.last = ((met.filter (·.intact)).getLast?).map (·.index)
  nextIndex : x.answer.nextIndex = match (met.filter (·.intact)).getLast? with | none => start | some r => r.index + 1
  earlierGone : x.answer.earlierGone = gone
  indexJump : x.answer.indexJump = true ↔ Jumps (met.filter (·.intact))
  damaged : x.answer.damaged = true ↔ ∃ r ∈ met, r.intact = false
  damagedIndex : x.answer.damagedIndex = (met.find? (fun r => !r.intact)).map (·.index)

theorem jumps_append {l : List StoredRecord} {r : StoredRecord} :
    Jumps (l ++ [r]) ↔ Jumps l ∨ ∃ q, l.getLast? = some q ∧ q.index + 1 ≠ r.index := by
  constructor
  · rintro ⟨before, a, b, after, h, hne⟩
    rcases List.eq_nil_or_concat after with rfl | ⟨more, c, rfl⟩
    · obtain ⟨hl, hr⟩ := List.append_inj' (show l ++ [r] = (before ++ [a]) ++ [b] by rw [h]; simp) rfl
      obtain rfl : r = b := by simpa using hr
      exact .inr ⟨a, by rw [hl]; simp, hne⟩
    · obtain ⟨hl, -⟩ := List.append_inj' (show l ++ [r] = (before ++ a :: b :: more) ++ [c] by rw [h]; simp) rfl
      exact .inl ⟨before, a, b, more, hl, hne⟩
  · rintro (⟨before, a, b, after, rfl, hne⟩ | ⟨q, hq, hne⟩)
    · exact ⟨before, a, b, after ++ [r], by simp, hne⟩
    · obtain ⟨before, rfl⟩ := List.getLast?_eq_some_iff.1 hq
      exact ⟨before, q, r, [], by simp, hne⟩

theorem Reached.none (start : Nat) (f : KindFilter) (gone : Bool) :
    Reached start f gone []
      { answer :=
          { records := [], nextIndex := start, earlierGone := gone, indexJump := false, damaged := false, damagedIndex := none }
        room := archiveRoom, examined := 0, last := none } := by
  refine ⟨rfl, Nat.zero_le _, rfl, rfl, rfl, rfl, rfl, ?_, by simp, rfl⟩
  constructor
  · exact fun h => absurd h (by simp)
  · rintro ⟨before, r, r', after, h, -⟩
    simp at h

section Reached

variable {start : Nat} {f : KindFilter} {gone : Bool} {met : List StoredRecord} {x : Examined} {r : StoredRecord}

/-- A passing record is examined, and returned where it matches and fits. -/
theorem Reached.take (h : Reached start f gone met x) (hr : r.intact = true) {b : Bool} (hb : kindMatches f r.record = b)
    (hfit : b = true → r.record.length ≤ x.room) : Reached start f gone (met ++ [r]) (x.take r b) := by
  have hpass : (met ++ [r]).filter (·.intact) = met.filter (·.intact) ++ [r] := by simp [hr]
  have hret : returnedOf f (met ++ [r]) = if b then returnedOf f met ++ [r] else returnedOf f met := by
    subst hb
    cases hm : kindMatches f r.record <;> simp [returnedOf, hr, hm]
  have hbytes : wholeBytes (returnedOf f (met ++ [r])) = wholeBytes (returnedOf f met) + if b then r.record.length else 0 := by
    rw [hret]
    cases b <;> simp [wholeBytes]
  have hroom := h.room
  have hfits := h.fits
  refine ⟨?_, ?_, ?_, ?_, ?_, ?_, h.earlierGone, ?_, ?_, ?_⟩
  · rw [hret, ← h.records]
    rfl
  · rw [hbytes]
    cases b with
    | true =>
      have := hfit rfl
      simp only [if_true]
      omega
    | false => simpa using hfits
  · rw [hbytes]
    cases b with
    | true => simp only [Examined.take, if_true, hroom]; omega
    | false => simpa [Examined.take] using hroom
  · rw [hpass, List.length_append, ← h.examined]
    rfl
  · rw [hpass, List.getLast?_concat]
    rfl
  · rw [hpass, List.getLast?_concat]
    rfl
  · rw [hpass, jumps_append, ← h.indexJump]
    simp only [Examined.take, Bool.or_eq_true, h.last]
    cases (met.filter (·.intact)).getLast? with
    | none => simp
    | some q => simp
  · show x.answer.damaged = true ↔ _
    rw [h.damaged]
    simp [hr]
  · show x.answer.damagedIndex = _
    rw [h.damagedIndex, List.find?_append]
    simp [hr]

/-- A damaged record is noted. -/
theorem Reached.damage (h : Reached start f gone met x) (hr : r.intact = false) :
    Reached start f gone (met ++ [r]) (x.damage r.index) := by
  have hpass : (met ++ [r]).filter (·.intact) = met.filter (·.intact) := by simp [hr]
  have hret : returnedOf f (met ++ [r]) = returnedOf f met := by simp [returnedOf, hr]
  refine ⟨by rw [hret]; exact h.records, by rw [hret]; exact h.fits, by rw [hret]; exact h.room, by rw [hpass]; exact h.examined,
    by rw [hpass]; exact h.last, by rw [hpass]; exact h.nextIndex, h.earlierGone, by rw [hpass]; exact h.indexJump, ?_, ?_⟩
  · simp [Examined.damage, hr]
  · simp only [Examined.damage, h.damagedIndex, List.find?_append]
    cases met.find? (fun r => !r.intact) with
    | none => simp [hr]
    | some q => simp

end Reached

/-- Where the examination has stopped: at the end, at one of its two counts, or at a record that does not fit, whose index is then
the next. -/
structure Stopped (start count : Nat) (f : KindFilter) (gone : Bool) (before l : List StoredRecord) (k : Nat) (y : ArchiveAnswer) :
    Prop where
  within : k ≤ l.length
  goes_on : ∀ j, j < k → (returnedOf f (before ++ l.take j)).length < count ∧
    ((before ++ l.take j).filter (·.intact)).length < 4096
  ends : ∃ x, Reached start f gone (before ++ l.take k) x ∧
    (((k = l.length ∨ count ≤ x.answer.records.length ∨ 4096 ≤ x.examined) ∧ y = x.answer) ∨
      ∃ r, l[k]? = some r ∧ x.answer.records.length < count ∧ x.examined < 4096 ∧ r.intact = true ∧ kindMatches f r.record = true ∧
        x.room < r.record.length ∧ y = { x.answer with nextIndex := r.index })

theorem Stopped.cons {start count : Nat} {f : KindFilter} {gone : Bool} {before l : List StoredRecord} {k : Nat} {y : ArchiveAnswer}
    {r : StoredRecord} (h : Stopped start count f gone (before ++ [r]) l k y) (hopen : (returnedOf f before).length < count)
    (hexam : (before.filter (·.intact)).length < 4096) : Stopped start count f gone before (r :: l) (k + 1) y := by
  have hassoc : ∀ j, before ++ (r :: l).take (j + 1) = (before ++ [r]) ++ l.take j := fun j => by simp
  refine ⟨Nat.succ_le_succ h.within, fun j hj => ?_, ?_⟩
  · cases j with
    | zero => simpa using ⟨hopen, hexam⟩
    | succ j =>
      rw [hassoc]
      exact h.goes_on j (by omega)
  · obtain ⟨x, hx, hend⟩ := h.ends
    refine ⟨x, by rw [hassoc]; exact hx, ?_⟩
    simpa using hend

/-- The examination of the records from the start index on. -/
theorem examine_stops {start count : Nat} {f : KindFilter} {gone : Bool} (l before : List StoredRecord) (x : Examined)
    (h : Reached start f gone before x) (hl : ∀ r ∈ l, start ≤ r.index) :
    ∃ k, Stopped start count f gone before l k (examine start count f x l).answer := by
  induction l generalizing before x with
  | nil => exact ⟨0, Nat.zero_le _, fun j hj => absurd hj (Nat.not_lt_zero j), x, by simpa using h, .inl ⟨.inl rfl, rfl⟩⟩
  | cons r l ih =>
    have hrest : ∀ q ∈ l, start ≤ q.index := fun q hq => hl q (List.mem_cons_of_mem _ hq)
    have hstart : ¬ r.index < start := not_lt.2 (hl r List.mem_cons_self)
    rw [examine, if_neg hstart]
    by_cases hfull : (decide (count ≤ x.answer.records.length) || decide (4096 ≤ x.examined)) = true
    · rw [if_pos hfull]
      refine ⟨0, Nat.zero_le _, fun j hj => absurd hj (Nat.not_lt_zero j), x, by simpa using h, .inl ⟨.inr ?_, rfl⟩⟩
      simpa using hfull
    · rw [if_neg hfull]
      simp only [Bool.or_eq_true, decide_eq_true_eq, not_or, not_le] at hfull
      obtain ⟨hcount, hexam⟩ := hfull
      have hopen := hcount
      have hexam' := hexam
      rw [h.records] at hopen
      rw [h.examined] at hexam'
      by_cases hi : r.intact = true
      · simp only [hi, Bool.not_true, Bool.false_eq_true, if_false]
        by_cases hm : kindMatches f r.record = true
        · rw [if_pos hm]
          by_cases hfit : r.record.length ≤ x.room
          · rw [if_pos hfit]
            obtain ⟨k, hk⟩ := ih _ _ (h.take hi hm fun _ => hfit) hrest
            exact ⟨k + 1, hk.cons hopen hexam'⟩
          · rw [if_neg hfit]
            exact ⟨0, Nat.zero_le _, fun j hj => absurd hj (Nat.not_lt_zero j), x, by simpa using h,
              .inr ⟨r, rfl, hcount, hexam, hi, hm, not_le.1 hfit, rfl⟩⟩
        · rw [if_neg hm]
          obtain ⟨k, hk⟩ := ih _ _ (h.take hi (Bool.not_eq_true _ ▸ hm : kindMatches f r.record = false) nofun) hrest
          exact ⟨k + 1, hk.cons hopen hexam'⟩
      · simp only [hi, Bool.not_false, if_true]
        obtain ⟨k, hk⟩ := ih _ _ (h.damage (Bool.not_eq_true _ ▸ hi)) hrest
        exact ⟨k + 1, hk.cons hopen hexam'⟩

/-- Records below the start index are passed by. -/
theorem examine_filter (start count : Nat) (f : KindFilter) (x : Examined) (l : List StoredRecord) :
    examine start count f x l = examine start count f x (l.filter (fun r => start ≤ r.index)) := by
  induction l generalizing x with
  | nil => rfl
  | cons r l ih =>
    by_cases hr : r.index < start
    · rw [examine, if_pos hr, List.filter_cons_of_neg (by simpa using hr)]
      exact ih x
    · rw [List.filter_cons_of_pos (by simpa using hr), examine, examine, if_neg hr, if_neg hr]
      simp only [ih]

theorem earlierGone_iff (items : List StoredRecord) (start : Nat) :
    earlierGone items start = true ↔ ∃ r, items.find? (·.intact) = some r ∧ start < r.index := by
  unfold earlierGone Archive.oldest
  cases items.find? (·.intact) <;> simp

theorem Archive.read_answers (a : Archive) (start count : Nat) (f : KindFilter) :
    ReadAnswers (a.items start 4294967296) start count f (a.read start count f) ∧
      wholeBytes (a.read start count f).records ≤ archiveRoom := by
  generalize hitems : a.items start 4294967296 = items
  have hread : a.read start count f = (examine start count f
      { answer :=
          { records := [], nextIndex := start, earlierGone := earlierGone items start, indexJump := false, damaged := false
            damagedIndex := none }
        room := archiveRoom, examined := 0, last := none } (items.filter (fun r => start ≤ r.index))).answer := by
    rw [← examine_filter, ← hitems]
    rfl
  obtain ⟨k, hk⟩ := examine_stops (count := count) (items.filter (fun r => start ≤ r.index)) [] _
    (Reached.none start f (earlierGone items start)) fun r hr => by simpa using (List.mem_filter.1 hr).2
  rw [← hread] at hk
  obtain ⟨hle, hopen, x, hx, hend⟩ := hk
  simp only [List.nil_append] at hopen hx
  have hbytes := hx.fits
  have hsame : (a.read start count f).records = x.answer.records ∧ (a.read start count f).earlierGone = x.answer.earlierGone ∧
      (a.read start count f).indexJump = x.answer.indexJump ∧ (a.read start count f).damaged = x.answer.damaged ∧
      (a.read start count f).damagedIndex = x.answer.damagedIndex := by
    rcases hend with ⟨-, hy⟩ | ⟨r, -, -, -, -, -, -, hy⟩ <;> (rw [hy]; exact ⟨rfl, rfl, rfl, rfl, rfl⟩)
  obtain ⟨hrecords, hgone, hjump, hdamaged, hindex⟩ := hsame
  refine ⟨?_, by rw [hrecords, hx.records]; exact hbytes⟩
  rintro l rfl returned rfl bytes rfl
  refine ⟨k, hle, ?_⟩
  rintro met rfl examined rfl
  refine ⟨hrecords.trans hx.records, by rw [hrecords, hx.records]; exact hbytes, hopen, fun r hr hc he => ?_, fun hstop => ?_, ?_, ?_,
    ?_, ?_⟩
  · rw [hrecords] at hc
    rw [← hx.examined] at he
    rcases hend with ⟨hstop, -⟩ | ⟨q, hq, -, -, hi, hm, hroom, hy⟩
    · rcases hstop with h | h | h
      · rw [List.getElem?_eq_none (by omega)] at hr
        cases hr
      · omega
      · omega
    · obtain rfl : q = r := Option.some.inj (hq.symm.trans hr)
      refine ⟨hi, hm, ?_, by rw [hy]⟩
      rw [hx.room] at hroom
      rw [hrecords, hx.records]
      show 565 < wholeBytes _ + _
      simp only [archiveRoom] at hroom
      omega
  · rcases hend with ⟨-, hy⟩ | ⟨q, hq, hc, he, -⟩
    · rw [hy]
      exact hx.nextIndex
    · rw [hrecords, ← hx.examined] at hstop
      have := (List.getElem?_eq_some_iff.1 hq).1
      omega
  · rw [hgone, hx.earlierGone]
    exact earlierGone_iff items start
  · rw [hjump]
    exact hx.indexJump
  · rw [hdamaged]
    exact hx.damaged
  · rw [hindex]
    exact hx.damagedIndex

/-- The answer's whole payload. -/
theorem Archive.read_payload (a : Archive) (start count : Nat) (f : KindFilter) :
    (payloadBytes (.archive (a.read start count f))).length ≤ 576 := by
  have hbytes := (a.read_answers start count f).2
  generalize a.read start count f = y at hbytes
  have hrecords : (y.records.flatMap (fun r => recordBytes r.record r.index r.time)).length = wholeBytes y.records := by
    rw [List.length_flatMap]
    exact congrArg List.sum (List.map_congr_left fun r _ => recordBytes_length _ _ _)
  have hfixed : (archiveFixed y).length = 11 := by
    simp [archiveFixed, bitByte, beOpt]
  show (archiveFixed y ++ _).length ≤ 576
  rw [List.length_append, hrecords, hfixed]
  simp only [archiveRoom] at hbytes
  omega

end Sys2Proof.Machine
end

section
/-! SUPPORT. The requests that read: their sections, the STATUS items, the observations that fit, and their answers (R19, R168, R169, R198,
R199). -/

namespace Sys2Proof.Machine

/-! ### Sections (R198) -/

theorem slotPlace_eq (n : Fin 4) : slotPlace (n.val + 1) = some n := by
  simp [slotPlace, Nat.succ_le_of_lt n.isLt]

theorem slotPlace_none_iff (n : Nat) : slotPlace n = none ↔ n = 0 ∨ 4 < n := by
  unfold slotPlace
  split
  · simp only [reduceCtorEq, false_iff]
    omega
  · simp only [true_iff]
    omega

theorem State.section_none_iff (s : State) (part : SettingsSection) (slot : Option Nat) :
    s.section part slot = none ↔ part = .rating ∧ ∀ n, slot = some n → n = 0 ∨ 4 < n := by
  cases part with
  | rating =>
    cases slot with
    | none => simp [State.section]
    | some n => simp [State.section, slotPlace_none_iff]
  | acquisition => simp [State.section]
  | warning => simp [State.section]
  | cableway => simp [State.section]
  | shifts => simp [State.section]
  | datum => simp [State.section]

theorem Store.marks_iff (st : Store) (i : ItemId) :
    ((st.marks i).defaulted = true ↔ i ∈ st.defaulted) ∧ ((st.marks i).pending = true ↔ ∃ w ∈ st.queue, w.data.item = i) := by
  simp [Store.marks]

/-! ### Observations that fit (R19) -/

theorem fitting_spec (l : List Observation) :
    ∃ k, fitting l = l.drop k ∧ (payloadBytes (.observations (fitting l))).length ≤ 576 ∧
      ∀ j, j < k → 576 < (payloadBytes (.observations (l.drop j))).length := by
  induction l with
  | nil => exact ⟨0, rfl, by simp [fitting, payloadBytes], fun j hj => absurd hj (Nat.not_lt_zero j)⟩
  | cons o l ih =>
    by_cases hfit : (payloadBytes (.observations (o :: l))).length ≤ 576
    · have hall : fitting (o :: l) = o :: l := by rw [fitting, if_pos hfit]
      exact ⟨0, hall, by rw [hall]; exact hfit, fun j hj => absurd hj (Nat.not_lt_zero j)⟩
    · have hrest : fitting (o :: l) = fitting l := by rw [fitting, if_neg hfit]
      obtain ⟨k, hk, hlen, hmore⟩ := ih
      refine ⟨k + 1, by rw [hrest, hk]; rfl, by rw [hrest]; exact hlen, fun j hj => ?_⟩
      cases j with
      | zero => exact not_le.1 hfit
      | succ j => exact hmore j (by omega)

/-! ### The answers -/

/-- Settles O22: by the records met, the sections, the STATUS items, and the answer of each request. -/
theorem readsAreAnsweredAtOnce : Obligations.ReadsAreAnsweredAtOnce := by
  refine ⟨Archive.items_spec, fun a start count f => ⟨(a.read_answers start count f).1, a.read_payload start count f⟩,
    State.section_none_iff, Store.marks_iff, fun s m hm => ?_, fun s a ha left hleft => ?_, fun n l => rfl, fitting_spec,
    fun s p tag ht => ?_⟩
  · subst hm
    refine ⟨fun _ => rfl, fun _ => ⟨_, rfl, fun n => ?_⟩, fun _ => rfl, fun n => ?_, fun _ => rfl, fun _ => rfl⟩
    · match n with
      | 0 | 1 | 2 | 3 | 4 | 5 | 6 | 7 => rfl
    · simp only [State.section, Option.bind_some, slotPlace_eq, Option.map_some]
      rfl
  · subst ha hleft
    refine ⟨fun c => ⟨fun h => ?_, fun st h => ?_⟩, rfl, rfl, fun h => ?_, fun e h => ?_, rfl, rfl, rfl, rfl, fun h => ?_, fun e h => ?_,
      fun h => ?_, fun h => ?_, fun h e he => ?_, rfl, rfl, rfl, rfl, fun h => ?_, fun r h => ?_, fun h => ?_, fun h e he => ?_, rfl,
      fun h => ?_, fun e h => ?_, fun h => ?_, fun rr h => ?_⟩
    · simp [State.statusAnswer, PerChannel.get_map, h]
    · simp [State.statusAnswer, PerChannel.get_map, h]
    · simp [State.statusAnswer, State.remaining, h]
    · simp [State.statusAnswer, State.remaining, h, secondsLeft]
    · simp [State.statusAnswer, State.remaining, h, Deadline.state, Deadline.expiry]
    · simp [State.statusAnswer, State.remaining, h, Deadline.state, Deadline.expiry, secondsLeft]
    · simp [State.statusAnswer, State.remaining, h, Deadline.state, Deadline.expiry]
    · simp [State.statusAnswer, h]
    · simp [State.statusAnswer, State.remaining, h, he, secondsLeft]
    · simp [State.statusAnswer, h]
    · simp [State.statusAnswer, h]
    · simp [State.statusAnswer, h]
    · simp [State.statusAnswer, State.remaining, h, he, secondsLeft]
    · simp [State.statusAnswer, h]
    · simp [State.statusAnswer, h]
    · simp [State.statusAnswer, h]
    · simp [State.statusAnswer, h]
  · obtain ⟨-, -, hclock, hlau, hrating, hcable, -⟩ := s.heard_frame p
    generalize hh : s.heard p = h at hclock hlau hrating hcable ⊢
    refine ⟨?_, ?_, fun part slot a hs => ?_, fun n hn => ?_, fun f hc hf => ?_, fun n hn => ?_, fun f hc => ?_, fun f hc hf => ?_,
      fun f hf => ?_⟩
    · have acc : Accepted (.status p tag true) s p tag (.status true) 35 h := ⟨rfl, hh, rfl, ht, rfl⟩
      exact acc.replies rfl
    · have acc : Accepted (.readDescriptor p tag true) s p tag (.readDescriptor true) 19 h := ⟨rfl, hh, rfl, ht, rfl⟩
      rw [← hcable, ← hrating, ← hclock]
      exact acc.replies rfl
    · have acc : Accepted (.readSettings p tag (some { part := some part, slot := slot })) s p tag
          (.readSettings (some { part := some part, slot := slot })) 22 h := ⟨rfl, hh, rfl, ht, rfl⟩
      have hop : (h.occupy p 22 tag).readSettings p { part := some part, slot := slot } =
          (h.occupy p 22 tag).answer p .ok (.settings a) := by
        have hs' : (h.occupy p 22 tag).section part slot = some a := hs
        simp only [State.readSettings, Option.bind_some, hs']
      exact acc.replies hop
    · have acc : Accepted (.readObs p tag (some n)) s p tag (.readObs (some n)) 21 h := ⟨rfl, hh, rfl, ht, rfl⟩
      rw [← hlau]
      exact acc.replies (if_neg (by omega))
    · have acc : Accepted (.readArchive p tag (some f)) s p tag (.readArchive (some f)) 18 h := ⟨rfl, hh, rfl, ht, rfl⟩
      have hop : ∀ b : State, b.readArchive p f =
          b.answer p .ok (.archive (b.archive.read f.start (if f.count = 0 then 16 else f.count) f.filter)) := fun b => by
        rw [State.readArchive, if_neg (by omega), if_neg hf]
      exact acc.replies (hop (h.occupy p 18 tag))
    · have acc : Accepted (.readObs p tag (some n)) s p tag (.readObs (some n)) 21 h := ⟨rfl, hh, rfl, ht, rfl⟩
      exact acc.replies (if_pos hn)
    · have acc : Accepted (.readArchive p tag (some f)) s p tag (.readArchive (some f)) 18 h := ⟨rfl, hh, rfl, ht, rfl⟩
      exact acc.replies (if_pos hc)
    · have acc : Accepted (.readArchive p tag (some f)) s p tag (.readArchive (some f)) 18 h := ⟨rfl, hh, rfl, ht, rfl⟩
      have hop : ∀ b : State, b.readArchive p f = b.reply p .badRequest := fun b => by
        rw [State.readArchive, if_neg (by omega), if_pos hf]
      exact acc.replies (hop (h.occupy p 18 tag))
    · have acc : Accepted (.readSettings p tag (some f)) s p tag (.readSettings (some f)) 22 h := ⟨rfl, hh, rfl, ht, rfl⟩
      have hop : ∀ b : State, b.readSettings p f = b.reply p .badRequest := fun b => by
        have hnone : f.part.bind (fun part => b.section part f.slot) = none := by
          rcases hf with hp | ⟨hp, hslot⟩
          · rw [hp]
            rfl
          · rw [hp, Option.bind_some]
            exact (b.section_none_iff _ _).2 ⟨rfl, hslot⟩
        simp only [State.readSettings, hnone]
      exact acc.replies (hop (h.occupy p 22 tag))

end Sys2Proof.Machine
end

section
/-! SUPPORT. A verification: the range it fixes, the records it passes over and checks, and its answer (R170, R171). -/

namespace Sys2Proof.Machine

/-! ### The range (R170) -/

theorem Archive.items_length (a : Archive) (start width : Nat) : (a.items start width).length = a.standing.length :=
  walk_length _ _ _ _

theorem upToNewest_length_le (l : List StoredRecord) : (upToNewest l).length ≤ l.length := by
  obtain ⟨⟨beyond, hl, -⟩, -⟩ := upToNewest_spec l
  have := congrArg List.length hl
  rw [List.length_append] at this
  omega

theorem Archive.standing_length_le (a : Archive) : a.standing.length ≤ a.places.length := by
  have hlen : a.places.length = ((heldPages a.pages).flatMap (fun e => readable e.2.records)).length := by
    rw [Archive.places, List.length_flatMap, List.length_flatMap]
    exact congrArg List.sum (List.map_congr_left fun e _ => by rw [placesOf, List.length_mapIdx])
  rw [hlen]
  exact upToNewest_length_le _

theorem zipWith_index (places : List RangeItem) (items : List StoredRecord) (h : items.length ≤ places.length) :
    (List.zipWith (fun (i : RangeItem) (r : StoredRecord) => { i with index := r.index }) places items).map (·.index) =
      items.map (·.index) := by
  induction items generalizing places with
  | nil => simp
  | cons r items ih =>
    cases places with
    | nil => simp at h
    | cons i places =>
      rw [List.zipWith_cons_cons, List.map_cons, List.map_cons, ih places (by simpa using h)]

theorem Archive.verifyRange_index (a : Archive) (start count : Nat) :
    (a.verifyRange start count).map (·.index) =
      ((a.items start count).map (·.index)).filter (fun i => decide (start ≤ i ∧ i < start + count)) := by
  have hle : (a.items start count).length ≤ a.places.length := by
    rw [a.items_length]
    exact a.standing_length_le
  rw [← zipWith_index a.places _ hle, List.filter_map, Archive.verifyRange]
  refine congrArg (List.map _) (List.filter_congr fun i _ => ?_)
  simp [Bool.decide_and]

/-- Without a damaged record what is met is what stands. -/
theorem Archive.items_standing (a : Archive) (start width : Nat) (h : a.standing.all (·.intact) = true) :
    a.items start width = a.standing := by
  refine List.ext_getElem? fun i => ?_
  cases hi : a.standing[i]? with
  | none =>
    rw [List.getElem?_eq_none_iff, a.items_length]
    exact List.getElem?_eq_none_iff.1 hi
  | some r =>
    exact walk_intact start width none a.standing i r hi (List.all_eq_true.1 h r (List.mem_of_getElem? hi))

/-- Without a passing record at the front of a page nothing stands. -/
theorem Archive.standing_nil (a : Archive)
    (h : ∀ e ∈ a.pages, e.2.isHeld = true → ∀ r, e.2.records.head? = some r → r.intact = false) : a.standing = [] := by
  refine upToNewest_nil fun r hr => ?_
  obtain ⟨e, he, hre⟩ := List.mem_flatMap.1 hr
  obtain ⟨hmem, hheld⟩ := List.mem_filter.1 ((heldPages_perm a.pages).mem_iff.1 he)
  have hfirst := h e hmem hheld
  cases hrec : e.2.records with
  | nil =>
    rw [hrec] at hre
    exact absurd hre (by simp [readable])
  | cons q l =>
    have hq : q.intact = false := hfirst q (by rw [hrec]; rfl)
    rw [hrec, readable, hq] at hre
    obtain rfl : r = q := by simpa using hre
    exact hq

/-! ### The records passed over (R171) -/

theorem takeWhile_gone (a : Archive) {gone rest : List RangeItem} (hg : gone.all (fun i => !a.stillHeld i) = true)
    (hr : ∀ i, rest.head? = some i → a.stillHeld i = true) :
    (gone ++ rest).takeWhile (fun i => !a.stillHeld i) = gone := by
  rw [List.takeWhile_append_of_pos fun i hi => List.all_eq_true.1 hg i hi]
  cases rest with
  | nil => simp
  | cons i rest => simp [hr i rfl]

/-- The records of a range that have left the archive are passed over. -/
theorem Archive.skipGone_eq (a : Archive) (v : Verification) {gone rest : List RangeItem} (hv : v.remaining = gone ++ rest)
    (hg : gone.all (fun i => !a.stillHeld i) = true) (hr : ∀ i, rest.head? = some i → a.stillHeld i = true) :
    a.skipGone v = { v with remaining := rest, passed := v.passed + gone.length } := by
  simp only [Archive.skipGone, hv, takeWhile_gone a hg hr, List.drop_left]

/-! ### VERIFY_ARCHIVE -/

theorem Ports.await_slot (ps : Ports) (p : Port) (g : Owed → Owed) {o : Owed} (h : ps.slot p = some o) :
    (ps.await p g).slot p = some (g o) := by simp [Ports.await, h]

/-- Settles O24: by the range fixed, the record checked next, and the answer at the end. -/
theorem aVerificationChecksItsRange : Obligations.AVerificationChecksItsRange := by
  refine ⟨fun a start count h => ?_, fun a start count items hi => ?_, fun a start count h => ?_,
    fun s p tag f ht count hcount range hrange gone hgone => ?_, fun s p v hv gone rest hsplit hleft => ⟨?_, ?_⟩⟩
  · rw [a.verifyRange_index, a.items_standing start count h]
  · subst hi
    exact ⟨a.items_spec start count, a.verifyRange_index start count⟩
  · have hnil : a.items start count = [] := by
      rw [← List.length_eq_zero_iff, a.items_length, a.standing_nil h]
      rfl
    rw [Archive.verifyRange, hnil, List.zipWith_nil_right]
    rfl
  · have acc : Accepted (.verifyArchive p tag (some f)) s p tag (.verifyArchive (some f)) 36 (s.heard p) := ⟨rfl, rfl, rfl, ht, rfl⟩
    generalize s.heard p = h at acc hrange hgone
    have hop : (h.occupy p 36 tag).verifyArchive p f =
        if range.isEmpty then
          (h.occupy p 36 tag).answer p .ok (.verified { firstBad := none, checked := 0, passed := 0, earlierGone := gone })
        else
          { h.occupy p 36 tag with
            archive :=
              { h.archive with
                verifications := h.archive.verifications.set p
                  (some { remaining := range, checked := 0, passed := 0, earlierGone := gone }) }
            ports := (h.occupy p 36 tag).ports.await p (fun o => { o with waitVerify := true }) } := by
      subst hcount hrange hgone
      rfl
    refine ⟨fun hr => ?_, fun hr => ?_⟩
    · rw [hr] at hop
      exact acc.replies hop
    · rw [if_neg (by simpa using hr)] at hop
      obtain ⟨⟨id, hid⟩, hsame⟩ := taken_occupy h p 36 tag
      have hid' : (h.occupy p 36 tag).ports.slot p = some (Owed.new id 36 tag) := hid
      generalize hu : ({ h.occupy p 36 tag with
        archive :=
          { h.archive with
            verifications := h.archive.verifications.set p
              (some { remaining := range, checked := 0, passed := 0, earlierGone := gone }) }
        ports := (h.occupy p 36 tag).ports.await p (fun o => { o with waitVerify := true }) } : State) = u at hop
      have hslot : u.ports.slot p = some { Owed.new id 36 tag with waitVerify := true } := by
        subst hu
        exact Ports.await_slot _ p _ hid'
      refine ⟨u.settle, by rw [acc.exec_eq, ← hop]; rfl, _, (State.settle_slot u p).trans hslot, rfl, rfl,
        (samePorts_iff _ _ _).2 ?_, SameBlocks.trans (.of_ports (by subst hu; rfl)) (State.settle_sameBlocks u)⟩
      refine Ports.SameBut.trans ?_ (Ports.sameBut_settle u p)
      subst hu
      exact hsame.trans (Ports.sameBut_await _ p _)
  · rintro i more rfl hheld hpass
    have hskip := s.archive.skipGone_eq v hsplit hleft fun j hj => by
      obtain rfl : i = j := by simpa using hj
      exact hheld
    have hstep : s.archive.verifyChecked p = { s.archive with
        verifications := s.archive.verifications.set p
          (some { v with remaining := more, checked := v.checked + 1, passed := v.passed + gone.length }) } := by
      simp only [Archive.verifyChecked, hv, hskip, hpass, if_true]
    refine ⟨_, rfl, ?_, fun q => State.settle_slot _ q⟩
    rw [← hstep]
    exact State.settle_sameBlocks _
  · rintro o ho hans hend
    have hhead : ∀ j, rest.head? = some j → s.archive.stillHeld j = true := fun j hj => by
      rcases hend with h | ⟨i, hi, hheld, -⟩
      · rw [h] at hj
        cases hj
      · obtain rfl : i = j := Option.some.inj (hi.symm.trans hj)
        exact hheld
    have hskip := s.archive.skipGone_eq v hsplit hleft hhead
    have hanswer : s.archive.verifyAnswer p =
        some
          { firstBad := rest.head?.map (·.index), checked := v.checked, passed := v.passed + gone.length
            earlierGone := v.earlierGone } := by
      simp only [Archive.verifyAnswer, hv, hskip]
      cases rest with
      | nil => rfl
      | cons i more =>
        rcases hend with h | ⟨j, hj, -, hbad⟩
        · cases h
        · obtain rfl : i = j := by simpa using hj
          simp [hbad]
    generalize hb : ({ s with archive := { s.archive with verifications := s.archive.verifications.set p none } } : State) = b
    have hstep : s.withWake (s.wake.verificationEnd p) = b.answer p .ok
        (.verified
          { firstBad := rest.head?.map (·.index), checked := v.checked, passed := v.passed + gone.length
            earlierGone := v.earlierGone }) := by
      have hw : s.wake.archive.verifyAnswer p = _ := hanswer
      rw [← hb, Wake.verificationEnd, hw]
      rfl
    have hslot : b.ports.slot p = some o := by
      rw [← hb]
      exact ho
    have hdone := answered_settle b p o .ok
      (.verified
        { firstBad := rest.head?.map (·.index), checked := v.checked, passed := v.passed + gone.length
          earlierGone := v.earlierGone }) hslot hans
    refine ⟨_, congrArg (fun u : State => Host.Outcome.next u.settle) hstep, ?_, answer_sameBlocks b p .ok _⟩
    rw [Answered, BitVec.ofNat_toNat]
    simpa using hdone

end Sys2Proof.Machine
end

section
/-! SUPPORT. READ_GAUGING: the answer from the list, and the read that waits for the end of COMPUTING (R147, R148, R151 to R153, R161,
R165). -/

namespace Sys2Proof.Machine

/-! ### A read that waits, and a read answered -/

/-- A read of the gauging list of an id, with a code and a tag, waits on a port (R153). -/
def Ports.Awaits (ps : Ports) (p : Port) (id : Nat) (code tag : Byte) : Prop :=
  ∃ o, ps.slot p = some o ∧ o.waitGauging = some id ∧ o.answered = false ∧ o.code = code ∧ o.tag = tag

/-- A response stands ready on a port whose request has been answered. -/
def Ports.Told (ps : Ports) (p : Port) (r : Response) : Prop := ps.ReadyOn r p ∧ ∃ o, ps.slot p = some o ∧ o.answered = true

section Ports

variable {ps : Ports} {p q : Port} {id : Nat} {code tag : Byte} {r : Response}

theorem Ports.Told.answers {v : State} (h : v.ports.Told p r) : Answers v.settle r p ∧ ∃ o, v.settle.ports.slot p = some o ∧
    o.answered = true := by
  obtain ⟨hready, o, hslot, hans⟩ := h
  have hhas : v.ports.Has p o (some r) := ⟨hslot, fun x hx => by
    obtain rfl := Option.some.inj hx
    exact hready⟩
  exact ⟨hhas.answers, o, (State.settle_slot v p).trans hslot, hans⟩

theorem Ports.Awaits.answer_other (h : ps.Awaits p id code tag) (hq : q ≠ p) (x : Result) (y : Payload) :
    (ps.answer q x y).Awaits p id code tag := by
  obtain ⟨o, hslot, ho⟩ := h
  exact ⟨o, (Ports.slot_answer_other _ _ _ _ _ hq.symm).trans hslot, ho⟩

theorem Ports.Told.answer (h : ps.Told p r) (q : Port) (x : Result) (y : Payload) : (ps.answer q x y).Told p r := by
  obtain ⟨hready, o, hslot, hans⟩ := h
  by_cases hq : q = p
  · subst hq
    have hsame : ps.answer q x y = ps := by
      unfold Ports.answer
      rw [hslot]
      exact if_pos hans
    rw [hsame]
    exact ⟨hready, o, hslot, hans⟩
  · exact ⟨ps.readyOn_answer_other p q x y r hq hready, o, (Ports.slot_answer_other _ _ _ _ _ (Ne.symm hq)).trans hslot, hans⟩

/-- A read that waits is answered from the list given. -/
theorem Ports.Awaits.answered (h : ps.Awaits p id code tag) (g : Gauging) :
    (ps.answerGauging g p).Told p
      { code := code, tag := tag, result := (g.readAnswer id).1, payload := (g.readAnswer id).2, answers := true } := by
  obtain ⟨o, hslot, hwait, hans, rfl, rfl⟩ := h
  have hanswer : ps.answerGauging g p = ps.answer p (g.readAnswer id).1 (g.readAnswer id).2 := by
    unfold Ports.answerGauging
    rw [hslot]
    simp only [hwait]
  rw [hanswer]
  exact ⟨ps.answer_readyOn p _ _ o hslot hans, _, Ports.slot_answer_same ps p _ _ o hslot hans, rfl⟩

theorem Ports.answerGauging_cases (ps : Ports) (g : Gauging) (q : Port) :
    ps.answerGauging g q = ps ∨ ∃ id, ps.answerGauging g q = ps.answer q (g.readAnswer id).1 (g.readAnswer id).2 := by
  unfold Ports.answerGauging
  split
  · exact .inl rfl
  · split
    · exact .inl rfl
    · exact .inr ⟨_, rfl⟩

theorem Ports.Awaits.answerGauging_other (h : ps.Awaits p id code tag) (g : Gauging) (hq : q ≠ p) :
    (ps.answerGauging g q).Awaits p id code tag := by
  rcases ps.answerGauging_cases g q with hsame | ⟨i, hanswer⟩
  · rw [hsame]
    exact h
  · rw [hanswer]
    exact h.answer_other hq _ _

theorem Ports.Told.answerGauging (h : ps.Told p r) (g : Gauging) (q : Port) : (ps.answerGauging g q).Told p r := by
  rcases ps.answerGauging_cases g q with hsame | ⟨i, hanswer⟩
  · rw [hsame]
    exact h
  · rw [hanswer]
    exact h.answer q _ _

/-- The reads of all ports are answered in turn, that of the port among them. -/
theorem Ports.Awaits.answered_all (h : ps.Awaits p id code tag) (g : Gauging) :
    (((ps.answerGauging g .L).answerGauging g .T).answerGauging g .F).Told p
      { code := code, tag := tag, result := (g.readAnswer id).1, payload := (g.readAnswer id).2, answers := true } := by
  cases p with
  | L => exact ((h.answered g).answerGauging g .T).answerGauging g .F
  | T => exact ((h.answerGauging_other (q := .L) g (by decide)).answered g).answerGauging g .F
  | F => exact ((h.answerGauging_other (q := .L) g (by decide)).answerGauging_other (q := .T) g (by decide)).answered g

theorem Ports.setSlot_readyOn (ps : Ports) (q : Port) (o : Option Owed) (hready : ps.ReadyOn r p) : (ps.setSlot q o).ReadyOn r p := by
  cases p <;> cases q <;> exact hready

/-- A report to a request is a change of what it waits for, and its answer where that was all. -/
theorem Ports.Awaits.report (h : ps.Awaits p id code tag) (q : Port) (n : Nat) {f : Owed → Owed}
    (hf : ∀ o, (f o).waitGauging = o.waitGauging ∧ (f o).answered = o.answered ∧ (f o).code = o.code ∧ (f o).tag = o.tag) :
    (ps.report q n f).Awaits p id code tag := by
  obtain ⟨o, hslot, hwait, hans, hcode, htag⟩ := h
  unfold Ports.report
  split
  · exact ⟨o, hslot, hwait, hans, hcode, htag⟩
  · rename_i x hx
    split
    · by_cases hq : q = p
      · subst hq
        obtain rfl : x = o := Option.some.inj (hx.symm.trans hslot)
        obtain ⟨h1, h2, h3, h4⟩ := hf x
        have hset : (ps.setSlot q (some (f x))).slot q = some (f x) := by simp
        have hopen : (f x).complete = false := by simp [Owed.complete, h1, hwait]
        refine ⟨f x, ?_, h1.trans hwait, h2.trans hans, h3.trans hcode, h4.trans htag⟩
        unfold Ports.resolve
        rw [hset]
        simp only [hopen]
        exact hset
      · have hset : (ps.setSlot q (some (f x))).Awaits p id code tag :=
          ⟨o, by rw [Ports.slot_setSlot, if_neg (Ne.symm hq)]; exact hslot, hwait, hans, hcode, htag⟩
        unfold Ports.resolve
        split
        · exact hset
        · split
          · exact hset.answer_other hq _ _
          · exact hset
    · exact ⟨o, hslot, hwait, hans, hcode, htag⟩

theorem Ports.Told.report (h : ps.Told p r) (q : Port) (n : Nat) (f : Owed → Owed) : (ps.report q n f).Told p r := by
  obtain ⟨hready, o, hslot, hans⟩ := h
  unfold Ports.report
  split
  · exact ⟨hready, o, hslot, hans⟩
  · rename_i x hx
    split
    · rename_i hid
      have hq : q ≠ p := by
        rintro rfl
        obtain rfl : x = o := Option.some.inj (hx.symm.trans hslot)
        simp [hans] at hid
      have hset : (ps.setSlot q (some (f x))).Told p r :=
        ⟨ps.setSlot_readyOn q _ hready, o, by rw [Ports.slot_setSlot, if_neg (Ne.symm hq)]; exact hslot, hans⟩
      unfold Ports.resolve
      split
      · exact hset
      · split
        · exact hset.answer q _ _
        · exact hset
    · exact ⟨hready, o, hslot, hans⟩

theorem Ports.Awaits.notice {w : Wake} (h : w.ports.Awaits p id code tag) (t : Nat) (b : NoticeBody) :
    (w.notice t b).ports.Awaits p id code tag := by
  obtain ⟨o, hslot, ho⟩ := h
  exact ⟨o, (w.notice_slot t b p).trans hslot, ho⟩

theorem Ports.Told.notice {w : Wake} (h : w.ports.Told p r) (t : Nat) (b : NoticeBody) : (w.notice t b).ports.Told p r := by
  obtain ⟨hready, o, hslot, hans⟩ := h
  have hhas : w.ports.Has p o (some r) := ⟨hslot, fun x hx => by
    obtain rfl := Option.some.inj hx
    exact hready⟩
  have hnext := hhas.notice t b
  exact ⟨hnext.ready r rfl, o, hnext.slot, hans⟩

end Ports

/-! ### The end of COMPUTING (R147, R148) -/

/-- COMPUTING is over with a list, and the read of a port answered. -/
structure Wake.Ended (w : Wake) (g : Gauging) (p : Port) (r : Response) : Prop where
  gauging : w.gauging = g
  told : w.ports.Told p r

section Wake

variable {w : Wake} {g : Gauging} {p : Port} {id : Nat} {code tag : Byte} {r : Response}

theorem Wake.Ended.of_eq {v : Wake} (h : w.Ended g p r) (hg : v.gauging = w.gauging) (hp : v.ports = w.ports) : v.Ended g p r :=
  ⟨hg.trans h.gauging, hp ▸ h.told⟩

/-- What is told of a record that nobody waits for any longer. -/
theorem Wake.Ended.reportDropped (h : w.Ended g p r) (hg : g.computing = none) (o : Owner) : (w.reportDropped o).Ended g p r := by
  cases o with
  | nobody => exact h
  | gauging =>
    have hrest : w.reportDropped .gauging = w := by
      show w.computingEnd none true = w
      unfold Wake.computingEnd
      rw [h.gauging, hg]
    rw [hrest]
    exact h
  | request q n => exact ⟨h.gauging, h.told.report q n _⟩

theorem Wake.Ended.dropAll (h : w.Ended g p r) (hg : g.computing = none) (l : List QueuedRecord) : (w.dropAll l).Ended g p r := by
  induction l generalizing w with
  | nil => exact h
  | cons q l ih => exact ih (h.reportDropped hg q.owner)

theorem Wake.Ended.freshState (h : w.Ended g p r) (hg : g.computing = none) : w.freshState.Ended g p r := by
  unfold Wake.freshState
  simp only
  split
  · exact h
  · have hnotice : (({ w with archive := { w.archive with state := w.archive.freshState } } : Wake).notice w.time
        (.archive w.archive.freshState w.archive.retired w.archive.healthy)).Ended g p r :=
      ⟨h.gauging, Ports.Told.notice (w := { w with archive := { w.archive with state := w.archive.freshState } }) h.told _ _⟩
    split
    · refine Wake.Ended.dropAll ?_ hg _
      exact ⟨hnotice.gauging, hnotice.told⟩
    · exact hnotice

theorem Wake.Ended.reportEntered (h : w.Ended g p r) (o : Owner) : (w.reportEntered o).Ended g p r := by
  cases o with
  | nobody => exact h
  | gauging => exact h
  | request q n => exact ⟨h.gauging, h.told.report q n _⟩

theorem Wake.Ended.takeWaiting (h : w.Ended g p r) : w.takeWaiting.Ended g p r := by
  unfold Wake.takeWaiting
  split
  · exact h
  · split
    · refine Wake.Ended.reportEntered ?_ _
      exact ⟨h.gauging, h.told⟩
    · exact h

theorem Wake.Ended.gap (h : w.Ended g p r) : w.gap.Ended g p r := by
  unfold Wake.gap
  simp only
  split
  · exact h.of_eq rfl rfl
  · exact h

theorem Wake.Ended.kick (h : w.Ended g p r) : w.kick.Ended g p r := h.of_eq w.kick_gauging w.kick_ports

/-- The gauging unit at the end of COMPUTING (R147, R151). -/
def Gauging.atEnd (g : Gauging) (c : GaugingRecord) (index : Option Nat) (na : Bool) : Gauging :=
  { g with
    computing := none
    list := g.list.drop (g.list.length - 7) ++ [{ record := { c with flags := { c.flags with notArchived := na } }, index := index }]
    result := .ready }

/-- The response of a read to a list. -/
def Gauging.response (g : Gauging) (id : Nat) (code tag : Byte) : Response :=
  { code := code, tag := tag, result := (g.readAnswer id).1, payload := (g.readAnswer id).2, answers := true }

theorem addGauging_eq (l : List GaugingEntry) (e : GaugingEntry) : addGauging l e = l.drop (l.length - 7) ++ [e] := by
  unfold addGauging
  split
  · rfl
  · rw [show l.length - 7 = 0 by omega]
    rfl

theorem Wake.computingEnd_ends {c : GaugingRecord} (hc : w.gauging.computing = some c) (h : w.ports.Awaits p id code tag)
    (index : Option Nat) (na : Bool) :
    (w.computingEnd index na).Ended (w.gauging.atEnd c index na) p ((w.gauging.atEnd c index na).response id code tag) := by
  have hg : ({ w.gauging with
      computing := none
      list := addGauging w.gauging.list { record := { c with flags := { c.flags with notArchived := na } }, index := index }
      result := .ready } : Gauging) = w.gauging.atEnd c index na := by
    rw [addGauging_eq]
    rfl
  unfold Wake.computingEnd
  simp only [hc, hg]
  exact ⟨rfl, (Ports.Awaits.notice (w := { w with gauging := w.gauging.atEnd c index na }) h _ _).answered_all _⟩

/-- Of the records dropped, that of the gauging unit ends COMPUTING. -/
theorem Wake.dropAll_ends {c : GaugingRecord} (l : List QueuedRecord) (hg : w.gauging = g) (hc : g.computing = some c)
    (h : w.ports.Awaits p id code tag) (hl : ∃ q ∈ l, q.owner = .gauging) :
    (w.dropAll l).Ended (g.atEnd c none true) p ((g.atEnd c none true).response id code tag) := by
  induction l generalizing w with
  | nil => simp at hl
  | cons q l ih =>
    rw [Wake.dropAll]
    cases ho : q.owner with
    | gauging =>
      refine Wake.Ended.dropAll ?_ rfl l
      subst hg
      exact Wake.computingEnd_ends hc h none true
    | nobody =>
      refine ih hg h ?_
      obtain ⟨x, hx, hxo⟩ := hl
      rcases List.mem_cons.1 hx with rfl | hx
      · rw [ho] at hxo
        cases hxo
      · exact ⟨x, hx, hxo⟩
    | request q' n =>
      refine ih hg (h.report q' n fun o => ⟨rfl, rfl, rfl, rfl⟩) ?_
      obtain ⟨x, hx, hxo⟩ := hl
      rcases List.mem_cons.1 hx with rfl | hx
      · rw [ho] at hxo
        cases hxo
      · exact ⟨x, hx, hxo⟩

/-- The archive's failure ends COMPUTING where the gauging unit's record was queued or waiting (R165). -/
theorem Wake.freshState_ends {c : GaugingRecord} (hg : w.gauging = g) (hc : g.computing = some c)
    (h : w.ports.Awaits p id code tag) (hl : ∃ q ∈ w.archive.queue ++ w.archive.waiting, q.owner = .gauging)
    (hlive : w.archive.state.isFailed = false) (hfailed : w.freshState.archive.state.isFailed = true) :
    w.freshState.Ended (g.atEnd c none true) p ((g.atEnd c none true).response id code tag) := by
  unfold Wake.freshState at hfailed ⊢
  simp only at hfailed ⊢
  split at hfailed
  · rw [hlive] at hfailed
    cases hfailed
  · rename_i hne
    rw [if_neg hne]
    split at hfailed
    · rename_i hf
      rw [if_pos hf]
      exact Wake.dropAll_ends _ hg hc
        (Ports.Awaits.notice (w := { w with archive := { w.archive with state := w.archive.freshState } }) h _ _) hl
    · rename_i hf
      rw [Wake.notice_archive] at hfailed
      exact absurd hfailed hf

end Wake

/-! ### READ_GAUGING (R152, R153) -/

/-- The answer of a read, by the entry found. -/
theorem Gauging.readAnswer_some {g : Gauging} {id : Nat} {e : GaugingEntry} (h : g.find id = some e) :
    g.readAnswer id = (.ok, .gauging e) := by
  rw [Gauging.readAnswer, h]

theorem Gauging.readAnswer_none {g : Gauging} {id : Nat} (h : g.find id = none) : g.readAnswer id = (.notFound, .empty) := by
  rw [Gauging.readAnswer, h]

/-- A command after which COMPUTING has ended: the read is answered by the entry that the list has for it. -/
theorem Wake.Ended.answered {s : State} {v : Wake} {g : Gauging} {p : Port} {id : Nat} {code tag : Byte}
    (h : v.Ended g p (g.response id code tag)) :
    (s.withWake v).settle.gauging = g ∧
      (∀ e, g.find id = some e → Answered (s.withWake v).settle p code.toNat tag .ok (.gauging e)) ∧
      (g.find id = none → Answered (s.withWake v).settle p code.toNat tag .notFound .empty) := by
  obtain ⟨hanswers, hslot⟩ := Ports.Told.answers (v := s.withWake v) h.told
  refine ⟨h.gauging, fun e he => ⟨?_, hslot⟩, fun he => ⟨?_, hslot⟩⟩
  · rw [Gauging.response, Gauging.readAnswer_some he] at hanswers
    rw [BitVec.ofNat_toNat]
    simpa using hanswers
  · rw [Gauging.response, Gauging.readAnswer_none he] at hanswers
    rw [BitVec.ofNat_toNat]
    simpa using hanswers

/-- A failure of an operation retires its page, unless it was the retired mark that failed. -/
theorem Wake.failure_retires (w : Wake) (left : Remnant) (n : Nat) :
    ((w.archive.op = .record n ∨ w.archive.op = .closedMark n ∨ ∃ v, w.archive.op = .header n v) →
      ∃ page, w.programFailure left = w.retire n page) ∧
    (w.archive.op = .erase n → ∃ page, w.eraseFailure left = w.retire n page) := by
  refine ⟨?_, fun h => ?_⟩
  · rintro (h | h | ⟨v, h⟩)
    · simp only [Wake.programFailure, h]
      split
      · exact ⟨_, rfl⟩
      · exact ⟨_, rfl⟩
      · exact ⟨_, rfl⟩
    · simp only [Wake.programFailure, h]
      exact ⟨_, rfl⟩
    · simp only [Wake.programFailure, h]
      exact ⟨_, rfl⟩
  · simp only [Wake.eraseFailure, h]
    exact ⟨_, rfl⟩

/-- Settles O23: by the end of COMPUTING at a durable and at a dropped record, and by the list for a read at any other time. -/
theorem readGaugingAnswersFromTheList : Obligations.ReadGaugingAnswersFromTheList := by
  refine ⟨fun s p id o hslot hwait hans g hg na index list hlist found hfound ends hends => ?_, fun s p tag id ht => ?_⟩
  · have hatEnd : s.gauging.atEnd g index na = { s.gauging with computing := none, list := list, result := .ready } := by
      rw [hlist]
      rfl
    have hfind : (s.gauging.atEnd g index na).find id = found := by
      rw [hatEnd, hfound]
      rfl
    have hawaits : s.wake.ports.Awaits p id o.code o.tag := ⟨o, hslot, hwait, hans, rfl, rfl⟩
    have hdone : ∀ v : Wake, v.Ended (s.gauging.atEnd g index na) p ((s.gauging.atEnd g index na).response id o.code o.tag) →
        ends (s.withWake v).settle := fun v hv => by
      rw [hends, ← hatEnd, ← hfind]
      exact hv.answered
    refine ⟨?_, ?_⟩
    · rintro n hop q hq howner hi hna
      obtain ⟨rest, hrest⟩ := List.head?_eq_some_iff.1 hq
      generalize hw : ({ s.wake with
        archive :=
          ({ s.wake.archive.setPage n ((pageAt s.wake.archive.pages n).append q true) with
            op := .idle, queue := rest } : Archive).noteIndex q } : Wake) = w
      have hstep : s.wake.recordProgrammed = ((w.computingEnd index na).freshState.takeWaiting.gap).kick := by
        have hop' : s.wake.archive.op = .record n := hop
        have hrest' : s.wake.archive.queue = q :: rest := hrest
        simp only [Wake.recordProgrammed, hop', hrest', Wake.reportDurable, howner, hi, hna, ← hw]
      have hended := Wake.computingEnd_ends (w := w) (c := g) (by rw [← hw]; exact hg) (by rw [← hw]; exact hawaits) index na
      have hwg : w.gauging = s.gauging := by
        rw [← hw]
        rfl
      rw [hwg] at hended
      refine ⟨_, rfl, hdone s.wake.recordProgrammed ?_⟩
      rw [hstep]
      exact (hended.freshState rfl).takeWaiting.gap.kick
    · rintro i left n hcase hlive hl hi hna
      subst hi hna
      have hretired : ∃ page, exec i s = .next (s.withWake (s.wake.retire n page)).settle := by
        rcases hcase with ⟨rfl, hop⟩ | ⟨rfl, hop⟩
        · obtain ⟨page, hpage⟩ := (s.wake.failure_retires left n).1 hop
          exact ⟨page, by rw [← hpage]; rfl⟩
        · obtain ⟨page, hpage⟩ := (s.wake.failure_retires left n).2 hop
          exact ⟨page, by rw [← hpage]; rfl⟩
      obtain ⟨page, hexec⟩ := hretired
      refine ⟨_, hexec, fun hf => hdone _ ?_⟩
      exact Wake.freshState_ends (w := { s.wake with
        archive := { s.wake.archive.setPage n { page with status := .retired } with op := .retiredMark n } }) rfl hg hawaits hl hlive hf
  · have acc : Accepted (.readGauging p tag (some id)) s p tag (.readGauging (some id)) 20 (s.heard p) := ⟨rfl, rfl, rfl, ht, rfl⟩
    obtain ⟨-, -, -, -, -, -, hgauging, -⟩ := s.heard_frame p
    rw [← hgauging]
    generalize s.heard p = h at acc
    refine ⟨fun hr e he => ?_, fun hr he => ?_, fun hr => ?_⟩
    · have hop : ∀ b : State, b.gauging = h.gauging → b.readGauging p id = b.answer p .ok (.gauging e) := fun b hb => by
        rw [State.readGauging, hb, if_neg hr, Gauging.readAnswer_some he]
      exact acc.replies (hop (h.occupy p 20 tag) rfl)
    · have hop : ∀ b : State, b.gauging = h.gauging → b.readGauging p id = b.reply p .notFound := fun b hb => by
        rw [State.readGauging, hb, if_neg hr, Gauging.readAnswer_none he]
        rfl
      exact acc.replies (hop (h.occupy p 20 tag) rfl)
    · obtain ⟨⟨n, hn⟩, hsame⟩ := taken_occupy h p 20 tag
      generalize hu : ({ h.occupy p 20 tag with
        ports := (h.occupy p 20 tag).ports.await p (fun o => { o with waitGauging := some id }) } : State) = u
      have hexec : exec (.readGauging p tag (some id)) s = .next u.settle := by
        rw [acc.exec_eq, ← hu]
        exact congrArg (fun y : State => Host.Outcome.next y.settle) (if_pos hr)
      have hslot : u.ports.slot p = some { Owed.new n 20 tag with waitGauging := some id } := by
        subst hu
        exact Ports.await_slot _ p _ hn
      refine ⟨_, hexec, _, (State.settle_slot u p).trans hslot, rfl, rfl,
        SameBlocks.trans (.of_ports (by subst hu; rfl)) (State.settle_sameBlocks u), (samePorts_iff _ _ _).2 ?_⟩
      refine Ports.SameBut.trans ?_ (Ports.sameBut_settle u p)
      subst hu
      exact hsame.trans (Ports.sameBut_await _ p _)

end Sys2Proof.Machine
end

section
/-! SUPPORT. A report to a request that waits, and SETTINGS_WRITE_COMPLETE and READ_BACK_FAILED (R54, R65, R81, R165, R178, R194,
R195). -/

namespace Sys2Proof.Machine

/-! ### A report to a request -/

section

variable {ps : Ports} {p : Port} {n : Nat} {o : Owed}

/-- A report that reaches its request changes what the request waits for, and answers it where that was all. -/
theorem Ports.report_eq (f : Owed → Owed) (h : ps.slot p = some o) (hid : o.id = n) (hans : o.answered = false) :
    ps.report p n f = (ps.setSlot p (some (f o))).resolve p := by
  unfold Ports.report
  rw [h]
  simp [hid, hans]

/-- A report leaves the request in its slot, changed as it says. -/
theorem Ports.report_slot (f : Owed → Owed) (h : ps.slot p = some o) (hid : o.id = n) (hans : o.answered = false)
    (hf : (f o).answered = false) :
    ∃ o', (ps.report p n f).slot p = some o' ∧ { o' with answered := false } = f o := by
  have hset : (ps.setSlot p (some (f o))).slot p = some (f o) := by simp
  rw [Ports.report_eq f h hid hans, Ports.resolve, hset]
  simp only
  split
  · refine ⟨_, Ports.slot_answer_same _ p _ _ _ hset hf, ?_⟩
    rw [← hf]
  · refine ⟨_, hset, ?_⟩
    rw [← hf]

/-- A report after which the request waits for nothing answers it. -/
theorem Ports.report_told (f : Owed → Owed) (h : ps.slot p = some o) (hid : o.id = n) (hans : o.answered = false)
    (hf : (f o).answered = false) (hdone : (f o).complete = true) :
    (ps.report p n f).Told p
      { code := (f o).code, tag := (f o).tag, result := (f o).result, payload := (f o).resultPayload, answers := true } := by
  have hset : (ps.setSlot p (some (f o))).slot p = some (f o) := by simp
  rw [Ports.report_eq f h hid hans, Ports.resolve, hset]
  simp only [hdone, if_true]
  exact ⟨Ports.answer_readyOn _ p _ _ _ hset hf, _, Ports.slot_answer_same _ p _ _ _ hset hf, rfl⟩

/-- A report to a port leaves the slots of the others. -/
theorem Ports.report_other (ps : Ports) (p : Port) (n : Nat) (f : Owed → Owed) {q : Port} (hq : q ≠ p) :
    (ps.report p n f).slot q = ps.slot q := (ps.sameBut_report p n f).slots q hq

end

/-- A response that stands ready on a port is the answer of the command. -/
theorem Ports.Told.answered {v : State} {p : Port} {code tag : Byte} {x : Result} {a : Payload}
    (h : v.ports.Told p { code := code, tag := tag, result := x, payload := a, answers := true }) :
    Answered v.settle p code.toNat tag x a := by
  have hanswered := h.answers
  rwa [Answered, BitVec.ofNat_toNat, BitVec.setWidth_eq]

/-! ### The settings store's reports -/

section

variable {s : State} {w : PendingWrite}

/-- The state when the first write in the queue has been read back and passes. -/
theorem State.writeComplete_cons {rest : List PendingWrite} (h : s.store.queue = w :: rest) :
    s.writeComplete =
      { s with
        store :=
          { medium := s.store.medium.put w.data true, queue := rest
            defaulted := s.store.defaulted.filter (fun i => i ≠ w.data.item) }
        ports := s.ports.report w.port w.request (fun o => { o with waitWrite := false }) } := by
  rw [State.writeComplete, h]

theorem State.readBackFailed_again {rest : List PendingWrite} (h : s.store.queue = w :: rest) (hf : w.failures + 1 < 8) :
    s.readBackFailed = { s with store := { s.store with queue := { w with failures := w.failures + 1 } :: rest } } := by
  rw [State.readBackFailed, h]
  exact if_pos hf

theorem State.readBackFailed_last {rest : List PendingWrite} (h : s.store.queue = w :: rest) (hf : 8 ≤ w.failures + 1) :
    s.readBackFailed =
      { s with
        store := { s.store with medium := s.store.medium.put w.data false, queue := rest }
        ports := s.ports.report w.port w.request (fun o => { o with waitWrite := false, unfinished := true }) } := by
  rw [State.readBackFailed, h]
  exact if_neg (by omega)

end

/-- Settles O59: by the report to the request whose write ended. -/
theorem settingsWritesEnd : Obligations.SettingsWritesEnd := by
  intro s w hw rest hrest
  have hqueue : s.store.queue = w :: rest := by
    obtain ⟨l, hl⟩ := List.head?_eq_some_iff.1 hw
    rw [hrest, hl]
    rfl
  have hother : ∀ f q, q ≠ w.port → (s.ports.report w.port w.request f).slot q = s.ports.slot q := fun f q hq =>
    s.ports.report_other _ _ f hq
  refine ⟨⟨s.writeComplete.settle, rfl, fun q hq => ?_, ?_, fun o ho hid hans hrec hg hv hu => ?_⟩, fun hf => ?_,
    fun hf => ⟨s.readBackFailed.settle, rfl, fun q hq => ?_, ?_, fun o ho hid hans hrec hg hv => ?_⟩⟩
  · rw [State.settle_slot, State.writeComplete_cons hqueue]
    exact hother _ q hq
  · rw [State.writeComplete_cons hqueue]
    exact SameBlocks.trans (.of_ports rfl) (State.settle_sameBlocks _)
  · have htold := Ports.report_told (fun o : Owed => { o with waitWrite := false }) ho hid hans hans
      (by simp [Owed.complete, hrec, hg, hv])
    have hresult : ({ o with waitWrite := false } : Owed).result = if o.dropped && o.strict then .archiveFailed else .ok := by
      simp [Owed.result, hu]
    have hpayload : ({ o with waitWrite := false } : Owed).resultPayload = o.payload := by
      simp [Owed.resultPayload, hu]
    rw [hresult, hpayload] at htold
    rw [State.writeComplete_cons hqueue]
    exact Ports.Told.answered htold
  · refine event_ends (u := s.readBackFailed) rfl (State.readBackFailed_again hqueue hf) rfl (.of_ports rfl)
  · rw [State.settle_slot, State.readBackFailed_last hqueue hf]
    exact hother _ q hq
  · rw [State.readBackFailed_last hqueue hf]
    exact SameBlocks.trans (.of_ports rfl) (State.settle_sameBlocks _)
  · have htold := Ports.report_told (fun o : Owed => { o with waitWrite := false, unfinished := true }) ho hid hans hans
      (by simp [Owed.complete, hrec, hg, hv])
    rw [State.readBackFailed_last hqueue hf]
    exact Ports.Told.answered htold

end Sys2Proof.Machine
end

section
/-! SUPPORT. The OPEN page and the number of RETIRED pages after a page is stored, the archive state taken afresh, and how the archive
goes on after a page has been dealt with (R157, R162 to R165). -/

namespace Sys2Proof.Machine

/-! ### The OPEN page (R157) -/

theorem pageAt_below {l : List (Nat × Page)} {b n : Nat} (h : pagesFrom b l) (hn : n < b) : pageAt l n = Page.blank := by
  induction l generalizing b with
  | nil => rfl
  | cons e l ih =>
    obtain ⟨hb, -, -, hl⟩ := h
    rw [pageAt, if_neg (by omega)]
    exact ih hl (by omega)

/-- The first OPEN page in the list is the one of the smallest number. -/
theorem find_opened_iff {l : List (Nat × Page)} {b : Nat} (h : pagesFrom b l) (n : Nat) :
    (l.find? (fun e => e.2.status = .opened)).map (·.1) = some n ↔
      (pageAt l n).status = .opened ∧ ∀ k, k < n → (pageAt l k).status ≠ .opened := by
  induction l generalizing b with
  | nil => simp [pageAt, Page.blank]
  | cons e l ih =>
    obtain ⟨j, p⟩ := e
    obtain ⟨-, -, -, hl⟩ := h
    have hbelow : ∀ k, k < j + 1 → (pageAt l k).status ≠ .opened := fun k hk => by
      rw [pageAt_below hl hk]
      exact nofun
    by_cases hp : p.status = .opened
    · rw [List.find?_cons_of_pos (by simpa using hp), Option.map_some, Option.some.injEq]
      constructor
      · rintro rfl
        refine ⟨by simpa [pageAt] using hp, fun k hk => ?_⟩
        rw [pageAt, if_neg (by omega)]
        exact hbelow k (by omega)
      · rintro ⟨hn, hlt⟩
        rcases Nat.lt_trichotomy j n with hjn | hjn | hjn
        · exact absurd (by simpa [pageAt] using hp) (hlt j hjn)
        · exact hjn
        · rw [pageAt, if_neg (by omega)] at hn
          exact absurd hn (hbelow n (by omega))
    · have hcons : ∀ m, (pageAt ((j, p) :: l) m).status = .opened ↔ (pageAt l m).status = .opened := fun m => by
        by_cases hm : j = m
        · subst hm
          rw [pageAt, if_pos rfl]
          exact iff_of_false hp (hbelow j (by omega))
        · rw [pageAt, if_neg hm]
      rw [List.find?_cons_of_neg (by simpa using hp), ih hl]
      simp only [ne_eq, hcons]

section

variable {a : Archive} {n : Nat} {p : Page}

theorem Archive.openPage_eq_some (h : pagesWf a.pages = true) (n : Nat) :
    a.openPage = some n ↔ (pageAt a.pages n).status = .opened ∧ ∀ k, k < n → (pageAt a.pages k).status ≠ .opened :=
  find_opened_iff ((pagesWf_iff _).1 h) n

theorem Archive.openPage_eq_none (h : pagesWf a.pages = true) :
    a.openPage = none ↔ ∀ k, (pageAt a.pages k).status ≠ .opened := by
  constructor
  · intro hnone k hk
    have hex : ∃ k, (pageAt a.pages k).status = .opened := ⟨k, hk⟩
    classical
    have hsome := (a.openPage_eq_some h (Nat.find hex)).2 ⟨Nat.find_spec hex, fun j hj => Nat.find_min hex hj⟩
    rw [hnone] at hsome
    cases hsome
  · intro hall
    rw [Option.eq_none_iff_forall_ne_some]
    intro m hm
    exact hall m ((a.openPage_eq_some h m).1 hm).1

/-- A page stored that is not OPEN leaves the OPEN page, unless it takes its place. -/
theorem Archive.openPage_setPage_other (h : pagesWf a.pages = true) (hwf : pagesWf (a.setPage n p).pages = true)
    (hp : p.status ≠ .opened) (ho : a.openPage ≠ some n) : (a.setPage n p).openPage = a.openPage := by
  have hopened : ∀ k, (pageAt (a.setPage n p).pages k).status = .opened ↔ k ≠ n ∧ (pageAt a.pages k).status = .opened := fun k => by
    show (pageAt (Machine.setPage a.pages n p) k).status = .opened ↔ _
    rw [pageAt_setPage n k p h]
    by_cases hk : k = n
    · simp [hk, hp]
    · simp [hk]
  refine Option.ext fun m => ?_
  show (a.setPage n p).openPage = some m ↔ a.openPage = some m
  rw [Archive.openPage_eq_some hwf m]
  simp only [ne_eq, hopened]
  constructor
  · rintro ⟨⟨-, hopen⟩, hlt⟩
    refine (a.openPage_eq_some h m).2 ⟨hopen, fun k hk hko => ?_⟩
    by_cases hkn : k = n
    · subst hkn
      exact ho ((a.openPage_eq_some h k).2 ⟨hko, fun j hj hjo => hlt j (by omega) ⟨by omega, hjo⟩⟩)
    · exact hlt k hk ⟨hkn, hko⟩
  · intro hm
    obtain ⟨hopen, hlt⟩ := (a.openPage_eq_some h m).1 hm
    refine ⟨⟨fun he => ho (by rw [hm, he]), hopen⟩, fun k hk hko => hlt k hk hko.2⟩

/-- An OPEN page stored where no other page is OPEN is the OPEN page. -/
theorem Archive.openPage_setPage_same (h : pagesWf a.pages = true) (hn : n < pageCount) (hp : p.status = .opened)
    (ho : a.openPage = none ∨ a.openPage = some n) : (a.setPage n p).openPage = some n := by
  have hwf : pagesWf (a.setPage n p).pages = true := pagesWf_setPage n p hn h
  refine (Archive.openPage_eq_some hwf n).2 ⟨?_, fun k hk => ?_⟩
  · show (pageAt (Machine.setPage a.pages n p) n).status = .opened
    rw [pageAt_setPage n n p h, if_pos rfl]
    exact hp
  · show (pageAt (Machine.setPage a.pages n p) k).status ≠ .opened
    rw [pageAt_setPage n k p h, if_neg (by omega)]
    rcases ho with ho | ho
    · exact (Archive.openPage_eq_none h).1 ho k
    · exact ((a.openPage_eq_some h n).1 ho).2 k hk

/-- The OPEN page is OPEN. -/
theorem Archive.openPage_status (h : pagesWf a.pages = true) (ho : a.openPage = some n) :
    (pageAt a.pages n).status = .opened := ((a.openPage_eq_some h n).1 ho).1

/-! ### RETIRED pages (R157, R164) -/

/-- A page that takes another's place counts as RETIRED in its stead. -/
theorem retired_putPage {l : List (Nat × Page)} {b : Nat} (h : pagesFrom b l) (n : Nat) (p : Page) :
    ((putPage l n p).filter (fun e => e.2.status = .retired)).length + (if (pageAt l n).status = .retired then 1 else 0) =
      (l.filter (fun e => e.2.status = .retired)).length + if p.status = .retired then 1 else 0 := by
  have hcount : ∀ (j : Nat) (q : Page) (l : List (Nat × Page)),
      (((j, q) :: l).filter (fun e => e.2.status = .retired)).length =
        (l.filter (fun e => e.2.status = .retired)).length + if q.status = .retired then 1 else 0 := fun j q l => by
    by_cases hq : q.status = .retired <;> simp [hq]
  induction l generalizing b with
  | nil => rw [putPage, hcount, pageAt, if_neg (show Page.blank.status ≠ .retired from nofun), Nat.add_zero]
  | cons e l ih =>
    obtain ⟨j, q⟩ := e
    obtain ⟨-, -, -, hl⟩ := h
    rcases Nat.lt_trichotomy n j with hjn | rfl | hjn
    · have hblank : (pageAt ((j, q) :: l) n).status ≠ .retired := by
        rw [pageAt, if_neg (by omega), pageAt_below hl (by omega)]
        exact nofun
      rw [putPage, if_pos hjn, if_neg hblank, hcount, Nat.add_zero]
    · have hat : pageAt ((n, q) :: l) n = q := by rw [pageAt, if_pos rfl]
      rw [putPage, if_neg (Nat.lt_irrefl _), if_pos rfl, hcount, hcount, hat]
      omega
    · have hput : putPage ((j, q) :: l) n p = (j, q) :: putPage l n p := by rw [putPage, if_neg (by omega), if_neg (by omega)]
      have hat : pageAt ((j, q) :: l) n = pageAt l n := by rw [pageAt, if_neg (by omega)]
      have hih := ih hl
      rw [hput, hat, hcount, hcount]
      omega

/-- A page that is retired counts once. -/
theorem Archive.retired_setPage (h : pagesWf a.pages = true) (hp : p.status = .retired) :
    (a.setPage n p).retired = a.retired + if (pageAt a.pages n).status = .retired then 0 else 1 := by
  have hblank : p ≠ Page.blank := fun he => by
    rw [he] at hp
    cases hp
  have hput := retired_putPage ((pagesWf_iff _).1 h) n p
  rw [if_pos hp] at hput
  show ((Machine.setPage a.pages n p).filter _).length = (a.pages.filter _).length + _
  rw [Machine.setPage, if_neg hblank]
  split at hput
  · rename_i hr
    rw [if_pos hr]
    omega
  · rename_i hr
    rw [if_neg hr]
    omega

/-- A page that keeps its status keeps the count. -/
theorem Archive.retired_setPage_status (h : pagesWf a.pages = true) (hblank : p ≠ Page.blank)
    (hp : p.status = (pageAt a.pages n).status) : (a.setPage n p).retired = a.retired := by
  have hput := retired_putPage ((pagesWf_iff _).1 h) n p
  rw [hp] at hput
  show ((Machine.setPage a.pages n p).filter _).length = (a.pages.filter _).length
  rw [Machine.setPage, if_neg hblank]
  omega

/-- The archive state that the counts give an archive that is not FAILED, before its last index is used (R164). -/
theorem Archive.freshState_iff (hf : a.state.isFailed = false) (hi : a.indexEnd = false) :
    (a.freshState = .failed .pages ↔ a.healthy < 2) ∧ (a.freshState = .degraded ↔ 2 ≤ a.healthy ∧ 16 ≤ a.retired) ∧
      (a.freshState = .normal ↔ 2 ≤ a.healthy ∧ a.retired < 16) := by
  have hfresh : a.freshState = if a.healthy < 2 then .failed .pages else if 16 ≤ a.retired then .degraded else .normal := by
    simp [Archive.freshState, hf, hi]
  rw [hfresh]
  split
  · simp
    omega
  · split
    · simp
      omega
    · simp
      omega

/-- Before its last index is used an archive fails by its pages alone. -/
theorem Archive.freshState_cause (hf : a.state.isFailed = false) (hi : a.indexEnd = false) (h : a.freshState.isFailed = true) :
    a.freshState = .failed .pages := by
  have hfresh : a.freshState = if a.healthy < 2 then .failed .pages else if 16 ≤ a.retired then .degraded else .normal := by
    simp [Archive.freshState, hf, hi]
  rw [hfresh] at h ⊢
  split at h
  · rename_i hlt
    rw [if_pos hlt]
  · split at h <;> cases h

theorem Archive.freshState_failed (hf : a.state.isFailed = true) : a.freshState = a.state := by
  rw [Archive.freshState, if_pos hf]

/-- An archive that is not FAILED, its state as the counts give it, has not used its last index. -/
theorem Archive.indexEnd_of_fresh (hf : a.state.isFailed = false) (h : a.freshState = a.state) : a.indexEnd = false := by
  cases hi : a.indexEnd with
  | false => rfl
  | true =>
    have hfresh : a.freshState = .failed .indexEnd := by simp [Archive.freshState, hf, hi]
    rw [← h, hfresh] at hf
    cases hf

end

/-! ### What is dropped when the archive fails (R165) -/

@[simp] theorem Wake.computingEnd_archive (w : Wake) (index : Option Nat) (b : Bool) :
    (w.computingEnd index b).archive = w.archive := by
  unfold Wake.computingEnd
  split <;> rfl

@[simp] theorem Wake.reportDropped_archive (w : Wake) (o : Owner) : (w.reportDropped o).archive = w.archive := by
  cases o with
  | nobody => rfl
  | gauging => exact w.computingEnd_archive none true
  | request p id => rfl

@[simp] theorem Wake.dropAll_archive (w : Wake) (l : List QueuedRecord) : (w.dropAll l).archive = w.archive := by
  induction l generalizing w with
  | nil => rfl
  | cons q l ih => rw [Wake.dropAll, ih, Wake.reportDropped_archive]

/-- The notices held, by their times and bodies. -/
def Wake.noted (w : Wake) : List (Nat × NoticeBody) := w.notices.held.map (fun n => (n.time, n.body))

/-- A notice that is not a LEVEL notice joins the others where it finds room, and is dropped else. -/
theorem NoticeQueue.hand_held (q : NoticeQueue) (time : Nat) (b : NoticeBody) (hb : noticeKind b ≠ 1) :
    (q.hand time b).1.held =
      q.held ++ if q.held.length < noticeCapacity then [{ time := time, body := b, inTransmission := false }] else [] := by
  have hl : ({ time := time, body := b, inTransmission := false } : Notice).isLevel = false := by simpa [Notice.isLevel] using hb
  unfold NoticeQueue.hand
  simp only [hl, Bool.false_and, Bool.false_eq_true, if_false]
  split <;> simp

theorem Wake.reportDropped_noted (w : Wake) (o : Owner) : w.noted <+: (w.reportDropped o).noted := by
  cases o with
  | nobody => exact List.prefix_refl _
  | request p id => exact List.prefix_refl _
  | gauging =>
    rcases w.computingEnd_noted none true with hsame | ⟨body, hb, hn⟩
    · show w.noted <+: (w.computingEnd none true).noted
      rw [hsame]
    · show w.noted <+: (w.computingEnd none true).noted
      rw [Wake.noted, Wake.noted, hn, NoticeQueue.hand_held _ _ _ hb, List.map_append]
      exact List.prefix_append _ _

theorem Wake.dropAll_noted (w : Wake) (l : List QueuedRecord) : w.noted <+: (w.dropAll l).noted := by
  induction l generalizing w with
  | nil => exact List.prefix_refl _
  | cons q l ih => exact (w.reportDropped_noted q.owner).trans (ih _)

/-- The request of a slot is told that its record was dropped. -/
def Owed.Dropped (o o' : Owed) : Prop := { o' with answered := false } = { o with waitRecord := false, dropped := true }

/-- A request on a port whose record was dropped. -/
def Ports.SlotDropped (ps : Ports) (p : Port) (o : Owed) : Prop := ∃ o', ps.slot p = some o' ∧ o.Dropped o'

section

variable {w : Wake} {p : Port} {id : Nat} {o : Owed}

/-- A dropped record of the request is reported to it. -/
theorem Ports.report_dropped {ps : Ports} (h : ps.slot p = some o) (hid : o.id = id) (hans : o.answered = false) :
    (ps.report p id (fun o => { o with waitRecord := false, dropped := true })).SlotDropped p o :=
  Ports.report_slot (fun o : Owed => { o with waitRecord := false, dropped := true }) h hid hans hans

/-- A report to another request leaves the slot. -/
theorem Ports.report_miss {ps : Ports} (h : ps.slot p = some o) (q : Port) (n : Nat) (f : Owed → Owed) (hne : ¬ (q = p ∧ n = o.id)) :
    (ps.report q n f).slot p = some o := by
  by_cases hq : q = p
  · subst hq
    have hn : ¬ o.id = n := fun he => hne ⟨rfl, he.symm⟩
    unfold Ports.report
    rw [h]
    simp [hn, h]
  · exact (ps.report_other q n f (Ne.symm hq)).trans h

/-- What is told of other records leaves a request that was told of its own. -/
theorem Ports.SlotDropped.reportDropped (h : w.ports.SlotDropped p o) (hg : o.waitGauging = none) (x : Owner) :
    (w.reportDropped x).ports.SlotDropped p o := by
  obtain ⟨o', hslot, hd⟩ := h
  have hg' : o'.waitGauging = none := (congrArg Owed.waitGauging hd).trans hg
  cases x with
  | nobody => exact ⟨o', hslot, hd⟩
  | gauging => exact ⟨o', w.computingEnd_slot none true p hslot hg', hd⟩
  | request q n =>
    by_cases hmiss : q = p ∧ n = o'.id
    · obtain ⟨rfl, rfl⟩ := hmiss
      cases hans : o'.answered with
      | true =>
        refine ⟨o', ?_, hd⟩
        show (w.ports.report q o'.id _).slot q = some o'
        unfold Ports.report
        rw [hslot]
        simp [hans, hslot]
      | false =>
        obtain ⟨x, hx, hxd⟩ := Ports.report_dropped hslot rfl hans
        refine ⟨x, hx, ?_⟩
        have hself : ({ o' with waitRecord := false, dropped := true } : Owed) = { o with waitRecord := false, dropped := true } := by
          have := congrArg (fun y : Owed => ({ y with waitRecord := false, dropped := true, answered := o'.answered } : Owed)) hd
          have hoans : o.answered = o'.answered := by
            rw [hans]
            exact (congrArg Owed.answered hd).symm
          simpa [hoans] using this
        exact Eq.trans hxd hself
    · exact ⟨o', Ports.report_miss hslot q n _ hmiss, hd⟩

theorem Ports.SlotDropped.dropAll (h : w.ports.SlotDropped p o) (hg : o.waitGauging = none) (l : List QueuedRecord) :
    (w.dropAll l).ports.SlotDropped p o := by
  induction l generalizing w with
  | nil => exact h
  | cons q l ih => exact ih (h.reportDropped hg q.owner)

/-- Of the records dropped, that of a request is reported to it. -/
theorem Wake.dropAll_slot (h : w.ports.slot p = some o) (hid : o.id = id) (hans : o.answered = false) (hg : o.waitGauging = none)
    (l : List QueuedRecord) (hl : ∃ q ∈ l, q.owner = .request p id) : (w.dropAll l).ports.SlotDropped p o := by
  induction l generalizing w with
  | nil => simp at hl
  | cons q l ih =>
    rw [Wake.dropAll]
    by_cases ho : q.owner = .request p id
    · rw [ho]
      exact Ports.SlotDropped.dropAll (w := w.reportDropped (.request p id)) (Ports.report_dropped h hid hans) hg l
    · have htail : ∃ q ∈ l, q.owner = .request p id := by
        obtain ⟨x, hx, hxo⟩ := hl
        rcases List.mem_cons.1 hx with rfl | hx
        · exact absurd hxo ho
        · exact ⟨x, hx, hxo⟩
      refine ih ?_ htail
      cases hq : q.owner with
      | nobody => exact h
      | gauging => exact w.computingEnd_slot none true p h hg
      | request q' n =>
        refine Ports.report_miss h q' n _ ?_
        rintro ⟨rfl, rfl⟩
        exact ho (by rw [hq, hid])

end

/-! ### The archive state taken afresh (R164, R165) -/

section

variable {w : Wake}

/-- A change of the archive state that does not fail it hands one notice. -/
theorem Wake.freshState_live (h : w.archive.freshState ≠ w.archive.state) (hf : w.archive.freshState.isFailed = false) :
    w.freshState =
      ({ w with archive := { w.archive with state := w.archive.freshState } } : Wake).notice w.time
        (.archive w.archive.freshState w.archive.retired w.archive.healthy) := by
  unfold Wake.freshState
  simp only
  rw [if_neg h, if_neg (by simp [hf])]
  rfl

/-- The archive's failure, with the records dropped still to be reported. -/
def Wake.failing (w : Wake) : Wake :=
  { ({ w with archive := { w.archive with state := w.archive.freshState } } : Wake).notice w.time
      (.archive w.archive.freshState w.archive.retired w.archive.healthy) with
    archive := { w.archive with state := w.archive.freshState, queue := [], waiting := [] } }

theorem Wake.freshState_fails (h : w.archive.freshState ≠ w.archive.state) (hf : w.archive.freshState.isFailed = true) :
    w.freshState = w.failing.dropAll (w.archive.queue ++ w.archive.waiting) := by
  unfold Wake.freshState
  simp only
  rw [if_neg h, if_pos hf]
  rfl

/-- What taking the archive state afresh leaves of the archive. -/
theorem Wake.freshState_archive (w : Wake) :
    w.freshState.archive.state = w.archive.freshState ∧ w.freshState.archive.pages = w.archive.pages ∧
      w.freshState.archive.op = w.archive.op := by
  by_cases h : w.archive.freshState = w.archive.state
  · rw [w.freshState_same h]
    exact ⟨h.symm, rfl, rfl⟩
  · cases hf : w.archive.freshState.isFailed with
    | false =>
      rw [Wake.freshState_live h hf]
      exact ⟨rfl, rfl, rfl⟩
    | true =>
      rw [Wake.freshState_fails h hf, Wake.dropAll_archive]
      exact ⟨rfl, rfl, rfl⟩

end

/-! ### How the archive goes on (R162, R163) -/

section

variable (a : Archive) (n : Nat) (e : Int)

/-- Going on after a page changes of the archive the queue, the operation in flight and the next index alone, and of the queue only
an index is new. -/
theorem Archive.goOn_frame :
    { a.goOn n e with queue := a.queue, op := a.op, nextIndex := a.nextIndex } = a ∧
      (a.goOn n e).queue.map QueuedRecord.content = a.queue.map QueuedRecord.content := by
  unfold Archive.goOn
  split
  · exact ⟨rfl, rfl⟩
  · split
    · have hbegin := Archive.begin_only { a with op := .idle }
      obtain ⟨-, -, -, -, -, -, -, -, -, -, -, hqueue⟩ := Archive.begin_frame { a with op := .idle }
      exact ⟨congrArg (fun b : Archive => ({ b with op := a.op } : Archive)) hbegin, hqueue⟩
    · rw [Archive.takeNext_frame]
      exact ⟨rfl, rfl⟩

@[simp] theorem Archive.goOn_pages : (a.goOn n e).pages = a.pages := by
  obtain ⟨honly, -⟩ := a.goOn_frame n e
  have hpages := congrArg Archive.pages honly
  exact hpages

theorem Archive.goOn_failed (h : a.state.isFailed = true) : a.goOn n e = { a with op := .idle } := by
  rw [Archive.goOn, if_pos h]

theorem Archive.goOn_open (hf : a.state.isFailed = false) (h : a.openPage.isSome = true) :
    a.goOn n e = Archive.begin { a with op := .idle } := by
  rw [Archive.goOn, if_neg (by simp [hf]), if_pos h]

theorem Archive.goOn_next (hf : a.state.isFailed = false) (h : a.openPage = none) : a.goOn n e = a.takeNext n e := by
  rw [Archive.goOn, if_neg (by simp [hf]), if_neg (by simp [h])]

/-- The next page in the ring is opened where it is ERASED and erased where it is FULL. -/
theorem Archive.takeNext_op {k : Nat} (h : a.nextInRing n = some k) :
    ((pageAt a.pages k).status = .erased → (a.takeNext n e).op = .header k e) ∧
      ((pageAt a.pages k).status = .full → (a.takeNext n e).op = .erase k) := by
  unfold Archive.takeNext
  rw [h]
  refine ⟨fun hs => ?_, fun hs => ?_⟩ <;> simp only [hs]

theorem Archive.takeNext_pages : (a.takeNext n e).pages = a.pages := by
  rw [Archive.takeNext_frame]

/-- Taking the next page leaves the pages, and with them the next in the ring. -/
theorem Archive.takeNext_ring (m : Nat) : (a.takeNext n e).nextInRing m = a.nextInRing m := by
  rw [Archive.takeNext_frame]
  rfl

end

end Sys2Proof.Machine
end

section
/-! SUPPORT. PROGRAM_FAILURE and ERASE_FAILURE: a page retired, the archive state that follows, and what a retired mark's end begins
(R157, R161 to R165). -/

namespace Sys2Proof.Machine

/-! ### A page retired (R163) -/

/-- The archive with a page retired, its retired mark in programming. -/
def Archive.retiring (a : Archive) (n : Nat) (page : Page) : Archive :=
  { a.setPage n { page with status := .retired } with op := .retiredMark n }

/-- The blocks with a page retired, the archive state still to be taken afresh. -/
def Wake.retiring (w : Wake) (n : Nat) (page : Page) : Wake := { w with archive := w.archive.retiring n page }

theorem Wake.retire_eq (w : Wake) (n : Nat) (page : Page) : w.retire n page = (w.retiring n page).freshState := rfl

section

variable {a : Archive} {n : Nat}

theorem Archive.retiring_pageAt (h : pagesWf a.pages = true) (page : Page) (k : Nat) :
    pageAt (a.retiring n page).pages k = if k = n then { page with status := .retired } else pageAt a.pages k :=
  pageAt_setPage n k { page with status := .retired } h

theorem Archive.retiring_retired (h : pagesWf a.pages = true) (page : Page) :
    (a.retiring n page).retired = a.retired + if (pageAt a.pages n).status = .retired then 0 else 1 :=
  Archive.retired_setPage (p := { page with status := .retired }) h rfl

/-- The retired page that makes a NORMAL archive DEGRADED is its 16th. -/
theorem Archive.retiring_degrades (h : pagesWf a.pages = true) (hs : a.state = .normal) (hfresh : a.freshState = a.state) (page : Page)
    (hd : (a.retiring n page).freshState = .degraded) : (a.retiring n page).retired = 16 := by
  have hlive : a.state.isFailed = false := by
    rw [hs]
    rfl
  have hend := Archive.indexEnd_of_fresh hlive hfresh
  obtain ⟨-, -, hnormal⟩ := Archive.freshState_iff hlive hend
  obtain ⟨-, hdegraded, -⟩ := Archive.freshState_iff (a := a.retiring n page) hlive hend
  have hbefore := (hnormal.1 (hfresh.trans hs)).2
  have hafter := (hdegraded.1 hd).2
  have hcount := Archive.retiring_retired (n := n) h page
  split at hcount <;> omega

theorem Wake.retire_archive (w : Wake) (n : Nat) (page : Page) :
    (w.retire n page).archive.state = (w.archive.retiring n page).freshState ∧
      (w.retire n page).archive.pages = (w.archive.retiring n page).pages ∧ (w.retire n page).archive.op = .retiredMark n :=
  (w.retiring n page).freshState_archive

end

section

variable {w : Wake} {n : Nat} {page : Page}

/-- The failure of the archive tells of the retired pages and gives up its queues. -/
theorem Wake.retire_fails (hlive : w.archive.state.isFailed = false)
    (hf : (w.retire n page).archive.state.isFailed = true) :
    w.retire n page = (w.retiring n page).failing.dropAll (w.archive.queue ++ w.archive.waiting) := by
  have hf' : (w.retiring n page).archive.freshState.isFailed = true := by
    rw [(w.retire_archive n page).1] at hf
    exact hf
  refine Wake.freshState_fails (w := w.retiring n page) (fun he => ?_) hf'
  have hsame : (w.retiring n page).archive.state = w.archive.state := rfl
  rw [he, hsame, hlive] at hf'
  cases hf'

/-- With its failure the archive hands its notice first. -/
theorem Wake.failing_noted (w : Wake) (hroom : w.notices.held.length < noticeCapacity) :
    w.failing.noted = w.noted ++ [(w.time, .archive w.archive.freshState w.archive.retired w.archive.healthy)] := by
  show ((w.notices.hand w.time (.archive w.archive.freshState w.archive.retired w.archive.healthy)).1.held).map _ = _
  rw [NoticeQueue.hand_held _ _ _ (by simp [noticeKind]), if_pos hroom, List.map_append]
  rfl

/-- A retired page that leaves the archive state leaves all but itself. -/
theorem Wake.retire_same (h : (w.retire n page).archive.state = w.archive.state) : w.retire n page = w.retiring n page := by
  rw [(w.retire_archive n page).1] at h
  exact (w.retiring n page).freshState_same h

/-- A retired page that changes the archive state without failing it hands one notice. -/
theorem Wake.retire_changes (h : (w.retire n page).archive.state ≠ w.archive.state)
    (hf : (w.retire n page).archive.state.isFailed = false) :
    w.retire n page =
      ({ w.retiring n page with
        archive := { w.archive.retiring n page with state := (w.retire n page).archive.state } } : Wake).notice w.time
        (.archive (w.retire n page).archive.state (w.archive.retiring n page).retired (w.archive.retiring n page).healthy) := by
  rw [(w.retire_archive n page).1] at h hf ⊢
  exact Wake.freshState_live (w := w.retiring n page) h hf

end

/-- A failure, where it is not the retired mark's own, retires the page of the operation. -/
theorem exec_failure_retires {s : State} {left : Remnant} {i : Instr} {n : Nat}
    (h : (i = .programFailure left ∧ (s.archive.op = .record n ∨ s.archive.op = .closedMark n ∨ ∃ v, s.archive.op = .header n v)) ∨
      (i = .eraseFailure left ∧ s.archive.op = .erase n)) :
    ∃ page, exec i s = .next (s.withWake (s.wake.retire n page)).settle := by
  rcases h with ⟨rfl, hop⟩ | ⟨rfl, hop⟩
  · obtain ⟨page, hpage⟩ := (s.wake.failure_retires left n).1 hop
    exact ⟨page, by rw [← hpage]; rfl⟩
  · obtain ⟨page, hpage⟩ := (s.wake.failure_retires left n).2 hop
    exact ⟨page, by rw [← hpage]; rfl⟩

/-- The notices held at the end of a command. -/
theorem State.withWake_settle_noted (s : State) (w : Wake) : (s.withWake w).settle.notices.held.map (fun n => (n.time, n.body)) = w.noted := by
  obtain ⟨-, -, -, -, -, -, -, -, -, -, -, -, hnoted⟩ := State.settle_sameBlocks (s.withWake w)
  exact hnoted

section

variable {s : State} {n : Nat} {page : Page}

/-- The blocks when the archive state stays as it was. -/
theorem State.retire_same (h : (s.wake.retire n page).archive.state = s.archive.state) :
    s.withWake (s.wake.retire n page) = { s with archive := s.archive.retiring n page } := by
  rw [Wake.retire_same h]
  rfl

/-- The blocks when the archive is DEGRADED for its retired pages. -/
theorem State.retire_degrades (h : s.archive.state = .normal) (hd : (s.wake.retire n page).archive.state = .degraded)
    (hroom : s.hasRoom = true) :
    s.withWake (s.wake.retire n page) =
      { s.told (.archive .degraded (s.archive.retiring n page).retired (s.archive.retiring n page).healthy) with
        archive := { s.archive.retiring n page with state := .degraded } } := by
  have hchange := Wake.retire_changes (w := s.wake) (n := n) (page := page)
    (by rw [hd, show s.wake.archive.state = .normal from h]; exact nofun) (by rw [hd]; rfl)
  rw [hd] at hchange
  rw [hchange, ← State.notice_told s _ hroom]
  rfl

end

/-- A request told of a dropped record, at the end of a command. -/
theorem Ports.SlotDropped.settle {s : State} {w : Wake} {p : Port} {o : Owed} (h : w.ports.SlotDropped p o) :
    ∃ o', (s.withWake w).settle.ports.slot p = some o' ∧ { o' with answered := false } = { o with waitRecord := false, dropped := true } := by
  obtain ⟨o', hslot, hd⟩ := h
  exact ⟨o', (State.settle_slot (s.withWake w) p).trans hslot, hd⟩

/-! ### The retired mark's end (R163) -/

/-- The archive as the end of a retired mark finds its page: with the mark, or without it. -/
def Archive.marked (a : Archive) (n : Nat) (mark : Bool) : Archive :=
  if mark then a.setPage n (pageAt a.pages n).markRetired else a

section

variable {a : Archive} {n : Nat}

theorem Archive.marked_frame (a : Archive) (n : Nat) (mark : Bool) : a.marked n mark = { a with pages := (a.marked n mark).pages } := by
  cases mark <;> rfl

theorem Archive.marked_pageAt (h : pagesWf a.pages = true) (mark : Bool) (k : Nat) :
    pageAt (a.marked n mark).pages k =
      if k = n then (if mark then (pageAt a.pages n).markRetired else pageAt a.pages n) else pageAt a.pages k := by
  cases mark with
  | true => exact pageAt_setPage n k _ h
  | false =>
    show pageAt a.pages k = _
    split
    · rename_i hk
      simp [hk]
    · rfl

/-- A retired mark leaves the OPEN page. -/
theorem Archive.marked_openPage (h : pagesWf a.pages = true) (hn : n < pageCount) (hr : (pageAt a.pages n).status = .retired)
    (mark : Bool) : (a.marked n mark).openPage = a.openPage := by
  cases mark with
  | false => rfl
  | true =>
    refine Archive.openPage_setPage_other h (pagesWf_setPage n _ hn h) ?_ fun ho => ?_
    · show (pageAt a.pages n).status ≠ .opened
      rw [hr]
      exact nofun
    · have := Archive.openPage_status h ho
      rw [hr] at this
      cases this

end

/-- How the archive goes on at a retired mark's end: by the OPEN page, or by the next page in the ring (R163). -/
theorem Archive.marked_goOn {a : Archive} {n : Nat} (hwf : pagesWf a.pages = true) (hn : n < pageCount)
    (hr : (pageAt a.pages n).status = .retired) (mark : Bool) (e : Int) :
    ∀ b : Archive, b = (a.marked n mark).goOn n e →
      { b with pages := a.pages, op := a.op, queue := a.queue, nextIndex := a.nextIndex } = a ∧
      b.queue.map QueuedRecord.content = a.queue.map QueuedRecord.content ∧
      (∀ k, k ≠ n → pageAt b.pages k = pageAt a.pages k) ∧
      pageAt b.pages n = (if mark then (pageAt a.pages n).markRetired else pageAt a.pages n) ∧
      (pageAt b.pages n).status = .retired ∧
      (a.state.isFailed = true → b.op = .idle ∧ b.queue = a.queue) ∧
      (a.state.isFailed = false →
        (a.openPage.isSome = true → a.queue = [] → b.op = .idle) ∧
        (∀ m, a.openPage = some m → ∀ q rest, a.queue = q :: rest →
          ProgrammingBegun { a with op := .idle, pages := b.pages } b m q rest) ∧
        (a.openPage = none → ∀ k, b.nextInRing n = some k →
          b.queue = a.queue ∧ ((pageAt b.pages k).status = .erased → b.op = .header k e) ∧
          ((pageAt b.pages k).status = .full → b.op = .erase k))) := by
  intro b hb
  have hpageAt := Archive.marked_pageAt (n := n) hwf mark
  have hopen := Archive.marked_openPage hwf hn hr mark
  have hframe := a.marked_frame n mark
  have hstate : (a.marked n mark).state = a.state := by rw [hframe]
  have hqueue : (a.marked n mark).queue = a.queue := by rw [hframe]
  obtain ⟨honly, hcontent⟩ := (a.marked n mark).goOn_frame n e
  have hpages : b.pages = (a.marked n mark).pages := by rw [hb, Archive.goOn_pages]
  have hat : pageAt b.pages n = if mark then (pageAt a.pages n).markRetired else pageAt a.pages n := by
    rw [hpages, hpageAt, if_pos rfl]
  refine ⟨?_, ?_, fun k hk => ?_, hat, ?_, fun hf => ?_, fun hlive => ⟨fun ho hq => ?_, fun m ho q rest hq => ?_, fun ho k hk => ?_⟩⟩
  · have honly' := congrArg (fun b : Archive => ({ b with pages := a.pages } : Archive)) honly
    rw [← hb, hframe] at honly'
    exact honly'
  · rw [hb, hcontent, hqueue]
  · rw [hpages, hpageAt, if_neg hk]
  · rw [hat]
    split
    · exact hr
    · exact hr
  · rw [hb, Archive.goOn_failed _ _ _ (hstate ▸ hf)]
    exact ⟨rfl, hqueue⟩
  · have hrest := Archive.begin_rest { a.marked n mark with op := .idle } (.inr (.inr (.inr (hqueue.trans hq))))
    rw [hb, Archive.goOn_open _ _ _ (hstate ▸ hlive) (by rw [hopen]; exact ho), hrest]
  · have hbegun := Archive.begin_spec { a.marked n mark with op := .idle } m q rest rfl (hstate ▸ hlive) (hopen.trans ho)
      (hqueue.trans hq)
    have hsource : ({ a with op := .idle, pages := b.pages } : Archive) = { a.marked n mark with op := .idle } := by
      rw [hpages, hframe]
    rw [hsource, hb, Archive.goOn_open _ _ _ (hstate ▸ hlive) (by rw [hopen, ho]; rfl)]
    exact hbegun
  · have hstep : b = (a.marked n mark).takeNext n e := by rw [hb, Archive.goOn_next _ _ _ (hstate ▸ hlive) (hopen.trans ho)]
    rw [hstep, Archive.takeNext_ring] at hk
    rw [hstep, Archive.takeNext_pages]
    refine ⟨?_, (a.marked n mark).takeNext_op n e hk⟩
    rw [Archive.takeNext_frame]
    exact hqueue

/-- At its retired mark's end the archive goes on. -/
theorem exec_retiredMark_ends {s : State} {left : Remnant} {i : Instr} {n : Nat} (hop : s.archive.op = .retiredMark n)
    (h : i = .pageHeaderProgrammed ∨ i = .programFailure left) :
    exec i s =
      .next ({ s with
        archive :=
          (s.archive.marked n (decide (i = .pageHeaderProgrammed ∨ left = .done))).goOn n s.rating.elevation } : State).settle := by
  have hop' : s.wake.archive.op = .retiredMark n := hop
  rcases h with rfl | rfl
  · have hstep : s.wake.pageHeaderProgrammed =
        { s.wake with archive := (s.archive.marked n true).goOn n s.rating.elevation } := by
      simp only [Wake.pageHeaderProgrammed, hop']
      rfl
    rw [decide_eq_true (.inl rfl)]
    show Host.Outcome.next (s.withWake s.wake.pageHeaderProgrammed).settle = _
    rw [hstep]
    rfl
  · have hstep : s.wake.programFailure left =
        { s.wake with archive := (s.archive.marked n (decide (left = .done))).goOn n s.rating.elevation } := by
      simp only [Wake.programFailure, hop']
      cases left <;> rfl
    have hmark : decide ((Instr.programFailure left = .pageHeaderProgrammed) ∨ left = .done) = decide (left = .done) := by simp
    rw [hmark]
    show Host.Outcome.next (s.withWake (s.wake.programFailure left)).settle = _
    rw [hstep]
    rfl

/-- Settles O58: a page retired by the archive state taken afresh, and the mark's end by how the archive goes on. -/
theorem failuresRetireTheirPage : Obligations.FailuresRetireTheirPage := by
  refine ⟨fun s left i n hwf hn hfresh hcase => ?_, fun s left i n hwf hn hop hr hcase => ?_⟩
  · obtain ⟨page, hexec⟩ := exec_failure_retires hcase
    obtain ⟨hstate, hpages, hopen⟩ := s.wake.retire_archive n page
    change (s.wake.retire n page).archive.state = (s.archive.retiring n page).freshState at hstate
    change (s.wake.retire n page).archive.pages = (s.archive.retiring n page).pages at hpages
    have hpageAt : ∀ k, pageAt (s.wake.retire n page).archive.pages k =
        if k = n then { page with status := .retired } else pageAt s.archive.pages k := fun k => by
      rw [hpages]
      exact Archive.retiring_pageAt hwf page k
    have hretired : (s.wake.retire n page).archive.retired = (s.archive.retiring n page).retired := by
      rw [Archive.retired, hpages]
      rfl
    have hhealthy : (s.wake.retire n page).archive.healthy = (s.archive.retiring n page).healthy := by
      rw [Archive.healthy, hretired]
      rfl
    refine ⟨_, hexec, ?_, hopen, fun k hk => ?_, ?_, rfl, fun hf => ?_, fun hlive => ?_, fun hsame => ?_, fun hnormal hd hroom => ?_,
      fun hlive hf => ?_⟩
    · show (pageAt (s.wake.retire n page).archive.pages n).status = .retired
      rw [hpageAt, if_pos rfl]
    · exact (hpageAt k).trans (if_neg hk)
    · exact hretired.trans (Archive.retiring_retired hwf page)
    · exact hstate.trans (Archive.freshState_failed hf)
    · have hend : (s.archive.retiring n page).indexEnd = false := Archive.indexEnd_of_fresh (a := s.archive) hlive hfresh
      have hiff := Archive.freshState_iff (a := s.archive.retiring n page) hlive hend
      rw [← hstate, ← hretired, ← hhealthy] at hiff
      obtain ⟨hfailed, hdegraded, hnormal⟩ := hiff
      refine ⟨hfailed, hdegraded, hnormal, fun hf hlen => ?_, fun hf q hq p id howner o ho hid hans hg => ?_⟩
      · have hnoted := Wake.failing_noted (s.wake.retiring n page) hlen
        have hf' : (s.wake.retire n page).archive.state.isFailed = true := hf
        have hcause : (s.archive.retiring n page).freshState = .failed .pages := by
          rw [hstate] at hf'
          exact Archive.freshState_cause hlive hend hf'
        have hcause' : (s.wake.retiring n page).archive.freshState = .failed .pages := hcause
        rw [hcause'] at hnoted
        have hprefix := Wake.dropAll_noted (s.wake.retiring n page).failing (s.archive.queue ++ s.archive.waiting)
        rw [hnoted] at hprefix
        rw [State.withWake_settle_noted]
        show _ ++ [(_, NoticeBody.archive _ (s.wake.retire n page).archive.retired (s.wake.retire n page).archive.healthy)] <+: _
        rw [hretired, hhealthy, Wake.retire_fails (w := s.wake) hlive hf]
        exact hprefix
      · refine Ports.SlotDropped.settle ?_
        rw [Wake.retire_fails (w := s.wake) hlive hf]
        refine Wake.dropAll_slot (id := id) ?_ hid hans hg _ ⟨q, hq, howner⟩
        exact (Wake.notice_slot _ _ _ p).trans ho
    · obtain ⟨t, ht, hslots, hblocks⟩ := event_ends hexec (State.retire_same hsame) rfl (SameBlocks.of_eq rfl)
      obtain rfl := Host.Outcome.next.inj (hexec.symm.trans ht)
      refine ⟨hslots, ?_⟩
      have harchive : ({ s.archive with pages := (s.wake.retire n page).archive.pages, op := .retiredMark n } : Archive) =
          s.archive.retiring n page := by
        rw [hpages]
        rfl
      show SameBlocks { s with
        archive := { s.archive with pages := (s.wake.retire n page).archive.pages, op := .retiredMark n } } _
      rw [harchive]
      exact hblocks
    · have hd' : (s.wake.retire n page).archive.state = .degraded := hd
      obtain ⟨t, ht, hslots, hblocks⟩ := event_ends hexec (State.retire_degrades hnormal hd' hroom) rfl (SameBlocks.of_eq rfl)
      obtain rfl := Host.Outcome.next.inj (hexec.symm.trans ht)
      refine ⟨hslots, ?_, ?_⟩
      · show (s.wake.retire n page).archive.retired = 16
        rw [hretired]
        exact Archive.retiring_degrades hwf hnormal hfresh page (hstate.symm.trans hd')
      · show SameBlocks { s.told (.archive .degraded (s.wake.retire n page).archive.retired
          (s.wake.retire n page).archive.healthy) with
          archive := { s.archive with
            pages := (s.wake.retire n page).archive.pages, op := .retiredMark n, state := .degraded } } _
        rw [hretired, hhealthy, hpages]
        exact hblocks
    · show (s.wake.retire n page).archive.queue = [] ∧ (s.wake.retire n page).archive.waiting = []
      rw [Wake.retire_fails (w := s.wake) hlive hf, Wake.dropAll_archive]
      exact ⟨rfl, rfl⟩
  · generalize hmark : decide (i = .pageHeaderProgrammed ∨ left = .done) = mark
    have hexec := exec_retiredMark_ends hop hcase
    rw [hmark] at hexec
    obtain ⟨t, ht, hslots, hblocks⟩ := event_ends hexec rfl rfl (SameBlocks.of_eq rfl)
    obtain rfl := Host.Outcome.next.inj (hexec.symm.trans ht)
    have hmarkIf : (if i = .pageHeaderProgrammed ∨ left = .done then (pageAt s.archive.pages n).markRetired
        else pageAt s.archive.pages n) = if mark then (pageAt s.archive.pages n).markRetired else pageAt s.archive.pages n := by
      rw [← hmark]
      simp
    rw [hmarkIf]
    exact ⟨_, hexec, hslots, hblocks, Archive.marked_goOn hwf hn hr mark s.rating.elevation _ rfl⟩

end Sys2Proof.Machine
end

section
/-! SUPPORT. A record handed to the archive with room, without room and when FAILED, and the commands whose record a FAILED archive
drops (R29, R54, R65, R160, R165, R166, R167). -/

namespace Sys2Proof.Machine

/-! ### Handing a record (R160, R166, R167) -/

theorem heldCount_eq (n : Nat) : heldCount n = min 65535 (n + 1) := by
  show (if n < 65535 then n + 1 else 65535) = _
  split <;> omega

/-- The queue of which programming begins is the one that programming leaves. -/
theorem ProgrammingBegun.of_queue {a b : Archive} {n : Nat} {q : QueuedRecord} {rest l : List QueuedRecord}
    (h : ProgrammingBegun { a with queue := l } b n q rest) : ProgrammingBegun a b n q rest := h

/-- The end of COMPUTING, of the gauging unit. -/
theorem Wake.computingEnd_gauging {w : Wake} {c : GaugingRecord} (hc : w.gauging.computing = some c) (index : Option Nat) (b : Bool) :
    (w.computingEnd index b).gauging = w.gauging.atEnd c index b := by
  unfold Wake.computingEnd
  simp only [hc, addGauging_eq]
  rfl

section

variable {w : Wake} (r : Record) (time : Nat) (owner : Owner)

/-- The blocks when a record finds room: it is queued, reported as entered, and programming begins where it can. -/
theorem Wake.hand_enters (h : w.archive.hasRoom = true) :
    w.hand r time owner =
      (({ w with
          archive :=
            { w.archive with
              queue := w.archive.queue ++ [{ record := r, time := time, owner := owner, index := none }] } } : Wake).reportEntered
        owner).kick := by
  simp only [Archive.hasRoom, Bool.and_eq_true, Bool.not_eq_true', decide_eq_true_eq, List.isEmpty_iff] at h
  obtain ⟨⟨hf, hl⟩, hw⟩ := h
  unfold Wake.hand
  simp [hf, hl, hw]

theorem Wake.kick_archive (v : Wake) : v.kick.archive = if v.startingUp then v.archive else v.archive.begin := by
  unfold Wake.kick
  split <;> rfl

theorem Archive.hasRoom_eq_true {a : Archive} (hf : a.state.isFailed = false) (hl : a.queue.length < 32) (hw : a.waiting = []) :
    a.hasRoom = true := by
  simp [Archive.hasRoom, hf, hl, hw]

theorem Archive.hasRoom_eq_false {a : Archive} (h : 32 ≤ a.queue.length ∨ a.waiting ≠ []) : a.hasRoom = false := by
  rcases h with h | h
  · simp [Archive.hasRoom, h]
  · simp [Archive.hasRoom, h]

/-- The archive after a record found room: the queue with it, and programming where the start-up sequence is over. -/
theorem Wake.hand_enters_archive (h : w.archive.hasRoom = true) :
    ∀ a : Archive,
      a = { w.archive with queue := w.archive.queue ++ [{ record := r, time := time, owner := owner, index := none }] } →
      (w.hand r time owner).archive = if w.startingUp then a else a.begin := by
  rintro a rfl
  rw [Wake.hand_enters r time owner h, Wake.kick_archive, Wake.reportEntered_archive]
  cases owner <;> rfl

/-- A record of observations that finds no room is counted. -/
theorem Wake.hand_counts_obs {n : Nat} (hf : w.archive.state.isFailed = false) (h : w.archive.hasRoom = false)
    (hn : r.obsNumber = some n) : w.hand r time owner = { w with archive := w.archive.countObs n } := by
  rw [Wake.hand_full w r time owner hf h]
  simp only [hn]

/-- Another record that finds no room, nobody waiting for it, is counted when the waiting line takes no more of them. -/
theorem Wake.hand_counts_other (hf : w.archive.state.isFailed = false) (h : w.archive.hasRoom = false) (hn : r.obsNumber = none)
    (ho : owner = .nobody) (hfree : 16 ≤ freeCount w.archive.waiting) :
    w.hand r time owner = { w with archive := { w.archive with othersDropped := heldCount w.archive.othersDropped } } := by
  rw [Wake.hand_full w r time owner hf h]
  simp [hn, ho, hfree]

/-- Any other record joins the waiting line. -/
theorem Wake.hand_waits (hf : w.archive.state.isFailed = false) (h : w.archive.hasRoom = false) (hn : r.obsNumber = none)
    (ho : owner ≠ .nobody ∨ freeCount w.archive.waiting < 16) :
    w.hand r time owner =
      { w with
        archive :=
          { w.archive with
            waiting := w.archive.waiting ++ [{ record := r, time := time, owner := owner, index := none }] } } := by
  have hcond : (decide (owner = .nobody) && decide (freeCapacity ≤ freeCount w.archive.waiting)) = false := by
    rcases ho with ho | ho
    · simp [ho]
    · simp [ho]
  rw [Wake.hand_full w r time owner hf h]
  simp only [hn, hcond]
  rfl

end

/-! ### A command whose record is dropped (R29, R54, R65, R165) -/

section

variable {h u b : State} {p : Port} {code : Nat} {tag : Byte} {w st : Bool} {a : Payload}

/-- A FAILED archive drops the record of a request, and tells it so. -/
theorem State.hand_dropped (u : State) (r : Record) (p : Port) (hf : u.archive.state.isFailed = true) :
    u.hand r (u.ownerOf p) =
      { u with
        ports := u.ports.report p (u.ports.owedId p) (fun o => { o with waitRecord := false, dropped := true }) } := by
  rw [State.hand, Wake.hand_failed u.wake r u.clock.time (u.ownerOf p) hf]
  rfl

theorem State.hand_dropped_blocks (u : State) (r : Record) (p : Port) (hf : u.archive.state.isFailed = true) :
    SameBlocks u (u.hand r (u.ownerOf p)) := by
  rw [State.hand_dropped u r p hf]
  exact .of_ports rfl

theorem Deferred.sameBut_dropped (k : Deferred h u p code tag w true st a) (r : Record) (hf : u.archive.state.isFailed = true) :
    h.ports.SameBut (u.hand r (u.ownerOf p)).ports p := by
  rw [State.hand_dropped u r p hf]
  exact k.same.trans (u.ports.sameBut_report p _ _)

/-- A request that waits for its record alone, and not for its success, is answered OK. -/
theorem Deferred.dropped (k : Deferred h u p code tag false true false a) (r : Record) (hf : u.archive.state.isFailed = true) :
    Answered (u.hand r (u.ownerOf p)).settle p code tag .ok a ∧ SamePorts h (u.hand r (u.ownerOf p)).settle p := by
  refine ⟨?_, (samePorts_iff _ _ _).2 ((k.sameBut_dropped r hf).trans (Ports.sameBut_settle _ p))⟩
  obtain ⟨id, hid⟩ := k.slot
  have hslotId : u.ports.owedId p = id := by
    rw [Ports.owedId, hid]
    rfl
  have htold := Ports.report_told (n := id) (fun o : Owed => { o with waitRecord := false, dropped := true }) hid rfl rfl rfl rfl
  rw [State.hand_dropped u r p hf, hslotId]
  exact Ports.Told.answers (v := { u with
    ports := u.ports.report p id (fun o => { o with waitRecord := false, dropped := true }) }) htold

/-- A request that waits for its write too stays owed, and knows that its record was dropped. -/
theorem Deferred.dropped_owes (k : Deferred h u p code tag true true st a) (r : Record) (hf : u.archive.state.isFailed = true) :
    Owes (u.hand r (u.ownerOf p)).settle p code tag true false a ∧
      (∃ o, (u.hand r (u.ownerOf p)).settle.ports.slot p = some o ∧ o.dropped = true ∧ o.strict = st) ∧
      SamePorts h (u.hand r (u.ownerOf p)).settle p := by
  obtain ⟨id, hid⟩ := k.slot
  have hslotId : u.ports.owedId p = id := by
    rw [Ports.owedId, hid]
    rfl
  have hslot : (u.hand r (u.ownerOf p)).settle.ports.slot p =
      some { Owed.new id (BitVec.ofNat 8 code) tag with
        waitWrite := true, waitRecord := false, strict := st, payload := a, dropped := true } := by
    rw [State.settle_slot, State.hand_dropped u r p hf, hslotId]
    have hreport := Ports.report_eq (n := id) (fun o : Owed => { o with waitRecord := false, dropped := true }) hid rfl rfl
    show (u.ports.report p id _).slot p = _
    rw [hreport, Ports.resolve]
    simp [Owed.complete]
  exact ⟨⟨_, hslot, rfl, rfl, rfl, rfl, rfl, rfl⟩, ⟨_, hslot, rfl, rfl⟩,
    (samePorts_iff _ _ _).2 ((k.sameBut_dropped r hf).trans (Ports.sameBut_settle _ p))⟩

end

section

variable {i : Instr} {s h u b : State} {p : Port} {tag : Byte} {r : Request} {code : Nat} {a : Payload} {d : WriteData} {rec : Record}

/-- A request whose answer waits for its record alone, met by a FAILED archive. -/
theorem Accepted.drops (acc : Accepted i s p tag r code h)
    (ho : (h.occupy p (BitVec.ofNat 8 code) tag).toOwner p r =
      (u.defer p false true false a).hand rec ((u.defer p false true false a).ownerOf p))
    (hu : u.ports = (h.occupy p (BitVec.ofNat 8 code) tag).ports) (hf : u.archive.state.isFailed = true) (hb : SameBlocks b u) :
    ∃ t, exec i s = .next t ∧ Answered t p code tag .ok a ∧ SamePorts h t p ∧ SameBlocks b t := by
  have k := (taken_of_ports hu).defer false true false a
  obtain ⟨hans, hsame⟩ := k.dropped rec hf
  exact ⟨_, by rw [acc.exec_eq, ho], hans, hsame, ((hb.trans (defer_sameBlocks u p false true false a)).trans
    (State.hand_dropped_blocks _ rec p hf)).trans (State.settle_sameBlocks _)⟩

/-- A request whose answer waits for its write and its record, met by a FAILED archive. -/
theorem Accepted.writesAndDrops (acc : Accepted i s p tag r code h)
    (ho : (h.occupy p (BitVec.ofNat 8 code) tag).toOwner p r =
      ((u.defer p true true true a).write p d).hand rec (((u.defer p true true true a).write p d).ownerOf p))
    (hu : u.ports = (h.occupy p (BitVec.ofNat 8 code) tag).ports) (hf : u.archive.state.isFailed = true) (hb : SameBlocks b u) :
    ∃ t, exec i s = .next t ∧ Owes t p code tag true false a ∧
      (∃ o, t.ports.slot p = some o ∧ o.dropped = true ∧ o.strict = true) ∧ SamePorts h t p ∧ Stored b t p d := by
  have k : Deferred h ((u.defer p true true true a).write p d) p code tag true true true a :=
    ((taken_of_ports hu).defer true true true a).of_ports rfl
  obtain ⟨howes, hslot, hsame⟩ := k.dropped_owes rec hf
  have hstored : Stored b ((u.defer p true true true a).write p d) p d :=
    Stored.of_same (hb.trans (defer_sameBlocks u p true true true a)) (State.write_stored _ p d)
  exact ⟨_, by rw [acc.exec_eq, ho], howes, hslot, hsame,
    (hstored.same (State.hand_dropped_blocks _ rec p hf)).same (State.settle_sameBlocks _)⟩

end

/-- FREEZE_RATING with a FAILED archive. -/
theorem freezeRating_dropped (s : State) (p : Port) (tag : Byte) (ht : s.takes p = true) (h : State) (hh : h = s.heard p)
    (hf : h.archive.state.isFailed = true) (hfrozen : h.rating.frozen = false) :
    ∃ t, exec (.freezeRating p tag true) s = .next t ∧ Answered t p 13 tag .ok .empty ∧ SamePorts h t p ∧
      SameBlocks { h with rating := { h.rating with frozen := true } } t := by
  have hfreeze : ∀ b : State, b.rating.frozen = false →
      b.freezeRating p =
        (({ b with rating := { b.rating with frozen := true } } : State).defer p false true false .empty).hand (.rating (.frozen p))
          ((({ b with rating := { b.rating with frozen := true } } : State).defer p false true false .empty).ownerOf p) :=
    fun b hb => if_neg (by simp [hb])
  have acc : Accepted (.freezeRating p tag true) s p tag _ 13 h := ⟨rfl, hh.symm, rfl, ht, rfl⟩
  exact acc.drops (hfreeze (h.occupy p 13 tag) hfrozen) rfl hf (.of_ports rfl)

/-- A command's lines and the hearing of it do not depend on one another. -/
theorem State.heard_sample (s : State) (x : Encoders) (p : Port) : (s.sample x).heard p = (s.heard p).sample x := by
  cases p with
  | L =>
    unfold State.heard
    show (match s.ports.l.frame with | none => s.sample x | some r => _) = _
    cases s.ports.l.frame <;> rfl
  | T =>
    have hrestart : ∀ v : State, (v.sample x).restartSilence = v.restartSilence.sample x := fun v => by
      unfold State.restartSilence
      show (if v.warning.silent = true then _ else _) = State.sample (if v.warning.silent = true then _ else _) x
      split <;> rfl
    exact hrestart (s.onAsync .T PortAsync.idle)
  | F => rfl

/-- SET_TIME with a FAILED archive, and no acquisition that the new time releases. -/
theorem setTime_dropped (s : State) (p : Port) (tag : Byte) (ht : s.takes p = true) (g : State) (hg : g = s.heard p)
    (hf : g.archive.state.isFailed = true) (x : Encoders) (time : Nat) (hfloor : g.clock.floor ≤ time) (ha : g.lau.acq = none)
    (hs : g.lau.startOwed = false) :
    ∃ t, exec (.setTime p tag (some time) x) s = .next t ∧ Answered t p 32 tag .ok .empty ∧ SamePorts g t p ∧
      SameBlocks
        { g.sample x with clock := { time := time, quality := .set, floor := g.clock.floor, phase := g.elapsed } } t := by
  have acc : Accepted (.setTime p tag (some time) x) s p tag (.setTime (some time)) 32 (g.sample x) :=
    ⟨rfl, by rw [hg, ← State.heard_sample]; rfl, rfl, ht, rfl⟩
  generalize hu : ({ (g.sample x).occupy p 32 tag with
    clock := { time := time, quality := .set, floor := g.clock.floor, phase := g.elapsed } } : State) = u
  generalize hr : Record.time { before := g.clock.time, quality := g.clock.quality, after := time, port := p } = r
  have hrest : ((u.defer p false true false .empty).hand r ((u.defer p false true false .empty).ownerOf p)).release =
      (u.defer p false true false .empty).hand r ((u.defer p false true false .empty).ownerOf p) := by
    rw [State.hand_dropped _ r p (by subst hu; exact hf)]
    subst hu
    exact State.release_rests _ ha (.inl hs)
  have ho : ((g.sample x).occupy p 32 tag).toOwner p (.setTime (some time)) =
      (u.defer p false true false .empty).hand r ((u.defer p false true false .empty).ownerOf p) := by
    rw [← hrest, ← hu, ← hr]
    exact if_neg (show ¬ time < g.clock.floor by omega)
  exact acc.drops ho (by subst hu; rfl) (by subst hu; exact hf) (by subst hu; exact .of_ports rfl)

/-- SET_SHIFT with a FAILED archive. -/
theorem setShift_dropped (s : State) (p : Port) (tag : Byte) (ht : s.takes p = true) (h : State) (hh : h = s.heard p)
    (hf : h.archive.state.isFailed = true) (f : ShiftFields) (hlo : -1000 ≤ f.shift) (hhi : f.shift ≤ 1000) :
    ∀ r, r = insertShift h.rating.shifts { time := f.time, shift := f.shift, origin := .manual } →
      ∃ t, exec (.setShift p tag (some f)) s = .next t ∧ Owes t p 30 tag true false (.shiftCount r.1.length r.2.2) ∧
        (∃ o, t.ports.slot p = some o ∧ o.dropped = true ∧ o.strict = true) ∧ SamePorts h t p ∧
        Stored { h with rating := { h.rating with shifts := r.1 } } t p (.shifts r.1) := by
  rintro r rfl
  have hset : ∀ b : State, b.setShift p (some f) = b.insertShift p .set { time := f.time, shift := f.shift, origin := .manual } :=
    fun b => if_neg (by simp; omega)
  have acc : Accepted (.setShift p tag (some f)) s p tag _ 30 h := ⟨rfl, hh.symm, rfl, ht, rfl⟩
  have hb : (h.occupy p 30 tag).rating = h.rating := rfl
  exact acc.writesAndDrops (u := { h.occupy p 30 tag with
    rating := { h.rating with
      shifts := (insertShift h.rating.shifts { time := f.time, shift := f.shift, origin := .manual }).1 } })
    (hset (h.occupy p 30 tag)) rfl hf (.of_ports rfl)

end Sys2Proof.Machine
end

section
/-! SUPPORT. RECORD_PROGRAMMED, PAGE_HEADER_PROGRAMMED and ERASE_COMPLETE, and what the archive begins after them (R148, R151, R157,
R159, R161, R162, R165, R166). -/

namespace Sys2Proof.Machine

/-! ### The archive after a record is durable (R161, R166) -/

/-- The archive with the head of its queue on its page. -/
def Archive.programmed (a : Archive) (n : Nat) (q : QueuedRecord) (rest : List QueuedRecord) : Archive :=
  { a.setPage n ((pageAt a.pages n).append q true) with op := .idle, queue := rest }

/-- The archive with the oldest record of its waiting line in its queue. -/
def Archive.movedUp (a : Archive) : Archive := { a with queue := a.queue ++ a.waiting.take 1, waiting := a.waiting.drop 1 }

/-- The archive with the GAP record that its drop counts give an empty queue. -/
def Archive.gapped (a : Archive) (time : Nat) : Archive :=
  if a.queue.isEmpty && decide (0 < a.obsDropped + a.othersDropped) && !a.state.isFailed then
    { a with
      obsDropped := 0, firstDropped := 0, lastDropped := 0, othersDropped := 0
      queue :=
        [{ record := .gap { obsCount := a.obsDropped, first := a.firstDropped, last := a.lastDropped, others := a.othersDropped }
           time := time, owner := .nobody, index := none }] }
  else a

section

variable {a : Archive} {n time : Nat} {q : QueuedRecord} {rest : List QueuedRecord}

theorem Archive.programmed_eq (a : Archive) (n : Nat) (rest : List QueuedRecord) {k : Nat} (hk : q.index = some k) :
    a.programmed n q rest =
      { a with
        op := .idle, queue := rest
        pages :=
          Machine.setPage a.pages n
            { pageAt a.pages n with
              records := (pageAt a.pages n).records ++ [{ record := q.record, time := q.time, index := k, intact := true }] } } := by
  unfold Archive.programmed Page.append
  rw [hk]
  rfl

/-- A durable record changes nothing that the archive state is taken from. -/
theorem Archive.programmed_freshState (h : pagesWf a.pages = true) (n : Nat) (q : QueuedRecord) (rest : List QueuedRecord) :
    (a.programmed n q rest).freshState = a.freshState := by
  have hblank : (pageAt a.pages n).append q true ≠ Page.blank := fun he => by
    simpa [Page.append, Page.blank] using congrArg Page.records he
  have hretired : (a.programmed n q rest).retired = a.retired := Archive.retired_setPage_status h hblank rfl
  have hhealthy : (a.programmed n q rest).healthy = a.healthy := by rw [Archive.healthy, hretired, Archive.healthy]
  unfold Archive.freshState
  rw [hhealthy, hretired]
  rfl

theorem Archive.movedUp_nil (h : a.waiting = []) : a.movedUp = a := by
  unfold Archive.movedUp
  rw [h, List.take_nil, List.drop_nil, List.append_nil, ← h]

theorem Archive.gapped_rest (h : a.queue ≠ [] ∨ a.obsDropped + a.othersDropped = 0) : a.gapped time = a := by
  unfold Archive.gapped
  rcases h with h | h <;> simp [h]

theorem Archive.gapped_failed (h : a.state.isFailed = true) : a.gapped time = a := by
  unfold Archive.gapped
  simp [h]

theorem Archive.gapped_due (hf : a.state.isFailed = false) (hq : a.queue = []) (h : 0 < a.obsDropped + a.othersDropped) :
    a.gapped time =
      { a with
        obsDropped := 0, firstDropped := 0, lastDropped := 0, othersDropped := 0
        queue :=
          [{ record := .gap { obsCount := a.obsDropped, first := a.firstDropped, last := a.lastDropped, others := a.othersDropped }
             time := time, owner := .nobody, index := none }] } := by
  unfold Archive.gapped
  rw [hq, hf, decide_eq_true h]
  rfl

theorem Archive.gapped_frame (a : Archive) (time : Nat) :
    (a.gapped time).pages = a.pages ∧ (a.gapped time).op = a.op ∧ (a.gapped time).state = a.state ∧
      (a.gapped time).waiting = a.waiting := by
  unfold Archive.gapped
  split <;> exact ⟨rfl, rfl, rfl, rfl⟩

/-- The OPEN page is one of the page list. -/
theorem Archive.openPage_congr {a b : Archive} (h : a.pages = b.pages) : a.openPage = b.openPage := by
  rw [Archive.openPage, h, Archive.openPage]

theorem Archive.begin_queue (a : Archive) :
    a.begin.queue.map (fun q => (q.record, q.time)) = a.queue.map (fun q => (q.record, q.time)) := by
  obtain ⟨-, -, -, -, -, -, -, -, -, -, -, hqueue⟩ := a.begin_frame
  have h := congrArg (List.map (fun c : Record × Nat × Owner => (c.1, c.2.1))) hqueue
  rw [List.map_map, List.map_map] at h
  exact h

/-- What is begun after a durable record, the page being OPEN: the queue's head, where there is one. -/
theorem Archive.begin_next {b : Archive} (hop : b.op = .idle) (hf : b.state.isFailed = false) (ho : b.openPage = some n) :
    (b.queue = [] → b.begin = b) ∧ ∀ first more, b.queue = first :: more → ProgrammingBegun b b.begin n first more :=
  ⟨fun hq => Archive.begin_rest b (.inr (.inr (.inr hq))), fun first more hq => Archive.begin_spec b n first more hop hf ho hq⟩

/-- A page that stays OPEN with one record more. -/
theorem Archive.programmed_openPage (h : pagesWf a.pages = true) (ho : a.openPage = some n) (q : QueuedRecord)
    (rest : List QueuedRecord) : (a.programmed n q rest).openPage = some n := by
  have hstatus : ((pageAt a.pages n).append q true).status = .opened := Archive.openPage_status h ho
  exact Archive.openPage_setPage_same h (Archive.openPage_lt h ho) hstatus (.inr ho)

end

/-! ### RECORD_PROGRAMMED (R161) -/

section

variable {w : Wake}

/-- The producer of the oldest record of the waiting line. -/
def Archive.nextOwner (a : Archive) : Owner := (a.waiting.head?.map (·.owner)).getD .nobody

theorem Wake.takeWaiting_eq (h : w.archive.queue.length < 32) :
    w.takeWaiting = { w with archive := w.archive.movedUp, ports := w.ports.entered w.archive.nextOwner } := by
  cases hw : w.archive.waiting with
  | nil =>
    rw [Archive.movedUp_nil hw]
    unfold Wake.takeWaiting Archive.nextOwner
    rw [hw]
    rfl
  | cons q l =>
    unfold Wake.takeWaiting Archive.nextOwner Archive.movedUp
    simp only [hw]
    rw [if_pos h]
    cases ho : q.owner <;> simp [ho] <;> rfl

theorem Wake.takeWaiting_pages (w : Wake) : w.takeWaiting.archive.pages = w.archive.pages := by
  unfold Wake.takeWaiting
  split
  · rfl
  · split
    · rw [Wake.reportEntered_archive]
    · rfl

theorem Wake.gap_eq (w : Wake) : w.gap = { w with archive := w.archive.gapped w.time } := by
  unfold Wake.gap Archive.gapped
  simp only
  split <;> rfl

theorem Wake.kick_running (h : w.startingUp = false) : w.kick = { w with archive := w.archive.begin } := by
  rw [Wake.kick, h]
  rfl

theorem Wake.computingEnd_frame (w : Wake) (index : Option Nat) (b : Bool) :
    (w.computingEnd index b).time = w.time ∧ (w.computingEnd index b).startingUp = w.startingUp := by
  unfold Wake.computingEnd
  split <;> exact ⟨rfl, rfl⟩

theorem Wake.reportDurable_frame (w : Wake) (q : QueuedRecord) :
    (w.reportDurable q).archive = w.archive ∧ (w.reportDurable q).time = w.time ∧ (w.reportDurable q).startingUp = w.startingUp := by
  unfold Wake.reportDurable
  split
  · exact ⟨w.computingEnd_archive _ _, w.computingEnd_frame _ _⟩
  · exact ⟨rfl, rfl, rfl⟩
  · exact ⟨rfl, rfl, rfl⟩

theorem Wake.reportDurable_quiet (w : Wake) {q : QueuedRecord} (h : q.owner ≠ .gauging) : w.reportDurable q = w := by
  unfold Wake.reportDurable
  cases ho : q.owner with
  | gauging => exact absurd ho h
  | nobody => rfl
  | request p id => rfl

theorem Wake.reportDurable_gauging (w : Wake) {q : QueuedRecord} (h : q.owner = .gauging) :
    w.reportDurable q = w.computingEnd q.index false := by
  unfold Wake.reportDurable
  rw [h]

/-- The blocks with the record on its page, its producer told. -/
def Wake.durable (w : Wake) (n : Nat) (q : QueuedRecord) (rest : List QueuedRecord) : Wake :=
  ({ w with archive := w.archive.programmed n q rest } : Wake).reportDurable q

theorem Wake.durable_frame (w : Wake) (n : Nat) (q : QueuedRecord) (rest : List QueuedRecord) :
    (w.durable n q rest).archive = w.archive.programmed n q rest ∧ (w.durable n q rest).time = w.time ∧
      (w.durable n q rest).startingUp = w.startingUp :=
  ({ w with archive := w.archive.programmed n q rest } : Wake).reportDurable_frame q

variable {n : Nat} {q : QueuedRecord} {rest : List QueuedRecord}

/-- A durable record before the last index: its producer is told, the waiting line moves up, and the archive goes on. -/
theorem Wake.recordProgrammed_eq (hwf : pagesWf w.archive.pages = true) (hfresh : w.archive.freshState = w.archive.state)
    (hop : w.archive.op = .record n) (hq : w.archive.queue = q :: rest) (hi : q.index ≠ some max32) :
    w.recordProgrammed = ((w.durable n q rest).takeWaiting.gap).kick := by
  have hnote : (w.archive.programmed n q rest).noteIndex q = w.archive.programmed n q rest := if_neg hi
  have hstep : w.recordProgrammed =
      ((({ w with archive := (w.archive.programmed n q rest).noteIndex q } : Wake).reportDurable q).freshState.takeWaiting.gap).kick := by
    unfold Wake.recordProgrammed
    simp only [hop, hq]
    rfl
  rw [hstep, hnote]
  have hsame : (w.durable n q rest).freshState = w.durable n q rest := by
    refine Wake.freshState_same _ ?_
    rw [(w.durable_frame n q rest).1, Archive.programmed_freshState hwf]
    exact hfresh
  exact congrArg (fun v : Wake => v.takeWaiting.gap.kick) hsame

/-- What the archive goes on with after a durable record. -/
def Archive.afterRecord (a : Archive) (n : Nat) (q : QueuedRecord) (rest : List QueuedRecord) (time : Nat) : Archive :=
  (a.programmed n q rest).movedUp.gapped time

theorem Wake.recordProgrammed_short (hwf : pagesWf w.archive.pages = true) (hfresh : w.archive.freshState = w.archive.state)
    (hup : w.startingUp = false) (hop : w.archive.op = .record n) (hq : w.archive.queue = q :: rest) (hi : q.index ≠ some max32)
    (hlen : rest.length < 32) :
    w.recordProgrammed =
      { w.durable n q rest with
        archive := (w.archive.afterRecord n q rest w.time).begin
        ports := (w.durable n q rest).ports.entered w.archive.nextOwner } := by
  obtain ⟨harchive, htime, hstart⟩ := w.durable_frame n q rest
  have hafter : w.archive.afterRecord n q rest w.time = (w.durable n q rest).archive.movedUp.gapped (w.durable n q rest).time := by
    rw [harchive, htime]
    rfl
  have hnext : w.archive.nextOwner = (w.durable n q rest).archive.nextOwner := by
    rw [harchive]
    rfl
  rw [Wake.recordProgrammed_eq hwf hfresh hop hq hi, Wake.takeWaiting_eq (by rw [harchive]; exact hlen), Wake.gap_eq,
    Wake.kick_running, hafter, hnext]
  · exact hstart.trans hup

theorem Wake.recordProgrammed_pages (hwf : pagesWf w.archive.pages = true) (hfresh : w.archive.freshState = w.archive.state)
    (hop : w.archive.op = .record n) (hq : w.archive.queue = q :: rest) (hi : q.index ≠ some max32) :
    w.recordProgrammed.archive.pages = (w.archive.programmed n q rest).pages := by
  rw [Wake.recordProgrammed_eq hwf hfresh hop hq hi, Wake.kick_pages, Wake.gap_eq]
  show ((w.durable n q rest).takeWaiting.archive.gapped _).pages = _
  rw [(Archive.gapped_frame _ _).1, Wake.takeWaiting_pages, (w.durable_frame n q rest).1]

/-- The record of the last index is durable, and the archive fails: it drops its queue and its waiting line (R159). -/
theorem Wake.recordProgrammed_last (hlive : w.archive.state.isFailed = false) (hop : w.archive.op = .record n)
    (hq : w.archive.queue = q :: rest) (hi : q.index = some max32) :
    w.recordProgrammed.archive =
      { w.archive.programmed n q rest with indexEnd := true, state := .failed .indexEnd, queue := [], waiting := [] } := by
  generalize hv : ({ w with archive := { w.archive.programmed n q rest with indexEnd := true } } : Wake).reportDurable q = v
  have hnote : (w.archive.programmed n q rest).noteIndex q = { w.archive.programmed n q rest with indexEnd := true } := if_pos hi
  have hstep : w.recordProgrammed = (v.freshState.takeWaiting.gap).kick := by
    rw [← hv, ← hnote]
    unfold Wake.recordProgrammed
    simp only [hop, hq]
    rfl
  have harchive : v.archive = { w.archive.programmed n q rest with indexEnd := true } := by
    rw [← hv]
    exact (Wake.reportDurable_frame _ q).1
  have hstate : v.archive.state = w.archive.state := by
    rw [harchive]
    rfl
  have hfresh : v.archive.freshState = .failed .indexEnd := by
    rw [harchive]
    exact (if_neg (show ¬ w.archive.state.isFailed = true by simp [hlive])).trans (if_pos rfl)
  have hfails : v.freshState.archive =
      { w.archive.programmed n q rest with indexEnd := true, state := .failed .indexEnd, queue := [], waiting := [] } := by
    rw [Wake.freshState_fails (by rw [hfresh, hstate]; intro he; rw [← he] at hlive; cases hlive) (by rw [hfresh]; rfl),
      Wake.dropAll_archive]
    show ({ v.archive with state := v.archive.freshState, queue := [], waiting := [] } : Archive) = _
    rw [hfresh, harchive]
  have htake : v.freshState.takeWaiting = v.freshState := by
    unfold Wake.takeWaiting
    simp only [hfails]
  have hgap : v.freshState.gap = v.freshState := by
    rw [Wake.gap_eq]
    rw [Archive.gapped_failed (by rw [hfails]; rfl)]
  rw [hstep, htake, hgap, Wake.kick_archive, Archive.begin_rest _ (.inr (.inl (by rw [hfails]; rfl))), ite_self, hfails]

end

/-! ### The blocks at the end of the command -/

section

variable {s : State} {n : Nat} {q : QueuedRecord} {rest : List QueuedRecord}

/-- The state with other blocks has them, and its own others. -/
theorem State.withWake_blocks (s : State) (w : Wake) :
    SameBlocks { s with archive := w.archive, gauging := w.gauging, notices := w.notices } (s.withWake w) := .of_ports rfl

/-- A notice that finds room and is not a LEVEL notice is told. -/
theorem NoticeQueue.hand_told (s : State) (b : NoticeBody) (hb : noticeKind b ≠ 1) (hroom : s.notices.held.length < 16) :
    (s.notices.hand s.clock.time b).1 = (s.told b).notices := by
  have hl : ({ time := s.clock.time, body := b, inTransmission := false } : Notice).isLevel = false := by simpa [Notice.isLevel] using hb
  unfold NoticeQueue.hand
  simp only [hl, Bool.false_and, Bool.false_eq_true, if_false]
  rw [if_pos hroom]
  rfl

theorem Wake.computingEnd_told {s : State} {w : Wake} {g : GaugingRecord} (hn : w.notices = s.notices) (ht : w.time = s.clock.time)
    (hc : w.gauging.computing = some g) (hroom : s.notices.held.length < 16) (index : Option Nat) (b : Bool) :
    (w.computingEnd index b).notices = (s.told (.gauging g.id g.cause g.qMeas g.candidate b)).notices := by
  have hnotices : (w.computingEnd index b).notices = (w.notices.hand w.time (.gauging g.id g.cause g.qMeas g.candidate b)).1 := by
    unfold Wake.computingEnd
    simp only [hc]
    rfl
  rw [hnotices, hn, ht]
  exact NoticeQueue.hand_told s _ (by simp [noticeKind]) hroom

theorem exec_recordProgrammed_archive (hwf : pagesWf s.archive.pages = true) (hfresh : s.archive.freshState = s.archive.state)
    (hup : s.startingUp = false) (hop : s.archive.op = .record n) (hq : s.archive.queue = q :: rest) (hi : q.index ≠ some max32)
    (hlen : rest.length < 32) :
    (s.withWake s.wake.recordProgrammed).settle.archive = (s.archive.afterRecord n q rest s.clock.time).begin :=
  congrArg (fun w : Wake => w.archive) (Wake.recordProgrammed_short (w := s.wake) hwf hfresh hup hop hq hi hlen)

/-- A durable record of which nobody but its request was to be told. -/
theorem exec_recordProgrammed_quiet (hwf : pagesWf s.archive.pages = true) (hfresh : s.archive.freshState = s.archive.state)
    (hup : s.startingUp = false) (hop : s.archive.op = .record n) (hq : s.archive.queue = q :: rest) (hi : q.index ≠ some max32)
    (hlen : rest.length < 32) (ho : q.owner ≠ .gauging) :
    exec .recordProgrammed s =
      .next ({ s with
        archive := (s.archive.afterRecord n q rest s.clock.time).begin
        ports := s.ports.entered s.archive.nextOwner } : State).settle := by
  have hstep := Wake.recordProgrammed_short (w := s.wake) hwf hfresh hup hop hq hi hlen
  rw [Wake.durable, Wake.reportDurable_quiet _ ho] at hstep
  show Host.Outcome.next (s.withWake s.wake.recordProgrammed).settle = _
  rw [hstep]
  rfl

/-- A durable record of the gauging unit ends COMPUTING. -/
theorem exec_recordProgrammed_gauging (hwf : pagesWf s.archive.pages = true) (hfresh : s.archive.freshState = s.archive.state)
    (hup : s.startingUp = false) (hop : s.archive.op = .record n) (hq : s.archive.queue = q :: rest) (hi : q.index ≠ some max32)
    (hlen : rest.length < 32) (ho : q.owner = .gauging) {g : GaugingRecord} (hc : s.gauging.computing = some g)
    (hroom : s.notices.held.length < 16) :
    ∃ t, exec .recordProgrammed s = .next t ∧ t.archive = (s.archive.afterRecord n q rest s.clock.time).begin ∧
      SameBlocks
        { s.told (.gauging g.id g.cause g.qMeas g.candidate false) with
          archive := (s.archive.afterRecord n q rest s.clock.time).begin
          gauging := s.gauging.atEnd g q.index false } t := by
  have hstep := Wake.recordProgrammed_short (w := s.wake) hwf hfresh hup hop hq hi hlen
  have hend : s.wake.durable n q rest =
      ({ s.wake with archive := s.archive.programmed n q rest } : Wake).computingEnd q.index false := Wake.reportDurable_gauging _ ho
  have hgauging := Wake.computingEnd_gauging (w := { s.wake with archive := s.archive.programmed n q rest }) hc q.index false
  have hnotices := Wake.computingEnd_told (s := s) (w := { s.wake with archive := s.archive.programmed n q rest }) rfl rfl hc hroom
    q.index false
  rw [← hend] at hgauging hnotices
  have hblocks := (s.withWake_blocks s.wake.recordProgrammed).trans (State.settle_sameBlocks _)
  rw [hstep] at hblocks
  refine ⟨_, rfl, by rw [hstep]; rfl, ?_⟩
  rw [hstep]
  have hbase : ({ s with
      archive := (s.archive.afterRecord n q rest s.clock.time).begin, gauging := (s.wake.durable n q rest).gauging
      notices := (s.wake.durable n q rest).notices } : State) =
      { s.told (.gauging g.id g.cause g.qMeas g.candidate false) with
        archive := (s.archive.afterRecord n q rest s.clock.time).begin
        gauging := s.gauging.atEnd g q.index false } := by
    rw [hgauging, hnotices]
    rfl
  rw [← hbase]
  exact hblocks

end

end Sys2Proof.Machine
end

section
/-! SUPPORT. The completions of the archive's operations, assembled (R29, R54, R65, R148, R151, R157 to R167). -/

namespace Sys2Proof.Machine

/-! ### PAGE_HEADER_PROGRAMMED and ERASE_COMPLETE (R157, R162) -/

/-- A page just opened with the next sequence number. -/
def Archive.openedPage (a : Archive) (elevation : Int) : Page :=
  { status := .opened, records := []
    header :=
      some { sequence := a.lastSequence + 1, elevation := elevation, checkOk := true, closed := false, retiredMark := false } }

/-- The archive with a page just opened. -/
def Archive.opened (a : Archive) (n : Nat) (elevation : Int) : Archive :=
  { a with op := .idle, lastSequence := a.lastSequence + 1, pages := Machine.setPage a.pages n (a.openedPage elevation) }

/-- The archive with a page closed. -/
def Archive.closed (a : Archive) (n : Nat) : Archive :=
  a.setPage n { (pageAt a.pages n).markClosed with status := .full }

/-- The archive with a page erased. -/
def Archive.erased (a : Archive) (n : Nat) : Archive := { a.setPage n Page.blank with op := .idle }

section

variable {s : State} {n : Nat} {elev : Int}

theorem exec_header_ends (hup : s.startingUp = false) (hop : s.archive.op = .header n elev) :
    exec .pageHeaderProgrammed s = .next ({ s with archive := (s.archive.opened n elev).begin } : State).settle := by
  have hop' : s.wake.archive.op = .header n elev := hop
  have hstep : s.wake.pageHeaderProgrammed = { s.wake with archive := (s.archive.opened n elev).begin } := by
    unfold Wake.pageHeaderProgrammed
    simp only [hop']
    exact Wake.kick_running (w := { s.wake with archive := s.archive.opened n elev }) hup
  show Host.Outcome.next (s.withWake s.wake.pageHeaderProgrammed).settle = _
  rw [hstep]
  rfl

theorem exec_closedMark_ends (hop : s.archive.op = .closedMark n) :
    exec .pageHeaderProgrammed s =
      .next ({ s with archive := (s.archive.closed n).takeNext n s.rating.elevation } : State).settle := by
  have hop' : s.wake.archive.op = .closedMark n := hop
  have hstep : s.wake.pageHeaderProgrammed =
      { s.wake with archive := (s.archive.closed n).takeNext n s.rating.elevation } := by
    unfold Wake.pageHeaderProgrammed
    simp only [hop']
    rfl
  show Host.Outcome.next (s.withWake s.wake.pageHeaderProgrammed).settle = _
  rw [hstep]
  rfl

theorem exec_erase_ends_open (hup : s.startingUp = false) (hop : s.archive.op = .erase n)
    (ho : (s.archive.erased n).openPage.isSome = true) :
    exec .eraseComplete s = .next ({ s with archive := (s.archive.erased n).begin } : State).settle := by
  have hop' : s.wake.archive.op = .erase n := hop
  have hstep : s.wake.eraseComplete = { s.wake with archive := (s.archive.erased n).begin } := by
    unfold Wake.eraseComplete
    simp only [hop']
    exact (if_pos ho).trans (Wake.kick_running (w := { s.wake with archive := s.archive.erased n }) hup)
  show Host.Outcome.next (s.withWake s.wake.eraseComplete).settle = _
  rw [hstep]
  rfl

theorem exec_erase_ends_closed (hop : s.archive.op = .erase n) (ho : (s.archive.erased n).openPage = none) :
    exec .eraseComplete s =
      .next ({ s with archive := { s.archive.erased n with op := .header n s.rating.elevation } } : State).settle := by
  have hop' : s.wake.archive.op = .erase n := hop
  have hstep : s.wake.eraseComplete =
      { s.wake with archive := { s.archive.erased n with op := .header n s.rating.elevation } } := by
    unfold Wake.eraseComplete
    simp only [hop']
    refine (if_neg ?_).trans rfl
    show ¬ (s.archive.erased n).openPage.isSome = true
    simp [ho]
  show Host.Outcome.next (s.withWake s.wake.eraseComplete).settle = _
  rw [hstep]
  rfl

end

section

variable {a : Archive} {n : Nat}

theorem Archive.opened_openPage (h : pagesWf a.pages = true) (hn : n < pageCount) (ho : a.openPage = none) (elev : Int) :
    (a.opened n elev).openPage = some n :=
  Archive.openPage_setPage_same (p := a.openedPage elev) h hn rfl (.inl ho)

/-- An erase leaves the canonical form, and an OPEN page that it is not an erase of. -/
theorem Archive.erased_openPage (h : pagesWf a.pages = true) (ho : a.openPage ≠ some n) : (a.erased n).openPage = a.openPage := by
  refine Archive.openPage_setPage_other (p := Page.blank) h ?_ nofun ho
  show pagesWf (Machine.setPage a.pages n Page.blank) = true
  rw [Machine.setPage, if_pos rfl]
  exact (pagesWf_iff _).2 (pagesFrom_drop n ((pagesWf_iff _).1 h))

/-- A command after which an archive with another of its blocks alone stands. -/
theorem archive_ends {i : Instr} {s : State} {b : Archive} (hexec : exec i s = .next ({ s with archive := b } : State).settle) :
    ∃ t, exec i s = .next t ∧ t.archive = b ∧ (∀ p, t.ports.slot p = s.ports.slot p) ∧ SameBlocks { s with archive := b } t :=
  ⟨_, hexec, rfl, fun p => State.settle_slot _ p, State.settle_sameBlocks _⟩

end

/-! ### The record that joins from the waiting line (R161) -/

/-- The request of a record that joins the queue is answered where it waited for that alone. -/
theorem Ports.entered_told {ps : Ports} {p : Port} {id : Nat} {o : Owed} (h : ps.slot p = some o) (hid : o.id = id)
    (hans : o.answered = false) (hw : o.waitWrite = false) (hg : o.waitGauging = none) (hv : o.waitVerify = false)
    (hu : o.unfinished = false) (hd : o.dropped = false) :
    (ps.entered (.request p id)).Told p { code := o.code, tag := o.tag, result := .ok, payload := o.payload, answers := true } := by
  have htold := Ports.report_told (fun o : Owed => { o with waitRecord := false }) h hid hans hans (by simp [Owed.complete, hw, hg, hv])
  have hresult : ({ o with waitRecord := false } : Owed).result = .ok := by simp [Owed.result, hu, hd]
  have hpayload : ({ o with waitRecord := false } : Owed).resultPayload = o.payload := by simp [Owed.resultPayload, hu]
  rw [hresult, hpayload] at htold
  exact htold

theorem Ports.entered_quiet (ps : Ports) {o : Owner} (h : ∀ p id, o ≠ .request p id) : ps.entered o = ps := by
  cases o with
  | nobody | gauging => rfl
  | request p id => exact absurd rfl (h p id)

theorem QueuedRecord.index_ne_last {q : QueuedRecord} {k : Nat} (hk : q.index = some k) (hlt : k < 4294967295) :
    q.index ≠ some max32 := by
  rw [hk]
  intro he
  exact absurd (Option.some.inj he) (show k ≠ 4294967295 by omega)

/-- What the archive goes on with after a durable record: nothing in flight, and the waiting line shorter by its oldest. -/
theorem Archive.afterRecord_frame (a : Archive) (n : Nat) (q : QueuedRecord) (rest : List QueuedRecord) (time : Nat) :
    (a.afterRecord n q rest time).op = .idle ∧ (a.afterRecord n q rest time).state = a.state ∧
      (a.afterRecord n q rest time).waiting = a.waiting.drop 1 ∧
      (a.afterRecord n q rest time).pages = (a.programmed n q rest).pages := by
  obtain ⟨hpages, hop, hstate, hwaiting⟩ := (a.programmed n q rest).movedUp.gapped_frame time
  exact ⟨hop, hstate, hwaiting, hpages⟩

/-- A record that finds room is queued, and begins programming where the queue's head can (R160, R161). -/
theorem Wake.hand_begins (w : Wake) (r : Record) (time : Nat) (owner : Owner) (hlive : w.archive.state.isFailed = false)
    (hlen : w.archive.queue.length < 32) (hwait : w.archive.waiting = []) :
    ∀ q, q = { record := r, time := time, owner := owner, index := none } →
      (w.hand r time owner).gauging = w.gauging ∧ (w.hand r time owner).notices = w.notices ∧
      (owner = .nobody ∨ owner = .gauging → (w.hand r time owner).ports = w.ports) ∧
      (w.startingUp = true ∨ w.archive.op ≠ .idle ∨ w.archive.openPage = none →
        (w.hand r time owner).archive = { w.archive with queue := w.archive.queue ++ [q] }) ∧
      (w.startingUp = false → w.archive.op = .idle → ∀ n, w.archive.openPage = some n →
        ∀ first rest, w.archive.queue ++ [q] = first :: rest →
          ProgrammingBegun w.archive (w.hand r time owner).archive n first rest) := by
  intro q hq
  have hroom := Archive.hasRoom_eq_true hlive hlen hwait
  obtain ⟨-, -, -, -, hgauging, hnotices, hports⟩ := w.hand_room r time owner hroom
  have harchive := Wake.hand_enters_archive r time owner hroom _ rfl
  rw [← hq] at harchive
  refine ⟨hgauging, hnotices, fun ho => ?_, fun hrest => ?_, fun hup hop n ho first rest hqueue => ?_⟩
  · rw [hports]
    rcases ho with rfl | rfl <;> rfl
  · rw [harchive]
    split
    · rfl
    · rename_i hup
      refine Archive.begin_rest _ ?_
      rcases hrest with h | h | h
      · exact absurd h hup
      · exact .inl h
      · exact .inr (.inr (.inl h))
  · rw [harchive, hup]
    exact ProgrammingBegun.of_queue
      (Archive.begin_spec { w.archive with queue := w.archive.queue ++ [q] } n first rest hop hlive ho hqueue)

/-- What a durable record on the OPEN page leaves and begins, told to the producers of the record and of the one that moves up. -/
theorem exec_recordProgrammed_goesOn {s : State} {n k : Nat} {q : QueuedRecord} {rest : List QueuedRecord} {b : Archive}
    (hwf : pagesWf s.archive.pages = true) (hup : s.startingUp = false) (hlive : s.archive.state.isFailed = false)
    (hfresh : s.archive.freshState = s.archive.state) (hop : s.archive.op = .record n) (ho : s.archive.openPage = some n)
    (hqueue : s.archive.queue = q :: rest) (hk : q.index = some k) (hlt : k < 4294967295) (hshort : rest.length < 32)
    (hafter : s.archive.afterRecord n q rest s.clock.time = b) :
    ∃ t, exec .recordProgrammed s = .next t ∧ (b.queue = [] → t.archive = b) ∧
      (∀ first more, b.queue = first :: more → ProgrammingBegun b t.archive n first more) ∧
      (q.owner ≠ .gauging → SameBlocks { s with archive := t.archive } t ∧
        ((∀ p id, (s.archive.waiting.head?.map (·.owner)) ≠ some (.request p id)) →
          ∀ p, t.ports.slot p = s.ports.slot p)) ∧
      (q.owner = .gauging → s.notices.held.length < 16 → ∀ g, s.gauging.computing = some g →
        ∀ r : GaugingRecord, r = { g with flags := { g.flags with notArchived := false } } →
        SameBlocks
          { s.told (.gauging r.id r.cause r.qMeas r.candidate false) with
            archive := t.archive
            gauging :=
              { s.gauging with
                computing := none, result := .ready
                list := s.gauging.list.drop (s.gauging.list.length - 7) ++ [{ record := r, index := some k }] } } t) := by
  have hi := QueuedRecord.index_ne_last hk hlt
  obtain ⟨hidle, hstate, -, hpages⟩ := s.archive.afterRecord_frame n q rest s.clock.time
  have hopen : b.openPage = some n := by
    rw [← hafter, Archive.openPage_congr hpages]
    exact Archive.programmed_openPage hwf ho q rest
  obtain ⟨hnone, hsome⟩ := Archive.begin_next (hafter ▸ hidle) (by rw [← hafter, hstate]; exact hlive) hopen
  by_cases howner : q.owner = .gauging
  · have harchive := exec_recordProgrammed_archive hwf hfresh hup hop hqueue hi hshort
    rw [hafter] at harchive
    rw [← harchive] at hnone hsome
    refine ⟨_, rfl, hnone, hsome, fun he => absurd howner he, fun _ hroom g hg r hr => ?_⟩
    obtain ⟨t, ht, htarchive, hblocks⟩ :=
      exec_recordProgrammed_gauging hwf hfresh hup hop hqueue hi hshort howner hg hroom
    obtain rfl := Host.Outcome.next.inj ht
    rw [← htarchive, hk] at hblocks
    subst hr
    exact hblocks
  · have hexec := exec_recordProgrammed_quiet hwf hfresh hup hop hqueue hi hshort howner
    rw [hafter] at hexec
    refine ⟨_, hexec, hnone, hsome, fun _ => ⟨SameBlocks.trans (.of_ports rfl) (State.settle_sameBlocks _), fun hother p => ?_⟩,
      fun he => absurd he howner⟩
    rw [State.settle_slot]
    have hquiet : s.ports.entered s.archive.nextOwner = s.ports := Ports.entered_quiet _ fun p id he => by
      refine hother p id ?_
      cases hw : s.archive.waiting.head? with
      | none => rw [Archive.nextOwner, hw] at he; cases he
      | some x =>
        rw [Archive.nextOwner, hw] at he
        rw [Option.map_some]
        exact congrArg some he
    exact congrArg (fun ps : Ports => ps.slot p) hquiet

/-- Settles O57: by the room a record finds, by the FAILED archive that drops it, and by what each completion leaves and begins. -/
theorem archiveOperationsComplete : Obligations.ArchiveOperationsComplete := by
  refine ⟨fun w r time owner hlive hlen hwait q hq => ?_, fun w r time owner => ⟨fun hlive hfull => ⟨fun n hn => ?_, fun hn ho hfree => ?_,
    fun hn ho => ?_⟩, fun hf => ⟨fun ho => ?_, fun p id ho o hslot hid hans => ?_, fun ho g hg => ?_⟩⟩,
    fun s p tag ht h hh hf => ⟨fun hfrozen => freezeRating_dropped s p tag ht h hh hf hfrozen,
      fun x time hfloor ha hs => setTime_dropped s p tag ht h hh hf x time hfloor ha hs,
      fun f hlo hhi => setShift_dropped s p tag ht h hh hf f hlo hhi⟩,
    fun s hwf hup hlive hfresh => ⟨?_, ?_, ?_, ?_, ?_, ?_, ?_, ?_⟩⟩
  · exact Wake.hand_begins w r time owner hlive hlen hwait q hq
  · rw [Wake.hand_counts_obs r time owner hlive (Archive.hasRoom_eq_false hfull) hn, Archive.countObs, heldCount_eq]
  · rw [Wake.hand_counts_other r time owner hlive (Archive.hasRoom_eq_false hfull) hn ho hfree, heldCount_eq]
  · exact Wake.hand_waits r time owner hlive (Archive.hasRoom_eq_false hfull) hn ho
  · rw [Wake.hand_failed w r time owner hf, ho]
    rfl
  · rw [Wake.hand_failed w r time owner hf, ho]
    exact ⟨rfl, fun q hq => w.ports.report_other p id _ hq, Ports.report_dropped hslot hid hans⟩
  · rw [Wake.hand_failed w r time owner hf, ho]
    exact ⟨w.computingEnd_archive none true, Wake.computingEnd_gauging hg none true⟩
  · rintro n hop hn q hhead k hk hlt rest hrest pages hpages
    have hqueue : s.archive.queue = q :: rest := by
      obtain ⟨l, hl⟩ := List.head?_eq_some_iff.1 hhead
      rw [hrest, hl]
      rfl
    have hi := QueuedRecord.index_ne_last hk hlt
    have hprog : s.archive.programmed n q rest = { s.archive with pages := pages, op := .idle, queue := rest } := by
      rw [Archive.programmed_eq _ _ _ hk, ← hpages]
    have hmoved : rest = [] → s.archive.waiting = [] →
        (s.archive.programmed n q rest).movedUp = { s.archive with pages := pages, op := .idle, queue := [] } := fun hnil hwait => by
      rw [Archive.movedUp_nil (a := s.archive.programmed n q rest) hwait, hprog, hnil]
    have hafter : rest = [] → s.archive.waiting = [] → s.archive.obsDropped + s.archive.othersDropped = 0 →
        (s.archive.afterRecord n q rest s.clock.time).begin = { s.archive with pages := pages, op := .idle, queue := [] } :=
      fun hnil hwait hsum => by
        rw [Archive.afterRecord, Archive.gapped_rest (.inr (by rw [hmoved hnil hwait]; exact hsum)), hmoved hnil hwait]
        exact Archive.begin_rest _ (.inr (.inr (.inr rfl)))
    have hquiet : s.archive.waiting = [] → s.ports.entered s.archive.nextOwner = s.ports := fun hwait => by
      rw [Archive.nextOwner, hwait]
      rfl
    refine ⟨⟨_, rfl, ?_⟩, fun hlen ho first line hwait => ?_, fun hnil hwait ho hsum => ?_, fun hnil hwait ho hsum => ?_,
      fun hnil hwait ho hsum hroom g hg r hr => ?_⟩
    · have hkept := Wake.recordProgrammed_pages (w := s.wake) hwf hfresh hop hqueue hi
      refine hkept.trans ?_
      show (s.archive.programmed n q rest).pages = pages
      rw [hprog]
    · have hshort : rest.length < 32 := by
        rw [hqueue, List.length_cons] at hlen
        omega
      have hexec := exec_recordProgrammed_quiet hwf hfresh hup hop hqueue hi hshort ho
      have hafter : s.archive.afterRecord n q rest s.clock.time =
          { s.archive with pages := pages, op := .idle, queue := rest ++ [first], waiting := line } := by
        rw [Archive.afterRecord, hprog, Archive.gapped_rest (.inl (by simp [Archive.movedUp, hwait])), Archive.movedUp]
        simp [hwait]
      refine ⟨_, hexec, ?_, ?_, fun p id howner o hslot hid hans hw hg hv hu hd => ?_⟩
      · show (s.archive.afterRecord n q rest s.clock.time).begin.waiting = line
        rw [(Archive.begin_frame _).2.2.1, hafter]
      · show (s.archive.afterRecord n q rest s.clock.time).begin.queue.map _ = _
        rw [Archive.begin_queue, hafter, List.map_append]
        rfl
      · have hnext : s.archive.nextOwner = .request p id := by
          rw [Archive.nextOwner, hwait, ← howner]
          rfl
        have htold := Ports.entered_told hslot hid hans hw hg hv hu hd
        rw [← hnext] at htold
        exact Ports.Told.answered (v := { s with
          archive := (s.archive.afterRecord n q rest s.clock.time).begin, ports := s.ports.entered s.archive.nextOwner }) htold
    · have hexec := exec_recordProgrammed_quiet hwf hfresh hup hop hqueue hi (by simp [hnil]) ho
      rw [hquiet hwait, hafter hnil hwait hsum] at hexec
      obtain ⟨t, ht, -, hslots, hblocks⟩ := archive_ends hexec
      exact ⟨t, ht, hslots, hblocks⟩
    · have hexec := exec_recordProgrammed_quiet hwf hfresh hup hop hqueue hi (by simp [hnil]) ho
      replace hmoved := hmoved hnil hwait
      have hgapped := Archive.gapped_due (a := (s.archive.programmed n q rest).movedUp) (time := s.clock.time)
        (by rw [hmoved]; exact hlive) (by rw [hmoved]) (by rw [hmoved]; exact hsum)
      rw [hquiet hwait] at hexec
      obtain ⟨-, -, -, -, -, hobs, -, -, hothers, -⟩ := (s.archive.afterRecord n q rest s.clock.time).begin_frame
      have hqueue' := (s.archive.afterRecord n q rest s.clock.time).begin_queue
      rw [show s.archive.afterRecord n q rest s.clock.time = _ from hgapped, hmoved] at hobs hothers hqueue'
      obtain ⟨t, ht, htarchive, hslots, hblocks⟩ := archive_ends hexec
      rw [← htarchive] at hblocks
      rw [Archive.afterRecord, hgapped, hmoved] at htarchive
      rw [← htarchive] at hobs hothers hqueue'
      exact ⟨t, ht, hslots, hblocks, hobs, hothers, hqueue'⟩
    · have hheld : s.notices.held.length < 16 := by
        simp only [State.hasRoom, Bool.and_eq_true, decide_eq_true_eq] at hroom
        exact hroom.1.2
      obtain ⟨t, ht, -, hblocks⟩ := exec_recordProgrammed_gauging hwf hfresh hup hop hqueue hi (by simp [hnil]) ho hg hheld
      rw [hafter hnil hwait hsum, hk] at hblocks
      subst hr
      exact ⟨t, ht, hblocks⟩
  · rintro n hop ho hlen q rest hqueue k hk hlt a ha b hb hgap
    have hshort : rest.length < 32 := by
      rw [hqueue, List.length_cons] at hlen
      exact hlen
    have hmoved : (s.archive.programmed n q rest).movedUp = a := by
      rw [Archive.programmed_eq _ _ _ hk, ha]
      rfl
    have hlive' : a.state.isFailed = false := by
      rw [ha]
      exact hlive
    have hafter : s.archive.afterRecord n q rest s.clock.time = b := by
      rw [Archive.afterRecord, hmoved]
      by_cases hrest : a.queue ≠ [] ∨ a.obsDropped + a.othersDropped = 0
      · rw [Archive.gapped_rest hrest, hb hrest]
      · rw [not_or, not_not] at hrest
        obtain ⟨hnil, hsum⟩ := hrest
        rw [Archive.gapped_due hlive' hnil (by omega), hgap hnil (by omega)]
    exact exec_recordProgrammed_goesOn hwf hup hlive hfresh hop ho hqueue hk hlt hshort hafter
  · rintro n elev hop hn ho q rest hqueue
    obtain ⟨t, ht, harchive, hslots, hblocks⟩ := archive_ends (exec_header_ends hup hop)
    have hopen := Archive.opened_openPage hwf hn ho elev
    rw [← harchive] at hblocks
    refine ⟨t, ht, hslots, hblocks, ?_⟩
    rw [harchive]
    exact (Archive.begin_next (b := s.archive.opened n elev) rfl hlive hopen).2 q rest hqueue
  · rintro n m hop ho hm a rfl
    have hopen : (s.archive.erased n).openPage = some m := by
      rw [Archive.erased_openPage hwf (by rw [ho]; exact fun he => hm (Option.some.inj he)), ho]
    obtain ⟨t, ht, harchive, hslots, hblocks⟩ := archive_ends (exec_erase_ends_open hup hop (by rw [hopen]; rfl))
    obtain ⟨hnone, hsome⟩ := Archive.begin_next (b := s.archive.erased n) rfl hlive hopen
    rw [← harchive] at hblocks hnone hsome
    exact ⟨t, ht, hslots, hblocks, hnone, hsome⟩
  · rintro n hop hn q hhead hk
    obtain ⟨rest, hqueue⟩ := List.head?_eq_some_iff.1 hhead
    have hlast := Wake.recordProgrammed_last (w := s.wake) hlive hop hqueue hk
    refine ⟨_, rfl, ?_⟩
    show s.wake.recordProgrammed.archive.state = _ ∧ s.wake.recordProgrammed.archive.queue = _ ∧
      s.wake.recordProgrammed.archive.waiting = _ ∧ s.wake.recordProgrammed.archive.op = _ ∧
      s.wake.recordProgrammed.archive.pages = _
    rw [hlast]
    exact ⟨rfl, rfl, rfl, rfl, congrArg Archive.pages (s.archive.programmed_eq n rest hk)⟩
  · rintro n elev hop hn hq
    obtain ⟨t, ht, -, hslots, hblocks⟩ := archive_ends (exec_header_ends hup hop)
    rw [Archive.begin_rest (s.archive.opened n elev) (.inr (.inr (.inr hq)))] at hblocks
    exact ⟨t, ht, hslots, hblocks⟩
  · rintro n hop hn p rfl
    obtain ⟨t, ht, harchive, hslots, hblocks⟩ := archive_ends (exec_closedMark_ends hop)
    refine ⟨t, ht, hslots, ?_, fun k hk => ?_⟩
    · rw [harchive]
      rw [Archive.takeNext_frame] at hblocks
      exact hblocks
    · rw [harchive, Archive.takeNext_ring] at hk
      rw [harchive, Archive.takeNext_pages]
      exact (s.archive.closed n).takeNext_op n s.rating.elevation hk
  · rintro n hop hn ho
    have hopen : (s.archive.erased n).openPage = none := by
      rw [Archive.erased_openPage hwf (by rw [ho]; exact nofun), ho]
    obtain ⟨t, ht, -, hslots, hblocks⟩ := archive_ends (exec_erase_ends_closed hop hopen)
    exact ⟨t, ht, hslots, hblocks⟩

end Sys2Proof.Machine
end

section
/-! SUPPORT. What the archive scan finds: the states of the pages, the newest page, the first operation after start-up, and what the
records held give (R14, R28, R31, R144, R172, R173). -/

namespace Sys2Proof.Machine

/-! ### The pages of a canonical list -/

section

variable {l : List (Nat × Page)} {b n : Nat} {p : Page} {newest again : Option Nat}

theorem not_mem_below (h : pagesFrom b l) (hn : n < b) (q : Page) : (n, q) ∉ l := by
  induction l generalizing b with
  | nil => exact nofun
  | cons e l ih =>
    obtain ⟨j, x⟩ := e
    obtain ⟨hj, -, -, hl⟩ := h
    intro hq
    rcases List.mem_cons.1 hq with he | hq
    · have := (Prod.mk.inj he).1
      omega
    · exact ih hl (by omega) hq

/-- A page that stands in a canonical list is the page of its number. -/
theorem pageAt_of_mem (h : pagesFrom b l) (hm : (n, p) ∈ l) : pageAt l n = p := by
  induction l generalizing b with
  | nil => cases hm
  | cons e l ih =>
    obtain ⟨k, q⟩ := e
    obtain ⟨-, -, -, hl⟩ := h
    rcases List.mem_cons.1 hm with he | hm
    · obtain ⟨rfl, rfl⟩ := Prod.mk.inj he
      rw [pageAt, if_pos rfl]
    · have hat := ih hl hm
      have hlt : k ≠ n := by
        rintro rfl
        exact not_mem_below hl (Nat.lt_succ_self k) p hm
      rw [pageAt, if_neg hlt]
      exact hat

/-! ### The states of the pages (R172) -/

theorem mem_judgePages {h : PageHeader} (hm : (n, p) ∈ l) (hh : p.header = some h) :
    (n, { p with status := judgedStatus newest again n h }) ∈ judgePages newest again l := by
  induction l with
  | nil => cases hm
  | cons e l ih =>
    obtain ⟨k, q⟩ := e
    rcases List.mem_cons.1 hm with he | hm
    · obtain ⟨rfl, rfl⟩ := Prod.mk.inj he
      simp only [judgePages, hh]
      exact List.mem_cons_self
    · have htail := ih hm
      unfold judgePages
      split
      · exact htail
      · exact List.mem_cons_of_mem _ htail

/-- A page without a header is not among the pages judged: it is ERASED. -/
theorem judgePages_erased (h : pagesFrom b l) (hm : (n, p) ∈ l) (hh : p.header = none) :
    pageAt (judgePages newest again l) n = Page.blank := by
  induction l generalizing b with
  | nil => cases hm
  | cons e l ih =>
    obtain ⟨k, q⟩ := e
    have hat := pageAt_of_mem h hm
    obtain ⟨-, -, -, hl⟩ := h
    rw [pageAt] at hat
    by_cases hk : k = n
    · rw [if_pos hk] at hat
      subst hat hk
      simp only [judgePages, hh]
      exact pageAt_below (pagesFrom_judge newest again hl) (Nat.lt_succ_self k)
    · have hm' : (n, p) ∈ l := (List.mem_cons.1 hm).resolve_left fun he => hk (Prod.mk.inj he).1.symm
      have htail := ih hl hm'
      unfold judgePages
      split
      · exact htail
      · rw [pageAt, if_neg hk]
        exact htail

/-! ### The newest page (R172) -/

/-- The newest page: there is none exactly where no page passes; it passes, and none that passes has a greater sequence number. -/
theorem newestPage_spec (l : List (Nat × Page)) :
    (newestPage l = none ↔ ∀ e ∈ l, e.2.passing = false) ∧
      ∀ m, newestPage l = some m → m.2.passing = true ∧ ∀ e ∈ l, e.2.passing = true → e.2.sequence ≤ m.2.sequence := by
  induction l with
  | nil => exact ⟨by simp [newestPage], fun m hm => by cases hm⟩
  | cons e l ih =>
    obtain ⟨hnone, hsome⟩ := ih
    cases ho : newestPage l with
    | none =>
      have hrest := hnone.1 ho
      cases hp : e.2.passing with
      | false =>
        have hcons : newestPage (e :: l) = none := by simp [newestPage, ho, hp]
        rw [hcons]
        exact ⟨iff_of_true rfl fun f hf => (List.mem_cons.1 hf).elim (fun he => by rw [he, hp]) (hrest f), nofun⟩
      | true =>
        have hcons : newestPage (e :: l) = some e := by simp [newestPage, ho, hp]
        rw [hcons]
        refine ⟨iff_of_false nofun fun hall => by simpa [hp] using hall e List.mem_cons_self, ?_⟩
        rintro m ⟨⟩
        refine ⟨hp, fun f hf hfp => ?_⟩
        rcases List.mem_cons.1 hf with rfl | hf
        · exact Nat.le_refl _
        · rw [hrest f hf] at hfp
          cases hfp
    | some m =>
      obtain ⟨hmp, hmax⟩ := hsome m ho
      have hmem : m ∈ e :: l := List.mem_cons_of_mem _ (newestPage_mem ho)
      by_cases hc : e.2.passing = true ∧ m.2.sequence < e.2.sequence
      · obtain ⟨hp, hlt⟩ := hc
        have hcons : newestPage (e :: l) = some e := by simp [newestPage, ho, hp, hlt]
        rw [hcons]
        refine ⟨iff_of_false nofun fun hall => by simpa [hmp] using hall m hmem, ?_⟩
        rintro m' ⟨⟩
        refine ⟨hp, fun f hf hfp => ?_⟩
        rcases List.mem_cons.1 hf with rfl | hf
        · exact Nat.le_refl _
        · exact (hmax f hf hfp).trans (Nat.le_of_lt hlt)
      · have hcons : newestPage (e :: l) = some m := by simp [newestPage, ho, hc]
        rw [hcons]
        refine ⟨iff_of_false nofun fun hall => by simpa [hmp] using hall m hmem, ?_⟩
        rintro m' ⟨⟩
        refine ⟨hmp, fun f hf hfp => ?_⟩
        rcases List.mem_cons.1 hf with rfl | hf
        · exact Nat.le_of_not_lt fun hlt => hc ⟨hfp, hlt⟩
        · exact hmax f hf hfp

/-- A page is the newest exactly where its number is the newest page's. -/
theorem newestPage_number (h : pagesFrom b l) (hm : (n, p) ∈ l) :
    (newestPage l).map (·.1) = some n ↔ newestPage l = some (n, p) := by
  constructor
  · intro hn
    obtain ⟨⟨k, q⟩, hq, rfl⟩ := Option.map_eq_some_iff.1 hn
    have hp := (pageAt_of_mem h (newestPage_mem hq)).symm.trans (pageAt_of_mem h hm)
    rw [hq, hp]
  · intro hn
    rw [hn]
    rfl

end

/-! ### The first operation (R172) -/

theorem lowestErased_eq_some {l : List (Nat × Page)} {n : Nat} (hn : n < 256) (he : (pageAt l n).status = .erased)
    (hlt : ∀ k, k < n → (pageAt l k).status ≠ .erased) : lowestErased l = some n := by
  rw [lowestErased, List.find?_range_eq_some]
  exact ⟨by simpa using he, List.mem_range.2 hn, fun k hk => by simpa using hlt k hk⟩

theorem lowestErased_eq_none {l : List (Nat × Page)} (h : ∀ n, n < 256 → (pageAt l n).status ≠ .erased) : lowestErased l = none := by
  rw [lowestErased, List.find?_eq_none]
  intro k hk
  simpa using h k (List.mem_range.1 hk)

/-- The first operation where no page passes. -/
theorem firstOperation_none (l : List (Nat × Page)) (again : Option Nat) :
    (∀ n, lowestErased l = some n → firstOperation l none again = .openFirst n) ∧
      (lowestErased l = none → firstOperation l none again = .nothing) := by
  refine ⟨fun n h => ?_, fun h => ?_⟩ <;> simp only [firstOperation, h]

/-- The first operation by the newest page. -/
theorem firstOperation_some (l : List (Nat × Page)) (n : Nat) {p : Page} {h : PageHeader} (hh : p.header = some h)
    (again : Option Nat) :
    (h.closed = true → firstOperation l (some (n, p)) again = .takeNext n) ∧
      (h.closed = false → p.cutOff = true → firstOperation l (some (n, p)) again = .close n) ∧
      (h.closed = false → p.cutOff = false → (∀ k, again = some k → firstOperation l (some (n, p)) again = .eraseAgain k) ∧
        (again = none → firstOperation l (some (n, p)) again = .nothing)) := by
  have hclosed : (p.header.map (·.closed)).getD false = h.closed := by rw [hh]; rfl
  refine ⟨fun hc => ?_, fun hc hcut => ?_, fun hc hcut => ⟨fun k hk => ?_, fun hk => ?_⟩⟩
  · simp only [firstOperation, hclosed, hc, if_true, ite_self]
  · simp only [firstOperation, hclosed, hc, hcut]
    rfl
  · simp only [firstOperation, hclosed, hc, hcut, hk]
    rfl
  · simp only [firstOperation, hclosed, hc, hcut, hk]
    rfl

/-! ### What the records give (R173) -/

/-- The greatest of the times of a list, from a number on. -/
theorem foldl_max_time (l : List StoredRecord) (n : Nat) :
    n ≤ l.foldl (fun n r => max n r.time) n ∧ (∀ r ∈ l, r.time ≤ l.foldl (fun n r => max n r.time) n) ∧
      (l.foldl (fun n r => max n r.time) n = n ∨ ∃ r ∈ l, r.time = l.foldl (fun n r => max n r.time) n) := by
  induction l generalizing n with
  | nil => simp
  | cons r l ih =>
    obtain ⟨hle, hall, hex⟩ := ih (max n r.time)
    rw [List.foldl_cons]
    refine ⟨(Nat.le_max_left _ _).trans hle, fun x hx => ?_, ?_⟩
    · rcases List.mem_cons.1 hx with rfl | hx
      · exact (Nat.le_max_right _ _).trans hle
      · exact hall x hx
    · rcases hex with he | ⟨x, hx, he⟩
      · rw [he]
        rcases Nat.le_total r.time n with hr | hr
        · exact .inl (Nat.max_eq_left hr)
        · exact .inr ⟨r, List.mem_cons_self, (Nat.max_eq_right hr).symm⟩
      · exact .inr ⟨x, List.mem_cons_of_mem _ hx, he⟩

/-- The records that the scan holds. -/
def scannedRecords (found : List (Nat × Page)) : List StoredRecord :=
  (heldPages (scan found).archive.pages).flatMap (fun e => e.2.records.takeWhile (·.intact))

section

variable (found : List (Nat × Page))

/-- What the scan finds, part by part. -/
theorem scan_parts :
    (scan found).archive.pages =
        judgePages ((newestPage found).map (·.1)) ((newestPage found).bind (fun e => eraseCutOff found e.1)) found ∧
      (scan found).archive.firstOp =
        firstOperation (scan found).archive.pages (newestPage found) ((newestPage found).bind (fun e => eraseCutOff found e.1)) ∧
      (scan found).archive.nextIndex =
        nextIndexOf (scannedRecords found).getLast? (((newestPage found).map (fun e => e.2.cutOff)).getD false) ∧
      (scan found).newestTime = (scannedRecords found).getLast?.map (·.time) ∧
      (scan found).floor = ((scannedRecords found).filter (fun r => r.record.isObsOrGap)).foldl (fun n r => max n r.time) 0 ∧
      (scan found).observation = ((scannedRecords found).filterMap (fun r => r.record.lastObservation)).getLast? ∧
      (scan found).gauging = ((scannedRecords found).filterMap (fun r => r.record.gaugingId)).getLast? :=
  ⟨rfl, rfl, rfl, rfl, rfl, rfl, rfl⟩

/-- An archive with a next index beyond the last is FAILED from the start (R159). -/
theorem scan_indexEnd {r : StoredRecord} (hr : (scannedRecords found).getLast? = some r)
    (h : 4294967295 < (scan found).archive.nextIndex) : (scan found).archive.state = .failed .indexEnd := by
  have hfresh : (scan found).archive.state = ({ (scan found).archive with state := .normal } : Archive).freshState := rfl
  have hindex : (scan found).archive.indexEnd =
      ((scannedRecords found).getLast?.isSome && decide (max32 < (scan found).archive.nextIndex)) := rfl
  have hend : (scan found).archive.indexEnd = true := by
    rw [hindex, hr, decide_eq_true h]
    rfl
  rw [hfresh]
  simp only [Archive.freshState, hend]
  rfl

/-- The floor is the greatest time of the OBS and GAP records held (R28). -/
theorem scan_floor :
    (∀ r ∈ scannedRecords found, r.record.isObsOrGap = true → r.time ≤ (scan found).floor) ∧
      ((scan found).floor ≠ 0 → ∃ r ∈ scannedRecords found, r.record.isObsOrGap = true ∧ r.time = (scan found).floor) := by
  obtain ⟨-, -, -, -, hfloor, -, -⟩ := scan_parts found
  obtain ⟨-, hall, hex⟩ := foldl_max_time ((scannedRecords found).filter (fun r => r.record.isObsOrGap)) 0
  rw [hfloor]
  refine ⟨fun r hr ho => hall r (List.mem_filter.2 ⟨hr, ho⟩), fun hne => ?_⟩
  obtain ⟨r, hr, ht⟩ := hex.resolve_left hne
  obtain ⟨hmem, ho⟩ := List.mem_filter.1 hr
  exact ⟨r, hmem, ho, ht⟩

end

end Sys2Proof.Machine
end

section
/-! SUPPORT. What a reset leaves: the state with its volatile items at their reset values, the hold of the start-up line, and the
settings restored from the storage (R9, R31, R39, R57, R102, R129, R192 to R196). -/

namespace Sys2Proof.Machine

/-! ### The state after a reset (R196) -/

/-- The settings storage as a reset finds it. -/
def State.foundMedium (s : State) (r : ResetInputs) : Medium :=
  r.damagedItems.foldl Medium.damage (cutWrite s.store.medium r.settingsWrite s.store.queue)

/-- What the scan finds at a reset. -/
def State.foundScan (s : State) (r : ResetInputs) : Scan :=
  scan (damagePages r.damagedHeaders r.damagedRecords (s.archive.cut r.archiveOp))

/-- The state that a reset restores, before the hold-at-start line is read. -/
def State.restored (s : State) (m : Medium) (x : Scan) (c : Clock) : State :=
  { elapsed := 0
    startingUp := true
    clock := c
    lau := m.lau x.observation
    rating := m.rating
    warning := m.warningUnit
    cable := m.cablewayUnit s.cable.lines
    gauging := Gauging.reset x.gauging
    notices := { held := [], overflowed := false }
    archive := x.archive
    store := { medium := m, queue := [], defaulted := m.failing }
    ports := { l := PortL.reset, t := PortAsync.reset, f := PortAsync.reset, nextId := 0 }
    pending := s.pending }

/-- What is told of a hold that the hold-at-start line begins (R39). -/
def Medium.startHold (m : Medium) : HoldBody :=
  { entered := true, cause := .startLine, limit := some (m.holdLimit.restore Factory.holdLimit), count := none, last := none }

/-- The state at the end of a reset with the hold-at-start line asserted. -/
def State.restoredHeld (s : State) (m : Medium) (x : Scan) (c : Clock) : State :=
  { s.restored m x c with
    lau :=
      { m.lau x.observation with
        hold :=
          { state := .held, timer := some (100 * m.holdLimit.restore Factory.holdLimit), manual := none, count := 0
            limit := m.holdLimit.restore Factory.holdLimit } }
    notices := { held := [{ time := c.time, body := .hold m.startHold, inTransmission := true }], overflowed := false }
    archive :=
      { x.archive with
        queue :=
          if x.archive.state.isFailed then []
          else [{ record := .hold m.startHold, time := c.time, owner := .nobody, index := none }] }
    ports :=
      { l := PortL.reset
        t :=
          { PortAsync.reset with
            sending :=
              some (.notice { time := c.time, body := .hold m.startHold, overflowed := false, lossSince := false }) }
        f := PortAsync.reset, nextId := 0 } }

section

variable {s : State} {m : Medium} {x : Scan} {c : Clock}

/-- Without a hold nothing is to be sent at the end of a reset. -/
theorem State.restored_settle : (s.restored m x c).settle = s.restored m x c := rfl

theorem after_zero (v : Nat) : after 0 v = 100 * v := Nat.zero_add _

theorem Wake.kick_startingUp {w : Wake} (h : w.startingUp = true) : w.kick = w := if_pos h

/-- The hold of the start-up line is told on Port T and recorded. -/
theorem State.restoredHeld_settle (hq : x.archive.queue = []) (hw : x.archive.waiting = []) :
    ((s.restored m x c).enterHeld .startLine .nobody).settle = s.restoredHeld m x c := by
  generalize hv : ({ s.restored m x c with
    lau :=
      { m.lau x.observation with
        hold :=
          { state := .held, timer := some (100 * m.holdLimit.restore Factory.holdLimit), manual := none, count := 0
            limit := m.holdLimit.restore Factory.holdLimit } }
    notices := { held := [{ time := c.time, body := .hold m.startHold, inTransmission := false }], overflowed := false } } :
    State) = v
  have hstep : (s.restored m x c).enterHeld .startLine .nobody = v.hand (.hold m.startHold) .nobody := by
    rw [← hv, ← after_zero]
    rfl
  have hhand : v.hand (.hold m.startHold) .nobody =
      { v with
        archive :=
          { x.archive with
            queue :=
              if x.archive.state.isFailed then []
              else [{ record := .hold m.startHold, time := c.time, owner := .nobody, index := none }] } } := by
    have harchive : v.archive = x.archive := by
      rw [← hv]
      rfl
    have htime : v.clock.time = c.time := by
      rw [← hv]
      rfl
    rw [State.hand]
    cases hf : x.archive.state.isFailed with
    | true =>
      rw [Wake.hand_failed v.wake _ _ _ (by rw [show v.wake.archive = x.archive from harchive, hf])]
      simp only [if_true, ← hq, ← harchive]
      rfl
    | false =>
      have hroom : v.wake.archive.hasRoom = true := by
        rw [show v.wake.archive = x.archive from harchive]
        exact Archive.hasRoom_eq_true hf (by rw [hq]; decide) hw
      have hup : v.wake.startingUp = true := by
        rw [← hv]
        rfl
      have hqueue : v.archive.queue ++ [({ record := .hold m.startHold, time := v.clock.time, owner := .nobody, index := none } :
          QueuedRecord)] = [{ record := .hold m.startHold, time := c.time, owner := .nobody, index := none }] := by
        rw [harchive, hq, htime]
        rfl
      rw [Wake.hand_enters _ _ _ hroom, Wake.kick_startingUp]
      · show ({ v with
          archive :=
            { v.archive with
              queue :=
                v.archive.queue ++ [{ record := .hold m.startHold, time := v.clock.time, owner := .nobody, index := none }] } } :
          State) = _
        rw [hqueue, harchive]
        rfl
      · exact hup
  rw [hstep, hhand, ← hv]
  rfl

end

/-- The state at the end of a reset. -/
def State.restart (s : State) (hold : Bool) (m : Medium) (x : Scan) (c : Clock) : State :=
  if hold then s.restoredHeld m x c else s.restored m x c

theorem State.resetWith_settle (s : State) (r : ResetInputs) (clock : Scan → Clock) :
    (s.resetWith r clock).settle = s.restart r.holdLine (s.foundMedium r) (s.foundScan r) (clock (s.foundScan r)) := by
  have hstep : s.resetWith r clock =
      if r.holdLine then (s.restored (s.foundMedium r) (s.foundScan r) (clock (s.foundScan r))).enterHeld .startLine .nobody
      else s.restored (s.foundMedium r) (s.foundScan r) (clock (s.foundScan r)) := rfl
  rw [hstep, State.restart]
  split
  · exact State.restoredHeld_settle rfl rfl
  · exact State.restored_settle

/-! ### The settings restored (R57, R193, R194, R195) -/

section

variable (m : Medium)

theorem Medium.failing_channel (c : Channel) : .channel c ∈ m.failing ↔ (m.channels.get c).ok = false := by
  cases c <;> simp [Medium.failing, PerChannel.toList, PerChannel.get, Four.toList]

theorem Medium.failing_threshold (n : Fin 8) : .threshold n ∈ m.failing ↔ (m.thresholds.get n).ok = false := by
  fin_cases n <;> simp [Medium.failing, PerChannel.toList, Four.toList]

theorem Medium.failing_slot (n : Fin 4) : .slot n ∈ m.failing ↔ (m.slots.get n).ok = false := by
  fin_cases n <;> simp [Medium.failing, PerChannel.toList, Four.toList, Four.get]

theorem Medium.failing_rest :
    (.acquisition ∈ m.failing ↔ m.acquisition.ok = false) ∧ (.holdLimit ∈ m.failing ↔ m.holdLimit.ok = false) ∧
      (.warning ∈ m.failing ↔ m.warning.ok = false) ∧ (.cableway ∈ m.failing ↔ m.cableway.ok = false) ∧
      (.shifts ∈ m.failing ↔ m.shifts.ok = false) ∧ (.datum ∈ m.failing ↔ m.datum.ok = false ∧ m.cell = none) := by
  refine ⟨?_, ?_, ?_, ?_, ?_, ?_⟩ <;> simp [Medium.failing, PerChannel.toList, Four.toList]

end

/-- The greatest write number wins, from a number below it on. -/
theorem foldl_newest {l : List (Fin 4 × SlotItem)} {x : Fin 4 × SlotItem} (hx : x ∈ l)
    (hmax : ∀ y ∈ l, y = x ∨ y.2.writeNumber < x.2.writeNumber) {best : Nat × Nat} (hb : best.1 < x.2.writeNumber) :
    (l.foldl (fun (best : Nat × Nat) x => if best.1 < x.2.writeNumber then (x.2.writeNumber, x.2.lastId) else best) best).2 =
      x.2.lastId := by
  have hrest : ∀ (l : List (Fin 4 × SlotItem)), (∀ y ∈ l, y.2.writeNumber ≤ x.2.writeNumber) →
      l.foldl (fun (best : Nat × Nat) x => if best.1 < x.2.writeNumber then (x.2.writeNumber, x.2.lastId) else best)
        (x.2.writeNumber, x.2.lastId) = (x.2.writeNumber, x.2.lastId) := by
    intro l hl
    induction l with
    | nil => rfl
    | cons y l ih =>
      rw [List.foldl_cons, if_neg (Nat.not_lt.2 (hl y List.mem_cons_self))]
      exact ih fun z hz => hl z (List.mem_cons_of_mem _ hz)
  induction l generalizing best with
  | nil => cases hx
  | cons y l ih =>
    rw [List.foldl_cons]
    rcases hmax y List.mem_cons_self with rfl | hlt
    · rw [if_pos hb, hrest l fun z hz => (hmax z (List.mem_cons_of_mem _ hz)).elim (fun e => by rw [e]) Nat.le_of_lt]
    · have hx' : x ∈ l := (List.mem_cons.1 hx).resolve_left fun e => by
        rw [e] at hlt
        exact Nat.lt_irrefl _ hlt
      refine ih hx' (fun z hz => hmax z (List.mem_cons_of_mem _ hz)) ?_
      split
      · exact hlt
      · exact hb

theorem foldl_newest_none {l : List (Fin 4 × SlotItem)} (h : ∀ y ∈ l, y.2.writeNumber = 0) (best : Nat × Nat) :
    l.foldl (fun (best : Nat × Nat) x => if best.1 < x.2.writeNumber then (x.2.writeNumber, x.2.lastId) else best) best = best := by
  induction l with
  | nil => rfl
  | cons y l ih =>
    rw [List.foldl_cons, if_neg (by rw [h y List.mem_cons_self]; exact Nat.not_lt_zero _)]
    exact ih fun z hz => h z (List.mem_cons_of_mem _ hz)

section

variable {m : Medium}

/-- A slot as it is restored: what it held where its check passes, vacant otherwise. -/
theorem Medium.rating_slot (m : Medium) (n : Fin 4) :
    m.rating.slots.get n = if (m.slots.get n).ok then (m.slots.get n).value else Factory.slot := by
  show (m.slots.map (fun i => i.restore Factory.slot)).get n = _
  match n with
  | 0 => rfl | 1 => rfl | 2 => rfl | 3 => rfl

theorem Medium.rating_writeNumber (m : Medium) (n : Fin 4) :
    (m.rating.slots.get n).writeNumber = if (m.slots.get n).ok then (m.slots.get n).value.writeNumber else 0 := by
  rw [Medium.rating_slot]
  split <;> rfl

/-- The last id assigned is that of the passing slot written last (R57). -/
theorem Medium.lastId_newest {n : Fin 4} (hok : (m.slots.get n).ok = true) (hpos : 0 < (m.slots.get n).value.writeNumber)
    (hmax : ∀ k : Fin 4, k ≠ n → (m.slots.get k).ok = true →
      (m.slots.get k).value.writeNumber < (m.slots.get n).value.writeNumber) :
    m.rating.lastId = (m.slots.get n).value.lastId := by
  have hslot : m.rating.slots.get n = (m.slots.get n).value := by rw [Medium.rating_slot, if_pos hok]
  show (m.rating.slots.toList.foldl _ (0, 0)).2 = _
  rw [Four.toList_eq, ← hslot]
  refine foldl_newest (x := (n, m.rating.slots.get n)) (List.mem_map.2 ⟨n, List.mem_finRange n, rfl⟩) (fun y hy => ?_)
    (by rw [hslot]; exact hpos)
  obtain ⟨k, -, rfl⟩ := List.mem_map.1 hy
  by_cases hk : k = n
  · exact .inl (by rw [hk])
  · refine .inr ?_
    show (m.rating.slots.get k).writeNumber < (m.rating.slots.get n).writeNumber
    rw [Medium.rating_writeNumber, hslot]
    split
    · rename_i hkok
      exact hmax k hk hkok
    · exact hpos

theorem Medium.lastId_none (h : ∀ n : Fin 4, (m.slots.get n).ok = true → (m.slots.get n).value.writeNumber = 0) :
    m.rating.lastId = 0 := by
  show (m.rating.slots.toList.foldl _ (0, 0)).2 = _
  rw [Four.toList_eq, foldl_newest_none]
  intro y hy
  obtain ⟨k, -, rfl⟩ := List.mem_map.1 hy
  show (m.rating.slots.get k).writeNumber = 0
  rw [Medium.rating_writeNumber]
  split
  · rename_i hok
    exact h k hok
  · rfl

theorem Medium.lau_channel (m : Medium) (o : Option Nat) (c : Channel) :
    (m.lau o).channels.get c = if (m.channels.get c).ok then (m.channels.get c).value else Factory.channels.get c := by
  cases c <;> rfl

theorem Medium.lau_status (m : Medium) (o : Option Nat) (c : Channel) :
    (m.lau o).status.get c =
      if ((m.lau o).channels.get c).enabled then some { fault := false, invalidRun := 0, validRun := 0 } else none := by
  cases c <;> rfl

theorem Medium.warning_threshold (m : Medium) (n : Fin 8) :
    m.warningUnit.settings.get n = if (m.thresholds.get n).ok then (m.thresholds.get n).value else Factory.threshold := by
  match n with
  | 0 => rfl | 1 => rfl | 2 => rfl | 3 => rfl | 4 => rfl | 5 => rfl | 6 => rfl | 7 => rfl

end

end Sys2Proof.Machine
end

section
/-! SUPPORT. POWER_ON and PIN_RESET, assembled (R9, R14, R28, R31, R39, R57, R102, R129, R144, R172 to R174, R192 to R196). -/

namespace Sys2Proof.Machine

/-! ### What the scan finds -/

section

variable {found : List (Nat × Page)}

/-- The state of a page with a header, by its header and by the newest page (R172). -/
theorem judgedStatus_cases (newest again : Option Nat) (n : Nat) (h : PageHeader) :
    (h.retiredMark = true → judgedStatus newest again n h = .retired) ∧
      (h.retiredMark = false → h.checkOk = true → h.closed = true → judgedStatus newest again n h = .full) ∧
      (h.retiredMark = false → h.checkOk = true → h.closed = false →
        (newest = some n → judgedStatus newest again n h = .opened) ∧ (newest ≠ some n → judgedStatus newest again n h = .full)) ∧
      (h.retiredMark = false → h.checkOk = false →
        (again = some n → judgedStatus newest again n h = .full) ∧ (again ≠ some n → judgedStatus newest again n h = .retired)) := by
  refine ⟨fun hr => ?_, fun hr hk hc => ?_, fun hr hk hc => ⟨fun he => ?_, fun he => ?_⟩, fun hr hk => ⟨fun he => ?_, fun he => ?_⟩⟩
  · rw [judgedStatus, hr]
    rfl
  · rw [judgedStatus, hr, hk, hc]
    rfl
  · rw [judgedStatus, hr, hk, hc, if_pos he]
    rfl
  · rw [judgedStatus, hr, hk, hc, if_neg he]
    rfl
  · rw [judgedStatus, hr, hk, if_pos he]
    rfl
  · rw [judgedStatus, hr, hk, if_neg he]
    rfl

/-- The first operation where no page passes, by the pages judged. -/
theorem scan_firstOp_none (h : newestPage found = none) :
    (∀ n, n < 256 → (pageAt (scan found).archive.pages n).status = .erased →
        (∀ k, k < n → (pageAt (scan found).archive.pages k).status ≠ .erased) → (scan found).archive.firstOp = .openFirst n) ∧
      ((∀ n, n < 256 → (pageAt (scan found).archive.pages n).status ≠ .erased) → (scan found).archive.firstOp = .nothing) := by
  obtain ⟨-, hfirst, -⟩ := scan_parts found
  obtain ⟨hsome, hnone⟩ :=
    firstOperation_none (scan found).archive.pages ((newestPage found).bind (fun e => eraseCutOff found e.1))
  rw [h] at hfirst hsome hnone
  exact ⟨fun n hn he hlt => hfirst.trans (hsome n (lowestErased_eq_some hn he hlt)),
    fun hall => hfirst.trans (hnone (lowestErased_eq_none hall))⟩

/-- The first operation by the newest page (R172). -/
theorem scan_firstOp_some {n : Nat} {p : Page} {h : PageHeader} (hn : newestPage found = some (n, p)) (hh : p.header = some h) :
    (h.closed = true → (scan found).archive.firstOp = .takeNext n) ∧
      (h.closed = false → p.cutOff = true → (scan found).archive.firstOp = .close n) ∧
      (h.closed = false → p.cutOff = false →
        (scan found).archive.firstOp = (match eraseCutOff found n with | some k => .eraseAgain k | none => .nothing)) := by
  obtain ⟨-, hfirst, -⟩ := scan_parts found
  obtain ⟨hclosed, hclose, hopen⟩ := firstOperation_some (scan found).archive.pages n hh (eraseCutOff found n)
  rw [hn] at hfirst
  change (scan found).archive.firstOp = firstOperation (scan found).archive.pages (some (n, p)) (eraseCutOff found n) at hfirst
  rw [hfirst]
  refine ⟨hclosed, hclose, fun hc hcut => ?_⟩
  obtain ⟨hagain, hnothing⟩ := hopen hc hcut
  cases he : eraseCutOff found n with
  | none =>
    have hstep := hnothing he
    rw [he] at hstep
    exact hstep
  | some k =>
    have hstep := hagain k he
    rw [he] at hstep
    exact hstep

/-- The next index that the scan finds behind the newest record, by the newest page (R173). -/
theorem scan_nextIndex {r : StoredRecord} (hr : (scannedRecords found).getLast? = some r) {n : Nat} {p : Page}
    (hn : newestPage found = some (n, p)) :
    (scan found).archive.nextIndex =
      r.index + (if (p.records.takeWhile (·.intact)).length < p.records.length then 2 else 1) := by
  obtain ⟨-, -, hnext, -⟩ := scan_parts found
  rw [hnext, hr, hn]
  show r.index + (if p.cutOff then 2 else 1) = _
  by_cases hc : (p.records.takeWhile (·.intact)).length < p.records.length
  · rw [if_pos hc, if_pos (show p.cutOff = true from decide_eq_true hc)]
  · rw [if_neg hc, if_neg (show ¬ p.cutOff = true from fun h => hc (of_decide_eq_true h))]

/-- Without records the scan finds nothing. -/
theorem scan_empty (h : scannedRecords found = []) :
    (scan found).archive.nextIndex = 0 ∧ (scan found).newestTime = none ∧ (scan found).floor = 0 ∧
      (scan found).observation = none ∧ (scan found).gauging = none := by
  obtain ⟨-, -, hnext, htime, hfloor, hobs, hgauging⟩ := scan_parts found
  rw [hnext, htime, hfloor, hobs, hgauging, h]
  exact ⟨rfl, rfl, rfl, rfl, rfl⟩

end

/-! ### What a reset leaves -/

/-- The station time that power-on takes from the scan. -/
theorem powerOnTime_some (v : Nat) : powerOnTime (some v) = min 4294967295 (v + 1) := by
  show (if v < 4294967295 then v + 1 else 4294967295) = _
  split <;> omega

theorem cutWrite_cons (m : Medium) (left : Remnant) (w : PendingWrite) (rest : List PendingWrite) :
    (left = .former → cutWrite m left (w :: rest) = m) ∧ (left = .done → cutWrite m left (w :: rest) = m.put w.data true) ∧
      (left = .bad → cutWrite m left (w :: rest) = m.put w.data false) := by
  refine ⟨?_, ?_, ?_⟩ <;> rintro rfl <;> rfl

section

variable (s : State) (hold : Bool) (m : Medium) (x : Scan) (c : Clock)

/-- What a reset leaves whether the line asks for a hold or not. -/
theorem State.restart_frame :
    s.restart hold m x c =
      { s.restored m x c with
        lau := { m.lau x.observation with hold := (s.restart hold m x c).lau.hold }
        notices := (s.restart hold m x c).notices
        archive := { x.archive with queue := (s.restart hold m x c).archive.queue }
        ports := (s.restart hold m x c).ports } := by
  cases hold <;> rfl

/-- The station time of a reset is told of nowhere else but in what is told of the hold. -/
theorem State.restart_clock (d : Clock) :
    s.restart hold m x d =
      { s.restart hold m x c with
        clock := d, notices := (s.restart hold m x d).notices
        archive := { (s.restart hold m x c).archive with queue := (s.restart hold m x d).archive.queue }
        ports := (s.restart hold m x d).ports } := by
  cases hold <;> rfl

/-- The hold after a reset, by the line (R39). -/
theorem State.restart_hold :
    (hold = false → (s.restart hold m x c).lau.hold =
        { state := .none, timer := none, manual := none, count := 0, limit := m.holdLimit.restore Factory.holdLimit }) ∧
      (hold = true → (s.restart hold m x c).lau.hold =
        { state := .held, timer := some (100 * m.holdLimit.restore Factory.holdLimit), manual := none, count := 0
          limit := m.holdLimit.restore Factory.holdLimit }) ∧
      (s.restart hold m x c).lau.hold.limit = m.holdLimit.restore Factory.holdLimit := by
  cases hold
  · exact ⟨fun _ => rfl, nofun, rfl⟩
  · exact ⟨nofun, fun _ => rfl, rfl⟩

/-- The ports after a reset owe nothing, and send what is told of the hold (R39, R192). -/
theorem State.restart_ports (hq : x.archive.queue = []) :
    (s.restart hold m x c).ports.l = PortL.reset ∧ (s.restart hold m x c).ports.f = PortAsync.reset ∧
      (s.restart hold m x c).ports.t = { PortAsync.reset with sending := (s.restart hold m x c).ports.t.sending } ∧
      (∀ q, (s.restart hold m x c).ports.slot q = none) ∧ (s.restart hold m x c).ports.nextId = 0 ∧
      (s.restart hold m x c).notices.overflowed = false ∧
      (hold = false → (s.restart hold m x c).ports.t.sending = none ∧ (s.restart hold m x c).notices.held = [] ∧
        (s.restart hold m x c).archive.queue = []) ∧
      (hold = true →
        (s.restart hold m x c).ports.t.sending =
            some (.notice
              { time := (s.restart hold m x c).clock.time, body := .hold m.startHold, overflowed := false, lossSince := false }) ∧
          (s.restart hold m x c).notices.held =
            [{ time := (s.restart hold m x c).clock.time, body := .hold m.startHold, inTransmission := true }] ∧
          (s.restart hold m x c).archive.queue =
            (if (s.restart hold m x c).archive.state.isFailed then []
              else [{ record := .hold m.startHold, time := (s.restart hold m x c).clock.time, owner := .nobody, index := none }])) := by
  cases hold
  · exact ⟨rfl, rfl, rfl, fun q => by cases q <;> rfl, rfl, rfl, fun _ => ⟨rfl, rfl, hq⟩, nofun⟩
  · exact ⟨rfl, rfl, rfl, fun q => by cases q <;> rfl, rfl, rfl, nofun, fun _ => ⟨rfl, rfl, rfl⟩⟩

/-- The cableway controller after a reset (R106, R129). -/
theorem Medium.cablewayUnit_eq (lines : Encoders) :
    m.cablewayUnit lines =
      { settings := (m.cablewayUnit lines).settings, state := .idle, holder := none, plan := none, run := none, endCause := none
        latestHold := none, remembered := none, window := none, motionTimer := none, exposureTimer := none, pauseTimer := none
        available := decide ((m.cablewayUnit lines).settings.span ≠ 0), drive := .off, target := none, lines := lines } := by
  have havailable : (m.cablewayUnit lines).available = decide ((m.cablewayUnit lines).settings.span ≠ 0) :=
    decide_eq_decide.2 Nat.pos_iff_ne_zero
  rw [← havailable]
  rfl

theorem Medium.rating_elevation :
    (∀ e, m.cell = some e → m.rating.elevation = e) ∧
      (m.cell = none → m.rating.elevation = if m.datum.ok then m.datum.value else 0) := by
  refine ⟨fun e he => ?_, fun he => ?_⟩ <;> simp only [Medium.rating, he]
  rfl

theorem Medium.lau_nextObs (o : Option Nat) :
    (m.lau o).nextObs = (match o with | none => 1 | some n => (n + 1) % 4294967296) := by
  cases o <;> rfl

end

/-- Settles O60: by the parts of the scan, and by the state that a reset restores. -/
theorem resetsLeaveTheResetValues : Obligations.ResetsLeaveTheResetValues := by
  refine ⟨fun found hwf x hx => ?_, fun s r => ?_⟩
  · subst hx
    have hfrom := (pagesWf_iff found).1 hwf
    obtain ⟨hpages, -, -, htime, -, hobs, hgauging⟩ := scan_parts found
    obtain ⟨hnone, hsome⟩ := newestPage_spec found
    refine ⟨fun n p hm h hh => ?_, fun n p hm hh => ?_, ?_, fun h => scan_firstOp_none h, fun n p hn h hh cut hcut => ?_,
      fun n p hn => ?_, fun l hl => ?_⟩
    · obtain ⟨hretired, hfull, hopen, herase⟩ := judgedStatus_cases ((newestPage found).map (·.1))
        ((newestPage found).bind (fun e => eraseCutOff found e.1)) n h
      have hnumber := newestPage_number hfrom hm
      refine ⟨_, hpages ▸ mem_judgePages hm hh, hretired, hfull, fun hr hk hc => ?_, herase⟩
      obtain ⟨hopened, hfull⟩ := hopen hr hk hc
      exact ⟨fun he => hopened (hnumber.2 he), fun he => hfull fun hn => he (hnumber.1 hn)⟩
    · rw [hpages, judgePages_erased hfrom hm hh]
      rfl
    · rw [hnone]
      exact ⟨fun hall n p hm => hall (n, p) hm, fun hall e he => hall e.1 e.2 he⟩
    · obtain rfl : p.cutOff = cut := hcut.symm
      exact scan_firstOp_some hn hh
    · obtain ⟨hp, hmax⟩ := hsome (n, p) hn
      exact ⟨newestPage_mem hn, hp, fun m q hm hq => hmax (m, q) hm hq⟩
    · obtain rfl : l = scannedRecords found := hl
      obtain ⟨hfloor, hfloorMem⟩ := scan_floor found
      refine ⟨scan_empty, fun r hr => ⟨?_, fun n p hn => scan_nextIndex hr hn, scan_indexEnd found hr⟩, hfloor, hfloorMem, ?_, ?_⟩
      · rw [htime, hr]
        rfl
      · rw [hobs]
        exact congrArg List.getLast? (List.filterMap_congr fun r _ => by cases r.record <;> rfl)
      · rw [hgauging]
        exact congrArg List.getLast? (List.filterMap_congr fun r _ => by cases r.record <;> rfl)
  · have ht : exec (.powerOn r) s = .next (s.restart r.holdLine (s.foundMedium r) (s.foundScan r)
        { time := powerOnTime (s.foundScan r).newestTime, quality := .uncertain, floor := (s.foundScan r).floor, phase := 0 }) :=
      congrArg Host.Outcome.next (s.resetWith_settle r _)
    have hu : exec (.pinReset r) s = .next (s.restart r.holdLine (s.foundMedium r) (s.foundScan r)
        { time := s.clock.time, quality := s.clock.quality, floor := (s.foundScan r).floor, phase := s.clock.phase - s.elapsed }) :=
      congrArg Host.Outcome.next (s.resetWith_settle r _)
    have hmedium : s.foundMedium r = r.damagedItems.foldl Medium.damage (cutWrite s.store.medium r.settingsWrite s.store.queue) := rfl
    have hscan : s.foundScan r = scan (damagePages r.damagedHeaders r.damagedRecords (s.archive.cut r.archiveOp)) := rfl
    have hempty : (s.foundScan r).archive.op = .idle ∧ (s.foundScan r).archive.waiting = [] ∧
        (s.foundScan r).archive.obsDropped = 0 ∧ (s.foundScan r).archive.othersDropped = 0 ∧
        (s.foundScan r).archive.verifications = ⟨none, none, none⟩ ∧ (s.foundScan r).archive.queue = [] :=
      ⟨rfl, rfl, rfl, rfl, rfl, rfl⟩
    generalize s.foundMedium r = m at ht hu hmedium
    generalize s.foundScan r = x at ht hu hscan hempty
    generalize r.holdLine = hold at ht hu ⊢
    generalize hc : ({ time := powerOnTime x.newestTime, quality := .uncertain, floor := x.floor, phase := 0 } : Clock) = c at ht
    generalize hd : ({ time := s.clock.time, quality := s.clock.quality, floor := x.floor, phase := s.clock.phase - s.elapsed } :
      Clock) = d at hu
    obtain ⟨hop, hwaiting, hobs, hothers, hverify, hqueue⟩ := hempty
    have hclock := s.restart_clock hold m x c d
    have hhold := s.restart_hold hold m x c
    have hpt := s.restart_ports hold m x c hqueue
    have hpu := s.restart_ports hold m x d hqueue
    have hframe := s.restart_frame hold m x c
    refine ⟨_, ht, _, hu, ?_⟩
    generalize s.restart hold m x c = t at hclock hhold hpt hframe ⊢
    generalize s.restart hold m x d = u at hclock hpu ⊢
    obtain ⟨hquiet, hheld, hlimit⟩ := hhold
    have hlau : t.lau = { m.lau x.observation with hold := t.lau.hold } := congrArg State.lau hframe
    have harchive : t.archive = { x.archive with queue := t.archive.queue } := congrArg State.archive hframe
    have hrating : t.rating = m.rating := congrArg State.rating hframe
    have hwarning : t.warning = m.warningUnit := congrArg State.warning hframe
    have hcable : t.cable = m.cablewayUnit s.cable.lines := congrArg State.cable hframe
    have hgauging : t.gauging = Gauging.reset x.gauging := congrArg State.gauging hframe
    have hstore : t.store = { medium := m, queue := [], defaulted := m.failing } := congrArg State.store hframe
    have hpending := congrArg State.pending hframe
    have hct : t.clock = c := congrArg State.clock hframe
    have hcu : u.clock = d := congrArg State.clock hclock
    have hmarks : t.store.defaulted = m.failing := congrArg Store.defaulted hstore
    have hmed : t.store.medium = m := congrArg Store.medium hstore
    refine ⟨?_, ?_, ?_, ?_, ?_, ?_, ?_, congrArg State.elapsed hframe, congrArg State.startingUp hframe,
      hpending, congrArg Lau.acq hlau, congrArg Lau.startOwed hlau, congrArg Lau.lastStart hlau,
      congrArg Lau.series hlau, congrArg Lau.disagree hlau, congrArg Lau.excitation hlau, congrArg RatingStore.frozen hrating,
      congrArg Warning.level hwarning, congrArg Warning.live hwarning, congrArg Warning.owed hwarning,
      congrArg Warning.firstTime hwarning, congrArg Warning.deadline hwarning, congrArg Warning.silent hwarning,
      congrArg Warning.relay hwarning, ?_, ?_, ?_, (congrArg Archive.op harchive).trans hop,
      (congrArg Archive.waiting harchive).trans hwaiting, (congrArg Archive.obsDropped harchive).trans hobs,
      (congrArg Archive.othersDropped harchive).trans hothers, (congrArg Archive.verifications harchive).trans hverify,
      congrArg Store.queue hstore, ?_, ?_, ?_, ?_, ?_, ?_⟩
    · rintro _ rfl
      rw [← hscan]
      refine ⟨harchive, ?_, ?_, ?_, ?_⟩
      · rw [hct, ← hc]
      · rw [hct, ← hc]
        show powerOnTime x.newestTime = _
        cases x.newestTime with
        | none => rfl
        | some v => exact powerOnTime_some v
      · rw [congrArg Lau.nextObs hlau]
        exact Medium.lau_nextObs m x.observation
      · rw [hgauging]
        cases x.gauging <;> rfl
    · have hfloor : ({ u.clock with floor := t.clock.floor } : Clock) = d := by rw [hct, hcu, ← hc, ← hd]
      rw [hfloor]
      exact hclock
    · rw [hct, ← hc]
    · rw [hct, ← hc]
    · rw [hcu, ← hd]
    · rw [hcu, ← hd]
    · rw [hcu, ← hd]
    · rw [hwarning, ← after_zero]
      rfl
    · rw [hcable]
      exact Medium.cablewayUnit_eq m s.cable.lines
    · rw [hgauging]
      rfl
    · have hbody : ∀ b : HoldBody,
          b = { entered := true, cause := .startLine, limit := some t.lau.hold.limit, count := none, last := none } →
          b = m.startHold := fun b hb => by
        rw [hb, hlimit]
        rfl
      intro v hv
      rcases hv with rfl | rfl
      · obtain ⟨h1, h2, h3, h4, h5, h6, hno, hyes⟩ := hpt
        exact ⟨h1, h2, h3, h4, h5, h6, hno, fun hl b hb => hbody b hb ▸ hyes hl⟩
      · obtain ⟨h1, h2, h3, h4, h5, h6, hno, hyes⟩ := hpu
        exact ⟨h1, h2, h3, h4, h5, h6, hno, fun hl b hb => hbody b hb ▸ hyes hl⟩
    · intro hl
      rw [hlimit]
      exact hquiet hl
    · intro hl
      rw [hlimit]
      exact hheld hl
    · intro c
      rw [congrArg Lau.status hlau, congrArg Lau.channels hlau]
      exact m.lau_status x.observation c
    · intro hitems
      rw [hmed, hmedium, hitems]
      refine ⟨fun hq => ?_, fun w rest hq => ?_⟩
      · rw [hq]
        rfl
      · rw [hq]
        cases r.settingsWrite <;> rfl
    · intro m' hm'
      obtain rfl : m' = m := hm'.trans hmed
      obtain ⟨hacq, hhold, hwarn, hcab, hshifts, hdatum⟩ := m'.failing_rest
      refine ⟨fun d' hd' => ?_, fun n hok hpos hmax => ?_, fun hall => ?_, fun n hok => ?_, fun c => ?_,
        congrArg Lau.settings hlau, hlimit, fun n => ?_, congrArg Warning.timers hwarning, congrArg Cableway.settings hcable,
        fun n => ?_, congrArg RatingStore.shifts hrating, congrArg RatingStore.fixed hrating, fun e he => ?_, fun he => ?_⟩
      · rw [hd', hmarks]
        exact ⟨m'.failing_channel, hacq, hhold, m'.failing_threshold, hwarn, hcab, m'.failing_slot, hshifts, hdatum⟩
      · rw [hrating]
        exact Medium.lastId_newest hok hpos hmax
      · rw [hrating]
        exact Medium.lastId_none hall
      · rw [hrating, Medium.rating_slot, if_pos hok]
      · rw [congrArg Lau.channels hlau]
        exact m'.lau_channel x.observation c
      · rw [hwarning]
        exact m'.warning_threshold n
      · rw [hrating, Medium.rating_slot]
        split <;> rfl
      · rw [hrating]
        exact (m'.rating_elevation).1 e he
      · rw [hrating]
        exact (m'.rating_elevation).2 he

end Sys2Proof.Machine
end
